-- ==== Sys2Proof/Word.lean ====
section
/-! DEFINITION. The word type and the fixed-size arrays of the model.
The DN-720 exchanges bytes on its links and keeps its tables as rows of bytes; every figure is an integer
(00_scope.md, Conventions). `Tab n α` is an array of exactly `n` places, so that a table keeps its shape by its type (R2). -/

namespace Sys2Proof

/-- A byte of a frame or of a table row. -/
abbrev Byte := BitVec 8

/-- An array of exactly `n` places, numbered from 0. -/
structure Tab (n : Nat) (α : Type) where
  cells : List α
  full : cells.length = n
  deriving DecidableEq, Repr

/-- Every place holds `a`. -/
def Tab.replicate (n : Nat) {α : Type} (a : α) : Tab n α :=
  ⟨List.replicate n a, List.length_replicate⟩

/-- Place `i` holds `f i`. -/
def Tab.build (n : Nat) {α : Type} (f : Nat → α) : Tab n α :=
  ⟨(List.range n).map f, by simp⟩

/-- What place `i` holds, or nothing beyond the end. -/
def Tab.get? {n : Nat} {α : Type} (t : Tab n α) (i : Nat) : Option α := t.cells[i]?

/-- What place `i` holds; the type's default beyond the end, which no caller reads. -/
def Tab.get {n : Nat} {α : Type} [Inhabited α] (t : Tab n α) (i : Nat) : α := t.cells.getD i default

/-- Place `i` takes `a`; nothing changes beyond the end. -/
def Tab.set {n : Nat} {α : Type} (t : Tab n α) (i : Nat) (a : α) : Tab n α :=
  ⟨t.cells.set i a, by rw [List.length_set]; exact t.full⟩

/-- Every place takes `f` of what it holds. -/
def Tab.map {n : Nat} {α β : Type} (f : α → β) (t : Tab n α) : Tab n β :=
  ⟨t.cells.map f, by rw [List.length_map]; exact t.full⟩

end Sys2Proof
end

