-- ==== Sys2Proof/Syntax.lean ====
section
/-! DEFINITION. The commands of the DN-720: one constructor for each row of spec/opcode_table.json.
A request carries the link its frame arrived on and the argument bytes after its mnemonic, any bytes at all, since each
message judges its own payload (R198, Request arguments). Every other command carries what names the input or output it
concerns (11, Signal summary). -/

namespace Sys2Proof

/-- The two message links (00_scope.md, How the outside reaches the part). -/
inductive Link where
  | ship | shore
  deriving DecidableEq, Repr, Inhabited

/-- The four ballast pumps, P0 to P3 (R104). -/
inductive Pump where
  | p0 | p1 | p2 | p3
  deriving DecidableEq, Repr, Inhabited

/-- The six drivers, in the order of T6 (R10). -/
inductive Driver where
  | p0 | p1 | p2 | p3 | g0 | g1
  deriving DecidableEq, Repr, Inhabited

/-- What a transmitter sends on the sensor loop: a slot number with a level in mm or a fault indication, or an answer
that is garbled (R23). -/
inductive SensorAnswer where
  | level (slot mm : Nat)
  | fault (slot : Nat)
  | garbled
  deriving DecidableEq, Repr

/-- The link-rate straps as levels, true when closed (R196). -/
structure Straps where
  a : Bool
  b : Bool
  deriving DecidableEq, Repr

/-- The commands, in the order of the opcode table. -/
inductive Instr where
  /-- HARDWARE_RESET (R207): Power-on or the reset input: every block takes its hardware-reset values, the straps are read and verification of the ship data begins. `held` says that the reset input stays held, so that the part is in reset until a HARDWARE_RESET that releases it (log entry 2). -/
  | hardwareReset (held : Bool) (straps : Straps)
  /-- VERIFICATION_END (R21): The verification after reset completes and leaves the data state VALID or INVALID; on VALID it sets densities, FIXED masses and the refresh mark and starts the first sweep. -/
  | verificationEnd
  /-- FRAME_BYTE_RECEIVED (R195): A byte arrives on a link receiver and is hunted for, collected into a frame, or ends a frame that is then CRC-checked. -/
  | frameByteReceived (link : Link) (byte : Byte)
  /-- BYTE_GAP_EXPIRY (R195): More than 50 ms passes between two bytes of a frame, so the frame is abandoned and the receiver returns to HUNTING. -/
  | byteGapExpiry (link : Link)
  /-- TRANSMIT_FRAME_END (R196): The last CRC byte of a reply or notice is sent and the link's transmitter becomes FREE. -/
  | transmitFrameEnd (link : Link)
  /-- SHIP_NOTICE_SEND (R201): With the ship link free and no request or commit in hand, the highest-priority pending notice kind is sent and leaves the pending set. -/
  | shipNoticeSend
  /-- SHORE_NOTICE_SEND (R203): With the shore link free and no request or commit in hand, the front PMIT, PHLD or PRES notice of the shore queue is sent. -/
  | shoreNoticeSend
  /-- WSEL (R12): Opens the table window on a span of rows of T0 to T6, T8 or T9. -/
  | wsel (link : Link) (args : List Byte)
  /-- WPUT (R13): Writes the next k rows at the window position, making the data state UNCOMMITTED for T0 to T6. -/
  | wput (link : Link) (args : List Byte)
  /-- WGET (R14): Reads the next k rows at the window position and advances the position. -/
  | wget (link : Link) (args : List Byte)
  /-- SDCM (R17): Takes the commit of T0 to T6 and holds both links while validation and the checksum run. -/
  | sdcm (link : Link) (args : List Byte)
  /-- COMMIT_COMPLETE (R19): The commit completes. On success it stores the checksum and resets the data-dependent state; on failure it sets the fault record and leaves the data INVALID. -/
  | commitComplete
  /-- SMSK (R24): Writes the next slot mask or reads both masks. -/
  | smsk (link : Link) (args : List Byte)
  /-- TDEN (R33): Sets one tank's density, recomputes its mass and reference mass, and sets the refresh mark. -/
  | tden (link : Link) (args : List Byte)
  /-- TANK (R39): Reads one tank's gauge record, slot and mask flags. -/
  | tank (link : Link) (args : List Byte)
  /-- METR (R52): Reads one driver's meter or gravity-line figures. -/
  | metr (link : Link) (args : List Byte)
  /-- COND (R77): Reads the engine's state and the published condition record. -/
  | cond (link : Link) (args : List Byte)
  /-- PROJ (R78): Reads the generation, the projection mark and the kept projection result. -/
  | proj (link : Link) (args : List Byte)
  /-- FIXM (R76): Sets the mass of one FIXED compartment and sets the refresh mark. -/
  | fixm (link : Link) (args : List Byte)
  /-- LIMS (R93): Reads the limit status record and the operation parameters. -/
  | lims (link : Link) (args : List Byte)
  /-- TIDE (R82): Sets the tide height, recomputes the clearances and AIR_DRAFT flags, and hands the change on to the Pour Tracker. -/
  | tide (link : Link) (args : List Byte)
  /-- STPR (R91): Clears the stop latch unless the stress watch is BREACH. -/
  | stpr (link : Link) (args : List Byte)
  /-- XSTA (R109): Starts a transfer with owner LINK on a driver after the start checks. -/
  | xsta (link : Link) (args : List Byte)
  /-- XSTP (R118): Ends the transfer on a driver with reason STOPPED. -/
  | xstp (link : Link) (args : List Byte)
  /-- XFER (R119): Reads one driver's transfer record and outputs. -/
  | xfer (link : Link) (args : List Byte)
  /-- VALV (R102): Reads one valve record, or closes a valve that no transfer holds. -/
  | valv (link : Link) (args : List Byte)
  /-- VCLR (R103): Clears a valve fault by adopting the end its feedback shows. -/
  | vclr (link : Link) (args : List Byte)
  /-- SQXC (R139): Validates the standby program and swaps the program banks. -/
  | sqxc (link : Link) (args : List Byte)
  /-- SQGO (R135): Runs the active program from step 0. -/
  | sqgo (link : Link) (args : List Byte)
  /-- SQPS (R136): Suspends the Sequencer's walk, or makes it SUSPENDING during a start phase. -/
  | sqps (link : Link) (args : List Byte)
  /-- SQRS (R137): Resumes a suspended walk according to its suspend reason. -/
  | sqrs (link : Link) (args : List Byte)
  /-- SQAB (R138): Ends every PROGRAM transfer with reason ABORTED and makes the Sequencer READY. -/
  | sqab (link : Link) (args : List Byte)
  /-- SEQQ (R145): Reads the Sequencer's state and, optionally, one active step. -/
  | seqq (link : Link) (args : List Byte)
  /-- OPBG (R148): Begins a loading operation and sets parameters, densities, the latch, the history and the log. -/
  | opbg (link : Link) (args : List Byte)
  /-- OPND (R149): Ends the loading operation and turns the pour enable line off. -/
  | opnd (link : Link) (args : List Byte)
  /-- PLXC (R151): Validates the standby plan and applies the exchange at once or makes it pending. -/
  | plxc (link : Link) (args : List Byte)
  /-- POUR (R167): Reads the tracker's state, the current pour and the plan position. -/
  | pour (link : Link) (args : List Byte)
  /-- PHIS (R168): Reads the most recent pour record bearing a given pour number. -/
  | phis (link : Link) (args : List Byte)
  /-- HSET (R165): Sets one hold's mass, records the correction and sets the refresh mark. -/
  | hset (link : Link) (args : List Byte)
  /-- LPST (R159): The loader reports a pour start, which sets started or opens an UNEXPECTED pour. -/
  | lpst (link : Link) (args : List Byte)
  /-- LTAL (R160): The loader reports a cumulative tally, which updates the hold mass and may set the latch POUR_AFTER_HOLD. -/
  | ltal (link : Link) (args : List Byte)
  /-- LPND (R161): The loader reports the end of a pour, and the tracker writes the pour record and moves to the next pour. -/
  | lpnd (link : Link) (args : List Byte)
  /-- LHAK (R162): The loader acknowledges a hold, which makes the pour HELD. -/
  | lhak (link : Link) (args : List Byte)
  /-- RPTB (R190): Builds a POUR, DISCHARGE or FINAL report into the report buffer. -/
  | rptb (link : Link) (args : List Byte)
  /-- RPTG (R192): Fetches one page of the built report. -/
  | rptg (link : Link) (args : List Byte)
  /-- DLOG (R193): Reads the log's state and optionally one entry. -/
  | dlog (link : Link) (args : List Byte)
  /-- STAT (R206): Reads the state of the whole part, on either link. -/
  | stat (link : Link) (args : List Byte)
  /-- NTEN (R202): Sets or reads the enables of the maskable notices. -/
  | nten (link : Link) (args : List Byte)
  /-- CLKS (R205): Sets the port clock. -/
  | clks (link : Link) (args : List Byte)
  /-- RSTR (R208): Soft restart: abandons partial frames, empties the pending set, discards the engine job, restarts the sweep and Sequencer, and ends transfers RESTART. -/
  | rstr (link : Link) (args : List Byte)
  /-- SENSOR_ANSWER (R23): A transmitter answer arrives on the sensor loop, and one naming the polled slot within the window yields the slot's reading. -/
  | sensorAnswer (answer : SensorAnswer)
  /-- REPLY_WINDOW_EXPIRY (R23): The 100 ms reply window of a poll expires with no accepted answer, yielding FAULT NO_REPLY. -/
  | replyWindowExpiry
  /-- SWEEP_COUNTDOWN_EXPIRY (R22): The 1 s countdown of a sweep that polls no slot expires and ends the sweep. -/
  | sweepCountdownExpiry
  /-- METER_PULSE (R42): A flow-meter pulse updates the pump's total, rate bin, transfer or unattributed count, and its countdown. -/
  | meterPulse (pump : Pump)
  /-- SECOND_BOUNDARY (R43): Every tenth tick the rate bins close, pump rates are computed and the port clock rises by one. -/
  | secondBoundary
  /-- PRIMING_EXPIRY (R48): The priming countdown expires without a pulse and ends the transfer NO_FLOW. -/
  | primingExpiry (pump : Pump)
  /-- NO_FLOW_EXPIRY (R49): The no-flow countdown expires in RUNNING and ends the transfer STRIPPED or NO_FLOW. -/
  | noFlowExpiry (pump : Pump)
  /-- RUNNING_FEEDBACK_FALL (R104): A pump's running feedback falls in PRIMING or RUNNING and ends the transfer PUMP_TRIP. -/
  | runningFeedbackFall (pump : Pump)
  /-- LIMIT_INPUT_CHANGE (R97): A valve limit input changes, which may bring an arrival, SWITCH_DISAGREE or UNCOMMANDED. -/
  | limitInputChange (channel : Fin 38) (openMade closedMade : Bool)
  /-- VALVE_TRAVEL_EXPIRY (R98): A valve's travel countdown expires before arrival, so it becomes FAULT STUCK. -/
  | valveTravelExpiry (channel : Fin 38)
  /-- INTERVAL_EXPIRY (R128): The step-interval countdown of a START expires, letting the pointer leave the step. -/
  | intervalExpiry
  /-- DWELL_EXPIRY (R132): The dwell countdown expires and the pointer moves on. -/
  | dwellExpiry
  /-- ACK_EXPIRY (R162): The ack countdown expires in HOLD_REQUESTED, so the latch is set ACK_TIMEOUT and the pour becomes HELD. -/
  | ackExpiry
  /-- REFRESH_COMPLETE (R69): A refresh job completes and publishes its condition record, handing it along the condition path. -/
  | refreshComplete
  /-- PROJECTION_COMPLETE (R74): A projection job completes and its two-case result is judged and kept or discarded. -/
  | projectionComplete
  /-- CONSOLE_REQUEST_RISE (R171): The console request rises in AUTO, making the state REQUESTED and judging the grant condition. -/
  | consoleRequestRise
  /-- CONSOLE_REQUEST_DROP (R174): The console request drops, returning REQUESTED to AUTO or releasing a grant into RECONCILING. -/
  | consoleRequestDrop
  /-- RUNNING_FEEDBACK_RISE (R104): A pump's running-feedback input rises from absent to present, so that a later fall of it can be judged as PUMP_TRIP and take-back finds the pump running. -/
  | runningFeedbackRise (pump : Pump)
  deriving DecidableEq, Repr

end Sys2Proof
end

