-- ==== Sys2Proof/Decode.lean ====
section
/-! DEFINITION. The decoder over the rows of spec/opcode_table.json that give bits. The table gives no row any bits, since
the block's commands reach it as frames, field inputs and ends of its own work, and not as words; so no word spells a
command. How a request frame is read byte by byte is FRAME_BYTE_RECEIVED's meaning (R195, R198). -/

namespace Sys2Proof

/-- The command that a word of the table's bits spells: none, for every word, since no row has bits. -/
def decodeTableWord (_nbits _w : Nat) : Option Instr := none

end Sys2Proof
end

