-- ==== Sys2Proof/Machine/State.lean ====
section
/-! DEFINITION. The state of the DN-720: every piece of state the spec gives its eleven blocks, its inputs and outputs, and
the queue of commands that wait. Each block owns its own structure, in the order of the block overview (00_scope.md). -/

namespace Sys2Proof.Machine

/-! ## Names -/

/-- The data state (R15). -/
inductive DataState where
  | checking | valid | uncommitted | invalid
  deriving DecidableEq, Repr, Inhabited

/-- The cause of INVALID data and of a fault record (R15, R16). -/
inductive DataCause where
  | corrupt | validation
  deriving DecidableEq, Repr, Inhabited

/-- The tables reached through the window: T0 to T6, T8 and T9; T7 names no table (R2). -/
inductive TableId where
  | t0 | t1 | t2 | t3 | t4 | t5 | t6 | t8 | t9
  deriving DecidableEq, Repr, Inhabited

/-- The kind of a row of T1 (R4). -/
inductive Kind where
  | unused | ballast | hold | fixed | lightship
  deriving DecidableEq, Repr, Inhabited

/-- The quality of a gauge (R26). -/
inductive GaugeState where
  | unread | good | held | lost | masked
  deriving DecidableEq, Repr, Inhabited

/-- The kind of a faulted reading (R26). -/
inductive ReadFault where
  | sensor | range | noReply
  deriving DecidableEq, Repr, Inhabited

/-- Where a tank's mass comes from (R26). -/
inductive Source where
  | gauge | estimate
  deriving DecidableEq, Repr, Inhabited

/-- Where the last conversion fell against the sounding table; `within` is the spec's NONE (R26). -/
inductive OffTable where
  | within | below | above
  deriving DecidableEq, Repr, Inhabited

/-- What a slot yielded in a sweep (R23). -/
inductive Reading where
  | level (mm : Nat)
  | fault (kind : ReadFault)
  | notPolled
  deriving DecidableEq, Repr, Inhabited

/-- What a pump's no-flow countdown is timing (R41). -/
inductive Phase where
  | off | priming | flowWatch
  deriving DecidableEq, Repr, Inhabited

/-- The two kinds of engine job (R54). -/
inductive JobKind where
  | refresh | projection
  deriving DecidableEq, Repr, Inhabited

/-- The stress watch (R80). -/
inductive Watch where
  | normal | caution | breach
  deriving DecidableEq, Repr, Inhabited

/-- Which figure M is taken from (R80). -/
inductive StressSource where
  | sf | bm
  deriving DecidableEq, Repr, Inhabited

/-- Which of the two drafts is the deeper (R80). -/
inductive DraftEnd where
  | aft | fwd
  deriving DecidableEq, Repr, Inhabited

/-- The causes that set the stop latch (R89). -/
inductive LatchCause where
  | breach | ackTimeout | pourAfterHold
  deriving DecidableEq, Repr, Inhabited

/-- The two ends of a valve's travel, and the ends a command names (R96, R97). -/
inductive ValveEnd where
  | opened | closed
  deriving DecidableEq, Repr, Inhabited

/-- A valve's state as the part judges it (R96). -/
inductive ValveState where
  | closed | opening | opened | closing | fault
  deriving DecidableEq, Repr, Inhabited

/-- The cause of a valve's FAULT (R96). -/
inductive ValveFault where
  | stuck | switchDisagree | uncommanded
  deriving DecidableEq, Repr, Inhabited

/-- What a valve's two limit inputs show together (R96). -/
inductive Feedback where
  | opened | closed | neither | both
  deriving DecidableEq, Repr, Inhabited

/-- The stage of a transfer (R105). -/
inductive XferState where
  | idle | opening | priming | running | closing | handedOver
  deriving DecidableEq, Repr, Inhabited

/-- Who started a transfer (R105). -/
inductive Owner where
  | program | link
  deriving DecidableEq, Repr, Inhabited

/-- The direction of a transfer (R105). -/
inductive Direction where
  | discharge | fill
  deriving DecidableEq, Repr, Inhabited

/-- The target a start carries: a mass in 0.1 t, or EMPTY (R105). -/
inductive Target where
  | mass (m : Nat)
  | empty
  deriving DecidableEq, Repr, Inhabited

/-- The twelve end reasons (section 6.6). -/
inductive EndReason where
  | target | stripped | stopped | aborted | valveFault | noFlow | pumpTrip | noMeasure | headLost | overfill
  | changedByHand | restart
  deriving DecidableEq, Repr, Inhabited

/-- The refusal causes of the start checks (R106). -/
inductive StartCause where
  | notLoading | console | badArgument | notEligible | paceFixed | driverBusy | tankBusy | valveFault | noMeasure
  | noCondition | lowHead
  deriving DecidableEq, Repr, Inhabited

/-- The Sequencer's states (R125). -/
inductive SeqState where
  | empty | ready | running | suspending | suspended | yielded | complete
  deriving DecidableEq, Repr, Inhabited

/-- What the pointer waits for; `nothing` is the spec's none (R122). -/
inductive WaitReason where
  | nothing | driver | tank | opening | interval | transfer | pour | dwell
  deriving DecidableEq, Repr, Inhabited

/-- Why the Sequencer is SUSPENDED or SUSPENDING; `nothing` is the spec's none (R122). -/
inductive SuspendReason where
  | nothing | host | transferFault | stepRefused | deadlock
  deriving DecidableEq, Repr, Inhabited

/-- The suspend detail: a refusal cause, an end reason, or none (R122). -/
inductive SuspendDetail where
  | nothing
  | refused (cause : StartCause)
  | ended (reason : EndReason)
  deriving DecidableEq, Repr, Inhabited

/-- The operation state (R147). -/
inductive OpState where
  | idle | loading | complete
  deriving DecidableEq, Repr, Inhabited

/-- The Pour Tracker's states (R153). -/
inductive TrackerState where
  | idle | evaluating | permitted | holdRequested | held | pouring | planDone
  deriving DecidableEq, Repr, Inhabited

/-- The reasons an evaluation judges, in the order of the pour report's bits (R154, Pour report). -/
inductive Reason where
  | noCondition | stage | breach | stopLatch | lag | holdMass | historyFull | projection | airDraft | draft | trim
  | overpour | unexpected
  deriving DecidableEq, Repr, Inhabited

/-- A set of the thirteen reasons, bit `n` for the reason of that place in the pour report's layout. -/
abbrev Reasons := BitVec 13

/-- The console states (R170). -/
inductive ConsoleState where
  | auto | requested | granted | reconciling
  deriving DecidableEq, Repr, Inhabited

/-- The means by which logged water moved (R181). -/
inductive Method where
  | driver (d : Driver)
  | hand
  | mixed
  deriving DecidableEq, Repr, Inhabited

/-- How a logged volume was measured (R181). -/
inductive Basis where
  | gauge | meter | gaugePartial | mass
  deriving DecidableEq, Repr, Inhabited

/-- The three reports (R190). -/
inductive ReportKind where
  | pour | discharge | final
  deriving DecidableEq, Repr, Inhabited

/-- The reply codes, in the order of their numbers 0 to 8 (R199, Frame). -/
inductive ReplyCode where
  | done | unknown | length | range | state | busy | data | console | valve
  deriving DecidableEq, Repr, Inhabited

/-- The link rates the straps select (R196). -/
inductive LinkRate where
  | baud9600 | baud19200 | baud38400 | baud115200
  deriving DecidableEq, Repr, Inhabited

/-- The request mnemonics of the two links (Message summary). -/
inductive Mnem where
  | wsel | wput | wget | sdcm | smsk | tden | tank | metr | cond | proj | fixm | lims | tide | stpr | xsta | xstp | xfer
  | valv | vclr | sqxc | sqgo | sqps | sqrs | sqab | seqq | opbg | opnd | plxc | pour | phis | hset | lpst | ltal | lpnd
  | lhak | rptb | rptg | dlog | stat | nten | clks | rstr
  deriving DecidableEq, Repr, Inhabited

/-- The ten kinds of ship notice, in order of priority (R200). -/
inductive NoticeKind where
  | breach | stop | valve | transfer | pour | gauge | sequence | change | limit | condition
  deriving DecidableEq, Repr, Inhabited

/-! ## Ship Data Store -/

/-- The seven tables, each row the bytes it was written as (R2, Table row forms). -/
structure Tables where
  t0 : Tab 1 (Tab 52 Byte)
  t1 : Tab 48 (Tab 27 Byte)
  t2 : Tab 16 (Tab 28 Byte)
  t3 : Tab 40 (Tab 20 Byte)
  t4 : Tab 640 (Tab 7 Byte)
  t5 : Tab 960 (Tab 5 Byte)
  t6 : Tab 6 (Tab 12 Byte)
  deriving DecidableEq, Repr

/-- The outcome of the last verification or commit that failed (R16). The table is given by its number. -/
structure FaultRecord where
  cause : DataCause
  table : Option Nat
  row : Option Nat
  check : Nat
  deriving DecidableEq, Repr

/-- An open table window (R11). -/
structure Window where
  table : TableId
  first : Nat
  count : Nat
  pos : Nat
  deriving DecidableEq, Repr

/-- The Ship Data Store (R2, R11, R15, R16, R17). -/
structure Store where
  tables : Tables
  checksum : BitVec 32
  dataState : DataState
  cause : Option DataCause
  fault : Option FaultRecord
  window : Option Window
  committing : Bool
  deriving DecidableEq, Repr

/-! ## Gauging unit -/

/-- One tank's gauge record (R26). The content source is a view of the gauge state. -/
structure GaugeRec where
  raw : Nat
  corrected : Nat
  volume : Nat
  density : Nat
  mass : Nat
  state : GaugeState
  faultCount : Nat
  lastFault : Option ReadFault
  neverRead : Bool
  baseMass : Nat
  baseCount : Nat
  offTable : OffTable
  refMass : Nat
  changed : Bool
  unexplained : Int
  deriving DecidableEq, Repr, Inhabited

/-- The Tank Register and the sweep state (R22, R24, R26). -/
structure Gauging where
  /-- the gauge record of each compartment that has one -/
  recs : Tab 48 (Option GaugeRec)
  currentMask : BitVec 32
  nextMask : BitVec 32
  sweeping : Bool
  /-- the slot the sweep has reached -/
  slot : Nat
  /-- the milliseconds left of the reply window of the poll outstanding -/
  poll : Option Nat
  /-- the ticks left of the countdown of a sweep that polls no slot -/
  countdown : Option Nat
  readings : Tab 32 Reading
  lastStamp : Option Nat
  prevStamp : Option Nat
  /-- a sweep end has been made since the last hardware reset or successful commit (R40; log entry 29) -/
  swept : Bool
  deriving DecidableEq, Repr

/-! ## Flow Metering Unit -/

/-- One pump's meter record (R41). The ten bins stand oldest first, the open bin last. -/
structure PumpMeter where
  total : Nat
  bins : Tab 10 Nat
  rate : Nat
  phase : Phase
  countdown : Nat
  unattributed : Nat
  deriving DecidableEq, Repr

/-- The baseline of a gravity line's rate (R41). -/
structure Baseline where
  volume : Nat
  stamp : Nat
  deriving DecidableEq, Repr

/-- One gravity line's record (R41). -/
structure GravityLine where
  rate : Nat
  baseline : Option Baseline
  deriving DecidableEq, Repr, Inhabited

/-- The Flow Metering Unit (R41). -/
structure Metering where
  p0 : PumpMeter
  p1 : PumpMeter
  p2 : PumpMeter
  p3 : PumpMeter
  g0 : GravityLine
  g1 : GravityLine
  deriving DecidableEq, Repr

/-! ## Condition Engine -/

/-- What a snapshot holds of a ballast tank (R58). -/
structure SnapTank where
  state : GaugeState
  offTable : OffTable
  neverRead : Bool
  inMask : Bool
  deriving DecidableEq, Repr

/-- What a snapshot holds of a compartment (R58). The hold number is 0 but for a HOLD row. -/
structure SnapComp where
  comp : Nat
  kind : Kind
  aft : Int
  fore : Int
  mass : Nat
  hold : Nat
  tank : Option SnapTank
  deriving DecidableEq, Repr

/-- The inputs copied at the start of a job (R58): the compartments, and for a projection the tank and target mass of each
transfer in flight. -/
structure Snapshot where
  comps : List SnapComp
  targets : List (Nat × Nat)
  deriving DecidableEq, Repr

/-- The quality flags of a condition (R68). -/
structure Quality where
  hydroClamped : Bool
  trimClamped : Bool
  gaugeHeld : Bool
  estimated : Bool
  offTable : Bool
  neverRead : Bool
  deriving DecidableEq, Repr

/-- One checkpoint's figures (R66, R67). -/
structure CpFig where
  sf : Int
  bm : Int
  sfMille : Nat
  bmMille : Nat
  deriving DecidableEq, Repr

/-- A computed condition: the fields of R70 but the sequence number and the stamp. -/
structure Condition where
  disp : Nat
  lcg : Int
  draft : Int
  tRef : Int
  tAft : Nat
  tFwd : Nat
  trim : Int
  rob : Nat
  cargo : Nat
  cps : List CpFig
  maxSf : Nat
  maxSfAt : Nat
  maxBm : Nat
  maxBmAt : Nat
  quality : Quality
  deriving DecidableEq, Repr

/-- A published condition record (R70). -/
structure Published where
  seq : Nat
  stamp : Nat
  cond : Condition
  deriving DecidableEq, Repr

/-- The parameters of a projection request (R56). -/
structure ProjReq where
  pour : Nat
  hold : Nat
  remaining : Nat
  gen : Nat
  deriving DecidableEq, Repr

/-- The reasons a projection can fail for (R73). -/
structure ProjReasons where
  stress : Bool
  draft : Bool
  trim : Bool
  airDraft : Bool
  deriving DecidableEq, Repr, Inhabited

/-- The figures and judgements of one case of a projection (R72, R73). -/
structure CaseResult where
  maxSf : Nat
  maxSfAt : Nat
  maxBm : Nat
  maxBmAt : Nat
  deepest : Nat
  trim : Int
  clearance : Option Int
  quality : Quality
  failed : ProjReasons
  deriving DecidableEq, Repr

/-- A kept projection result (R74). -/
structure ProjResult where
  req : ProjReq
  seq : Nat
  stamp : Nat
  caseA : CaseResult
  caseB : CaseResult
  reasons : ProjReasons
  deriving DecidableEq, Repr

/-- What a job computes: a refresh, or the projection of a request that an OPBG may have voided (R54, R59). -/
inductive Task where
  | refresh
  | projection (req : ProjReq) (void : Bool)
  deriving DecidableEq, Repr

/-- A job in flight: its task, its snapshot, its working condition (one case, or two for a projection), and the sequence
number of the record published at its beginning (R54, R58, R74). -/
structure Job where
  task : Task
  snapshot : Snapshot
  working : List Condition
  pubSeq : Nat
  deriving DecidableEq, Repr

/-- The Condition Engine (R54). -/
structure Engine where
  job : Option Job
  lastKind : Option JobKind
  refreshMark : Bool
  projMark : Option ProjReq
  published : Option Published
  nextSeq : Nat
  result : Option ProjResult
  fixed : Tab 48 Nat
  deriving DecidableEq, Repr

/-! ## Limits Unit -/

/-- The limit flags (R80). -/
structure LimitFlags where
  draft : Bool
  trim : Bool
  air : Tab 12 Bool
  deriving DecidableEq, Repr

/-- The set of latch causes (R80). -/
structure LatchCauses where
  breach : Bool
  ackTimeout : Bool
  pourAfterHold : Bool
  deriving DecidableEq, Repr

/-- The last setting of the latch: its cause, stamp, and sequence or pour number (R80). -/
structure LatchSetting where
  cause : LatchCause
  stamp : Nat
  number : Nat
  deriving DecidableEq, Repr

/-- The Limits Unit: the limit status record (R80) and the operation parameters (R81). The CAUTION flag is a view of the
stress watch (R85). -/
structure Limits where
  judgedSeq : Nat
  clearances : Tab 12 (Option Int)
  deepest : Option (Nat × DraftEnd)
  trim : Option Int
  flags : LimitFlags
  watch : Watch
  m : Nat
  mSource : StressSource × Nat
  latch : Bool
  causes : LatchCauses
  lastSetting : Option LatchSetting
  settings : Nat
  pourEnable : Bool
  maxDraft : Option Nat
  boom : Option Nat
  minClear : Option Nat
  tide : Int
  ackTime : Nat
  deriving DecidableEq, Repr

/-! ## Transfer Unit -/

/-- A valve record with its two drives (R96, R97): `drive` names the end whose drive is energised. -/
structure Valve where
  commanded : ValveEnd
  state : ValveState
  cause : Option ValveFault
  countdown : Nat
  handSet : Bool
  drive : Option ValveEnd
  deriving DecidableEq, Repr, Inhabited

/-- The start record of a transfer (R105). -/
structure StartRec where
  stamp : Nat
  mass : Nat
  volume : Nat
  good : Bool
  deriving DecidableEq, Repr

/-- The end record of a transfer (R105). -/
structure EndRec where
  stamp : Nat
  mass : Nat
  volume : Nat
  good : Bool
  notClosed : Bool
  deriving DecidableEq, Repr

/-- A transfer record (R105). -/
structure Transfer where
  state : XferState
  owner : Option Owner
  tank : Nat
  direction : Direction
  target : Target
  targetMass : Nat
  paced : Bool
  base : Nat
  setpoint : Option Nat
  start : Option StartRec
  finish : Option EndRec
  pulses : Nat
  step : Option Nat
  reason : Option EndReason
  deriving DecidableEq, Repr

/-- A pump's run and speed outputs (R104). -/
structure PumpOut where
  run : Bool
  speed : Nat
  deriving DecidableEq, Repr

/-- The six transfer records, one for each driver. -/
structure Transfers where
  p0 : Transfer
  p1 : Transfer
  p2 : Transfer
  p3 : Transfer
  g0 : Transfer
  g1 : Transfer
  deriving DecidableEq, Repr

/-- The Transfer Unit (R96, R104, R105, R117). -/
structure TransferUnit where
  transfers : Transfers
  valves : Tab 38 Valve
  out0 : PumpOut
  out1 : PumpOut
  out2 : PumpOut
  out3 : PumpOut
  paceGain : Nat
  deriving DecidableEq, Repr

/-! ## Sequencer -/

/-- How far the started transfer of the START in hand has gone (R122, R128). -/
structure Progress where
  driver : Driver
  entered : Bool
  ended : Option EndReason
  idle : Bool
  deriving DecidableEq, Repr

/-- The Sequencer's items that a grant saves (R144). -/
structure SeqCore where
  state : SeqState
  pointer : Nat
  progress : Option Progress
  interval : Nat
  dwell : Nat
  wait : WaitReason
  suspend : SuspendReason
  detail : SuspendDetail
  passes : Nat
  deriving DecidableEq, Repr

/-- A program bank: row 0 the header, rows 1 to 64 the steps, as written (R122). -/
abbrev ProgramBank := Tab 65 (Tab 11 Byte)

/-- The Sequencer (R122). `passes` of its core is the repeat count. While YIELDED `saved` is what R144 saves, and what the live
core holds beside it is log entry 47. -/
structure Sequencer where
  active : ProgramBank
  standby : ProgramBank
  core : SeqCore
  stage : Nat
  saved : Option SeqCore
  deriving DecidableEq, Repr

/-! ## Pour Tracker -/

/-- A plan bank: 96 entries as written (R150). -/
abbrev PlanBank := Tab 96 (Tab 20 Byte)

/-- The seven fields of a plan entry (R150). -/
structure PlanEntry where
  pour : Nat
  hold : Nat
  planned : Nat
  rob : Nat
  lagTol : Nat
  overTol : Nat
  stage : Nat
  deriving DecidableEq, Repr

/-- Where a pour comes from (R153). -/
inductive Origin where
  | plan (entry : Nat)
  | unexpected
  deriving DecidableEq, Repr

/-- The current pour (R153). -/
structure CurrentPour where
  origin : Origin
  entry : PlanEntry
  started : Bool
  startStamp : Nat
  holdAtStart : Nat
  stageAtStart : Nat
  tally : Nat
  revised : Bool
  reasons : Reasons
  holds : Nat
  union : Reasons
  deriving DecidableEq, Repr

/-- The projection standing (R147, R157). -/
structure Standing where
  passed : Bool
  pour : Nat
  gen : Nat
  reasons : ProjReasons
  deriving DecidableEq, Repr

/-- The condition at the end of a pour (R166). -/
structure PourCond where
  seq : Nat
  disp : Nat
  tAft : Nat
  tFwd : Nat
  draft : Int
  trim : Int
  maxSf : Nat
  maxSfAt : Nat
  maxBm : Nat
  maxBmAt : Nat
  rob : Nat
  deriving DecidableEq, Repr

/-- A pour record (R166). Its UNEXPECTED flag is a view of its origin. -/
structure PourRec where
  place : Nat
  pour : Nat
  hold : Nat
  origin : Origin
  planned : Nat
  tally : Nat
  revised : Bool
  startStamp : Nat
  endStamp : Nat
  holds : Nat
  union : Reasons
  stage : Nat
  cond : Option PourCond
  lag : Int
  correction : Option Int
  deriving DecidableEq, Repr

/-- The Pour Tracker (R147). -/
structure Tracker where
  op : OpState
  opbgStamp : Option Nat
  opndStamp : Option Nat
  density : Option Nat
  state : TrackerState
  active : PlanBank
  standby : PlanBank
  pos : Nat
  gen : Nat
  exchange : Bool
  cur : Option CurrentPour
  prevRob : Option Nat
  lag : Int
  lagBefore : Int
  standing : Option Standing
  lastReasons : Reasons
  ack : Option Nat
  holds : Tab 12 Nat
  corrections : Tab 12 Int
  history : List PourRec
  ended : Nat
  deriving DecidableEq, Repr

/-! ## Console Handover Unit -/

/-- What the tank snapshot holds of one tank (R172). -/
structure TankSnap where
  mass : Nat
  volume : Nat
  usable : Bool
  deriving DecidableEq, Repr

/-- One item for each of the six drivers. -/
structure SixOf (α : Type) where
  p0 : α
  p1 : α
  p2 : α
  p3 : α
  g0 : α
  g1 : α
  deriving DecidableEq, Repr

/-- The Console Handover Unit (R170). `handed` gives each handed-over driver's tank; `snapshot` none is void. -/
structure Console where
  state : ConsoleState
  grantLine : Bool
  grantStamp : Option Nat
  releaseStamp : Option Nat
  snapshot : Option (Tab 48 (Option TankSnap))
  handed : SixOf (Option Nat)
  reached : SixOf Bool
  closing : SixOf Bool
  deriving DecidableEq, Repr

/-! ## Record Keeper -/

/-- A log entry (R181); `out` is direction OUT. -/
structure LogEntry where
  number : Nat
  tank : Nat
  out : Bool
  method : Method
  startTime : Nat
  endTime : Nat
  volume : Nat
  basis : Basis
  disagree : Bool
  notClosed : Bool
  merged : Bool
  merges : Nat
  density : Nat
  deriving DecidableEq, Repr

/-! ## Links -/

/-- One item of a reply, a notice's detail or a report. `raw` is bytes whose layout the Formats section gives; every other
item is a figure or a name whose coding it does not give (log entry 7). -/
inductive Item where
  | raw (bytes : List Byte)
  | num (v : Int)
  | flag (b : Bool)
  | absent
  | dataState (x : DataState)
  | dataCause (x : DataCause)
  | gaugeState (x : GaugeState)
  | readFault (x : ReadFault)
  | source (x : Source)
  | offTable (x : OffTable)
  | phase (x : Phase)
  | jobKind (x : JobKind)
  | watch (x : Watch)
  | stressSource (x : StressSource)
  | draftEnd (x : DraftEnd)
  | latchCause (x : LatchCause)
  | valveEnd (x : ValveEnd)
  | valveState (x : ValveState)
  | valveFault (x : ValveFault)
  | feedback (x : Feedback)
  | xferState (x : XferState)
  | owner (x : Owner)
  | direction (x : Direction)
  | target (x : Target)
  | endReason (x : EndReason)
  | startCause (x : StartCause)
  | seqState (x : SeqState)
  | waitReason (x : WaitReason)
  | suspendReason (x : SuspendReason)
  | suspendDetail (x : SuspendDetail)
  | opState (x : OpState)
  | trackerState (x : TrackerState)
  | reasons (x : Reasons)
  | origin (x : Origin)
  | consoleState (x : ConsoleState)
  | reportKind (x : ReportKind)
  | linkRate (x : LinkRate)
  | driver (x : Driver)
  | mnemonic (x : Mnem)
  /-- the marker PENDING or APPLIED of PLXC (R151) -/
  | applied (x : Bool)
  /-- the marker HEADER of SQXC (R139) -/
  | header
  /-- the marker "target reached under console" of a TRANSFER notice (R173) -/
  | targetReached
  deriving DecidableEq, Repr

/-- The Record Keeper's built report (R180): its contents as items, from which its pages are cut. -/
structure Report where
  kind : ReportKind
  place : Option Nat
  stamp : Nat
  contents : List Item
  deriving DecidableEq, Repr

/-- The Record Keeper (R180). -/
structure Records where
  log : List LogEntry
  nextNumber : Nat
  full : Bool
  discharged : Tab 48 (BitVec 48)
  takenUp : Tab 48 (BitVec 48)
  report : Option Report
  deriving DecidableEq, Repr

/-- A shore notice with the fields it carries (R158). -/
inductive ShoreNotice where
  | pmit (pour hold allowed : Nat)
  | phld (pour hold : Nat) (reasons : Reasons)
  | pres (pour hold : Nat)
  deriving DecidableEq, Repr

/-- The event a POUR notice reports (R158, R166, R203). -/
inductive PourEvent where
  | permit | held | resumed | started
  | ended (recorded : Bool)
  | refused (m : Mnem)
  | planDone
  | exchange
  | shoreLost (n : ShoreNotice)
  deriving DecidableEq, Repr

/-- The detail of each kind of ship notice (R29, R37, R71, R85, R88, R89, R100, R115, R143, R158, R173). -/
inductive Detail where
  | breach (seq m : Nat) (src : StressSource) (cp : Nat)
  | stop (cause : LatchCause) (number : Nat)
  | valve (channel : Nat) (cause : ValveFault) (fb : Feedback) (driver : Option Driver)
  | transfer (d : Driver) (tank : Nat) (owner : Option Owner) (reason : Option EndReason) (notClosed : Bool)
      (startVolume endVolume : Nat) (metered : Option Nat)
  | targetReached (d : Driver) (tank : Nat) (owner : Option Owner) (mass : Nat)
  | pour (event : PourEvent) (state : TrackerState) (concerned : Option (Nat × Nat)) (reasons : Reasons)
  | gauge (comp : Nat) (state : GaugeState) (fault : Option ReadFault) (count : Nat)
  | sequence (state : SeqState) (pointer stepKind : Nat) (suspend : SuspendReason) (detail : SuspendDetail) (passes : Nat)
  | change (comp : Nat) (difference : Int)
  | limit (seq : Nat) (flags changed : LimitFlags) (caution cautionChanged : Bool) (clearances : List (Nat × Option Int))
  | condition (seq : Nat)
  deriving DecidableEq, Repr

/-- A frame the part sends: a reply with its mnemonic, code, status byte and data, a ship notice or a shore notice
(R198, R201, R203). -/
inductive Frame where
  | reply (mnemonic : List Byte) (code : ReplyCode) (status : Byte) (data : List Item)
  | notice (detail : Detail)
  | shore (n : ShoreNotice)
  deriving DecidableEq, Repr

/-- A link's receiver (R195): HUNTING, or IN_FRAME with the bytes after 0xA5 and the milliseconds since the last. -/
inductive Receiver where
  | hunting
  | inFrame (got : List Byte) (gap : Nat)
  deriving DecidableEq, Repr, Inhabited

/-- One link (R195 to R197, R199). A request is held as its payload; `tx` none is FREE. -/
structure LinkState where
  rx : Receiver
  waiting : Option (List Byte)
  current : Option (List Byte)
  overrun : Bool
  tx : Option Frame
  deriving DecidableEq, Repr

/-- The Link Unit (R196, R197, R200, R202, R203). -/
structure Links where
  ship : LinkState
  shore : LinkState
  notices : Tab 10 (Option Detail)
  enables : BitVec 8
  queue : List ShoreNotice
  rate : LinkRate
  deriving DecidableEq, Repr

/-- The part's time base in milliseconds and the port clock in seconds (R204). -/
structure Clock where
  ms : Nat
  port : Nat
  deriving DecidableEq, Repr

/-- The levels of the field inputs and straps (Signal summary); a strap is true when closed. -/
structure Inputs where
  openLimit : Tab 38 Bool
  closedLimit : Tab 38 Bool
  running0 : Bool
  running1 : Bool
  running2 : Bool
  running3 : Bool
  consoleRequest : Bool
  strapA : Bool
  strapB : Bool
  /-- the reset input is held (R207) -/
  reset : Bool
  deriving DecidableEq, Repr

/-! ## The machine -/

/-- The whole part, and the commands that wait, first in, first out (log entry 1). -/
structure State where
  store : Store
  gauge : Gauging
  meter : Metering
  engine : Engine
  limits : Limits
  xfer : TransferUnit
  seq : Sequencer
  tracker : Tracker
  console : Console
  records : Records
  links : Links
  time : Clock
  inputs : Inputs
  pending : List Instr
  deriving DecidableEq, Repr

/-- No command of this part stops it: every refusal is a reply code and every fault is state (INVENTORY.md, Faults), so no
constructor stands here. -/
inductive Fault where
  deriving DecidableEq, Repr

/-- Refusals of the model, not of the part. -/
inductive Refusal where
  /-- Raised by exec for a command that has no meaning in the model yet; safe. No arm raises it. -/
  | notModelled (mnemonic : String)
  deriving DecidableEq, Repr

/-! ## Reset values -/

/-- A transfer record with every field cleared (R121; log entry 23). -/
def Transfer.cleared : Transfer :=
  { state := .idle, owner := none, tank := 0, direction := .discharge, target := .mass 0, targetMass := 0, paced := false,
    base := 0, setpoint := none, start := none, finish := none, pulses := 0, step := none, reason := none }

/-- A meter record after hardware reset (R53). -/
def PumpMeter.reset : PumpMeter :=
  { total := 0, bins := Tab.replicate 10 0, rate := 0, phase := .off, countdown := 0, unattributed := 0 }

/-- A gravity record after hardware reset (R53). -/
def GravityLine.reset : GravityLine := { rate := 0, baseline := none }

/-- A gauge record UNREAD with density `ρ` (R40). -/
def GaugeRec.unread (ρ : Nat) : GaugeRec :=
  { raw := 0, corrected := 0, volume := 0, density := ρ, mass := 0, state := .unread, faultCount := 0, lastFault := none,
    neverRead := true, baseMass := 0, baseCount := 0, offTable := .within, refMass := 0, changed := false, unexplained := 0 }

/-- The Sequencer's core with nothing in hand, in state `st` (R146). -/
def SeqCore.fresh (st : SeqState) : SeqCore :=
  { state := st, pointer := 0, progress := none, interval := 0, dwell := 0, wait := .nothing, suspend := .nothing,
    detail := .nothing, passes := 0 }

/-- The same item for all six drivers. -/
def SixOf.all {α : Type} (a : α) : SixOf α := ⟨a, a, a, a, a, a⟩

/-- A link after hardware reset (R207). -/
def LinkState.reset : LinkState :=
  { rx := .hunting, waiting := none, current := none, overrun := false, tx := none }

/-- The tables of a part as delivered: every field of every row 0 (R2). -/
def Tables.delivered : Tables :=
  { t0 := Tab.replicate 1 (Tab.replicate 52 0#8), t1 := Tab.replicate 48 (Tab.replicate 27 0#8),
    t2 := Tab.replicate 16 (Tab.replicate 28 0#8), t3 := Tab.replicate 40 (Tab.replicate 20 0#8),
    t4 := Tab.replicate 640 (Tab.replicate 7 0#8), t5 := Tab.replicate 960 (Tab.replicate 5 0#8),
    t6 := Tab.replicate 6 (Tab.replicate 12 0#8) }

/-- No limit flag set. -/
def LimitFlags.clear : LimitFlags := { draft := false, trim := false, air := Tab.replicate 12 false }

/-- No latch cause. -/
def LatchCauses.none : LatchCauses := { breach := false, ackTimeout := false, pourAfterHold := false }

/-- A valve adopted CLOSED from its feedback (R101), its countdown at 0 (DESIGN CHOICE, log entry 45). -/
def Valve.shut : Valve :=
  { commanded := .closed, state := .closed, cause := none, countdown := 0, handSet := false, drive := none }

/-- The part as delivered, right after hardware reset: the values of R40, R53, R79, R95, R121, R146, R169, R179, R194 and
R207. The stored checksum and the levels of the inputs are the model's choice (log entries 3, 4), and so is the source of
M = 0, which R95 does not give: SF at checkpoint 0 (DESIGN CHOICE, log entry 42). With no sweep in progress the slot reached
is 0 and every reading NOT POLLED (DESIGN CHOICE, log entry 44). -/
def State.reset : State :=
  { store :=
      { tables := Tables.delivered, checksum := 0#32, dataState := .checking, cause := none, fault := none, window := none,
        committing := false }
    gauge :=
      { recs := Tab.replicate 48 none, currentMask := BitVec.allOnes 32, nextMask := BitVec.allOnes 32, sweeping := false,
        slot := 0, poll := none, countdown := none, readings := Tab.replicate 32 .notPolled, lastStamp := none,
        prevStamp := none, swept := false }
    meter :=
      { p0 := PumpMeter.reset, p1 := PumpMeter.reset, p2 := PumpMeter.reset, p3 := PumpMeter.reset,
        g0 := GravityLine.reset, g1 := GravityLine.reset }
    engine :=
      { job := none, lastKind := none, refreshMark := false, projMark := none, published := none, nextSeq := 1,
        result := none, fixed := Tab.replicate 48 0 }
    limits :=
      { judgedSeq := 0, clearances := Tab.replicate 12 none, deepest := none, trim := none, flags := LimitFlags.clear,
        watch := .normal, m := 0, mSource := (.sf, 0), latch := false, causes := LatchCauses.none, lastSetting := none,
        settings := 0, pourEnable := false, maxDraft := none, boom := none, minClear := none, tide := 0, ackTime := 30 }
    xfer :=
      { transfers :=
          { p0 := Transfer.cleared, p1 := Transfer.cleared, p2 := Transfer.cleared, p3 := Transfer.cleared,
            g0 := Transfer.cleared, g1 := Transfer.cleared }
        valves := Tab.replicate 38 Valve.shut
        out0 := ⟨false, 0⟩, out1 := ⟨false, 0⟩, out2 := ⟨false, 0⟩, out3 := ⟨false, 0⟩, paceGain := 0 }
    seq :=
      { active := Tab.replicate 65 (Tab.replicate 11 0#8), standby := Tab.replicate 65 (Tab.replicate 11 0#8),
        core := SeqCore.fresh .empty, stage := 0, saved := none }
    tracker :=
      { op := .idle, opbgStamp := none, opndStamp := none, density := none, state := .idle,
        active := Tab.replicate 96 (Tab.replicate 20 0#8), standby := Tab.replicate 96 (Tab.replicate 20 0#8), pos := 0,
        gen := 0, exchange := false, cur := none, prevRob := none, lag := 0, lagBefore := 0, standing := none,
        lastReasons := 0#13, ack := none, holds := Tab.replicate 12 0, corrections := Tab.replicate 12 0, history := [],
        ended := 0 }
    console :=
      { state := .auto, grantLine := false, grantStamp := none, releaseStamp := none, snapshot := none,
        handed := SixOf.all none, reached := SixOf.all false, closing := SixOf.all false }
    records :=
      { log := [], nextNumber := 1, full := false, discharged := Tab.replicate 48 0#48, takenUp := Tab.replicate 48 0#48,
        report := none }
    links :=
      { ship := LinkState.reset, shore := LinkState.reset, notices := Tab.replicate 10 none, enables := 0x7F#8, queue := [],
        rate := .baud9600 }
    time := { ms := 0, port := 0 }
    inputs :=
      { openLimit := Tab.replicate 38 false, closedLimit := Tab.replicate 38 true, running0 := false, running1 := false,
        running2 := false, running3 := false, consoleRequest := false, strapA := false, strapB := false, reset := false }
    pending := [] }

end Sys2Proof.Machine
end

