-- ==== Sys2Proof/Config.lean ====
section
/-! DEFINITION. The free values: what the spec leaves open and no proof may see. Each has no body. -/

namespace Sys2Proof

/-- DESIGN CHOICE (log entry 7), safe. The bytes in which an item is sent whose coding the Formats section does not give.
`message` numbers the reply, notice or report and `place` the item in it, so that every item may have a size and coding of
its own. Nothing constrains the value. -/
opaque Config.itemBytes (message place : Nat) (item : Machine.Item) : List Byte

/-- DESIGN CHOICE (log entry 27), safe. What a total of the discharge log, which has 48 bits (R180), holds once the volumes
added to it sum to `sum`, 2^48 or more: the spec does not say. Nothing constrains the value. -/
opaque Config.totalBeyond (sum : Nat) : BitVec 48

/-- DESIGN CHOICE (log entry 27), safe. What the 4-byte volume field of a log entry's layout carries for a `volume` of 2^32 or
more: the spec does not say. Nothing constrains the value. -/
opaque Config.volumeBeyond (volume : Nat) : BitVec 32

/-- DESIGN CHOICE (log entry 37), safe. The metered volume of a kept record with `pulses` pulses of a pump that is not fitted: its
factor is unread (R10), and the spec states no figure. Nothing constrains the value. -/
opaque Config.unfittedVolume (driver : Driver) (pulses : Nat) : Nat

/-- DESIGN CHOICE (log entry 50), safe. What the 4-byte signed BM field of the condition record carries for a `bm` outside
−2^31 to 2^31 − 1: the spec does not say. Nothing constrains the value. -/
opaque Config.momentBeyond (bm : Int) : BitVec 32

/-- DESIGN CHOICE (log entry 50), safe. What the 4-byte signed correction of a pour report carries for a `correction` outside
−2^31 to 2^31 − 1: the spec does not say. Nothing constrains the value. -/
opaque Config.correctionBeyond (correction : Int) : BitVec 32

/-- DESIGN CHOICE (log entry 50), safe. What a 4-byte sequence number carries for a `seq` of 2^32 or more: the spec does not say.
Nothing constrains the value. -/
opaque Config.sequenceBeyond (seq : Nat) : BitVec 32

/-- DESIGN CHOICE (log entry 8), safe. The end that the deepest draft of R80 names when both drafts are `draft`: the spec
says "the deeper" and does not say which end stands when neither is deeper. Nothing constrains the value. -/
opaque Config.deepestEndOnTie (draft : Nat) : Machine.DraftEnd

end Sys2Proof
end

