-- ==== Sys2Proof/Machine/Ops.lean ====
section
/-! DEFINITION. The named operations the blocks share: rounding, bytes and check sums, the fixed-size families (drivers,
pumps, links), and the raising of notices. -/

namespace Sys2Proof.Machine

/-! ## Rounding (R1) -/

/-- Division of naturals rounded to the nearest integer, halves up (R1). A divisor of 0, which no reachable state has, gives
0 (log entry 19). -/
def rdivN (n d : Nat) : Nat := (2 * n + d) / (2 * d)

/-- Division rounded to the nearest integer, halves away from zero (R1). -/
def rdiv (n : Int) (d : Nat) : Int :=
  if 0 ≤ n then (rdivN n.toNat d : Int) else -(rdivN (-n).toNat d : Int)

/-- `|a - b|` of two naturals. -/
def absDiff (a b : Nat) : Nat := if a ≤ b then b - a else a - b

/-- `x` limited to `lo` from below and then to `hi` from above. -/
def clampInt (lo hi x : Int) : Int := min hi (max lo x)

/-- One more, holding at `top`. -/
def countTo (top n : Nat) : Nat := if n < top then n + 1 else n

/-! ## Bytes (Formats: most significant byte first, two's complement) -/

/-- The unsigned value of bytes, most significant first. -/
def beNat (bs : List Byte) : Nat := bs.foldl (fun a b => a * 256 + b.toNat) 0

/-- The two's complement value of bytes, most significant first. -/
def beInt (bs : List Byte) : Int :=
  if 256 ^ bs.length ≤ 2 * beNat bs then (beNat bs : Int) - (256 ^ bs.length : Nat) else beNat bs

/-- `v` in `n` bytes, most significant first, modulo 256 to the `n`. -/
def toBE : Nat → Nat → List Byte
  | _, 0 => []
  | v, n + 1 => BitVec.ofNat 8 (v / 256 ^ n) :: toBE v n

/-- A signed `v` in `n` bytes of two's complement, most significant first. -/
def toBEInt (v : Int) (n : Nat) : List Byte := toBE (v % (256 ^ n : Nat)).toNat n

/-- The unsigned field of `size` bytes at `offset` of a structure. -/
def fieldU (r : List Byte) (offset size : Nat) : Nat := beNat ((r.drop offset).take size)

/-- The signed field of `size` bytes at `offset` of a structure. -/
def fieldS (r : List Byte) (offset size : Nat) : Int := beInt ((r.drop offset).take size)

/-- A row of `n` bytes from a list, whose missing bytes are 0. -/
def rowOf (n : Nat) (bs : List Byte) : Tab n Byte := Tab.build n fun i => bs.getD i 0#8

/-! ## Check sums -/

/-- `n` shifts of the CRC-16 register, most significant bit first, with polynomial 0x1021 (R195). -/
def crc16Shift : Nat → BitVec 16 → BitVec 16
  | 0, c => c
  | n + 1, c => crc16Shift n (if c.msb then (c <<< 1) ^^^ 0x1021#16 else c <<< 1)

/-- The CRC-16 of a frame, from 0xFFFF and with no final inversion (R195). -/
def crc16 (bs : List Byte) : BitVec 16 :=
  bs.foldl (fun c b => crc16Shift 8 (c ^^^ (b.setWidth 16).shiftLeft 8)) 0xFFFF#16

/-- `n` shifts of the CRC-32 register, least significant bit first, with polynomial 0x04C11DB7 reflected (R19). -/
def crc32Shift : Nat → BitVec 32 → BitVec 32
  | 0, c => c
  | n + 1, c => crc32Shift n (if c.getLsbD 0 then (c >>> 1) ^^^ 0xEDB88320#32 else c >>> 1)

/-- One byte into the CRC-32 register. -/
def crc32Byte (c : BitVec 32) (b : Byte) : BitVec 32 := crc32Shift 8 (c ^^^ b.setWidth 32)

/-- The CRC-32 of bytes, from all ones, reflected and inverted (R19). -/
def crc32 (bs : List Byte) : BitVec 32 := ~~~(bs.foldl crc32Byte 0xFFFFFFFF#32)

/-! ## Drivers, pumps and links -/

/-- The six drivers in the order P0, P1, P2, P3, G0, G1 (R10). -/
def drivers : List Driver := [.p0, .p1, .p2, .p3, .g0, .g1]

end Sys2Proof.Machine

namespace Sys2Proof

/-- The driver's code and T6 row (R10, Request arguments). -/
def Driver.code : Driver → Nat
  | .p0 => 0 | .p1 => 1 | .p2 => 2 | .p3 => 3 | .g0 => 4 | .g1 => 5

/-- The driver of a code. -/
def Driver.ofCode : Nat → Option Driver
  | 0 => some .p0 | 1 => some .p1 | 2 => some .p2 | 3 => some .p3 | 4 => some .g0 | 5 => some .g1 | _ => none

/-- The pump a driver is, if it is one. -/
def Driver.pump? : Driver → Option Pump
  | .p0 => some .p0 | .p1 => some .p1 | .p2 => some .p2 | .p3 => some .p3 | .g0 => none | .g1 => none

/-- Whether a driver is a gravity line. -/
def Driver.gravity (d : Driver) : Bool := d.pump?.isNone

/-- The pump as a driver. -/
def Pump.driver : Pump → Driver
  | .p0 => .p0 | .p1 => .p1 | .p2 => .p2 | .p3 => .p3

/-- The channel of a driver's line valve: 32 to 37 (R96). -/
def Driver.lineValve (d : Driver) : Nat := 32 + d.code

/-- The other link. -/
def Link.other : Link → Link
  | .ship => .shore
  | .shore => .ship

end Sys2Proof

namespace Sys2Proof.Machine

/-- The item of one driver. -/
def SixOf.get {α : Type} (x : SixOf α) : Driver → α
  | .p0 => x.p0 | .p1 => x.p1 | .p2 => x.p2 | .p3 => x.p3 | .g0 => x.g0 | .g1 => x.g1

/-- One driver's item becomes `a`. -/
def SixOf.set {α : Type} (x : SixOf α) (d : Driver) (a : α) : SixOf α :=
  match d with
  | .p0 => { x with p0 := a } | .p1 => { x with p1 := a } | .p2 => { x with p2 := a }
  | .p3 => { x with p3 := a } | .g0 => { x with g0 := a } | .g1 => { x with g1 := a }

/-- The transfer record of a driver (R105). -/
def State.transfer (s : State) : Driver → Transfer
  | .p0 => s.xfer.transfers.p0 | .p1 => s.xfer.transfers.p1 | .p2 => s.xfer.transfers.p2
  | .p3 => s.xfer.transfers.p3 | .g0 => s.xfer.transfers.g0 | .g1 => s.xfer.transfers.g1

/-- A driver's transfer record becomes `x`. -/
def Transfers.put (t : Transfers) (d : Driver) (x : Transfer) : Transfers :=
  match d with
  | .p0 => { t with p0 := x } | .p1 => { t with p1 := x } | .p2 => { t with p2 := x }
  | .p3 => { t with p3 := x } | .g0 => { t with g0 := x } | .g1 => { t with g1 := x }

/-- A driver's transfer record becomes `x`. -/
def State.setTransfer (s : State) (d : Driver) (x : Transfer) : State :=
  { s with xfer := { s.xfer with transfers := s.xfer.transfers.put d x } }

/-- A valve record; the channels are 0 to 37 (R96). -/
def State.valve (s : State) (ch : Nat) : Valve := s.xfer.valves.get ch

/-- A valve record becomes `v`. -/
def State.setValve (s : State) (ch : Nat) (v : Valve) : State :=
  { s with xfer := { s.xfer with valves := s.xfer.valves.set ch v } }

/-- A pump's outputs (R104). -/
def State.pumpOut (s : State) : Pump → PumpOut
  | .p0 => s.xfer.out0 | .p1 => s.xfer.out1 | .p2 => s.xfer.out2 | .p3 => s.xfer.out3

/-- A pump's outputs become `o`. -/
def State.setPumpOut (s : State) (p : Pump) (o : PumpOut) : State :=
  match p with
  | .p0 => { s with xfer := { s.xfer with out0 := o } }
  | .p1 => { s with xfer := { s.xfer with out1 := o } }
  | .p2 => { s with xfer := { s.xfer with out2 := o } }
  | .p3 => { s with xfer := { s.xfer with out3 := o } }

/-- A pump's meter record (R41). -/
def State.pumpMeter (s : State) : Pump → PumpMeter
  | .p0 => s.meter.p0 | .p1 => s.meter.p1 | .p2 => s.meter.p2 | .p3 => s.meter.p3

/-- A pump's meter record becomes `m`. -/
def State.setPumpMeter (s : State) (p : Pump) (m : PumpMeter) : State :=
  match p with
  | .p0 => { s with meter := { s.meter with p0 := m } }
  | .p1 => { s with meter := { s.meter with p1 := m } }
  | .p2 => { s with meter := { s.meter with p2 := m } }
  | .p3 => { s with meter := { s.meter with p3 := m } }

/-- All four pumps. -/
def pumps : List Pump := [.p0, .p1, .p2, .p3]

/-- Whether a pump's running-feedback input is present (R104). -/
def Inputs.running (i : Inputs) : Pump → Bool
  | .p0 => i.running0 | .p1 => i.running1 | .p2 => i.running2 | .p3 => i.running3

/-- A pump's running-feedback input becomes `b`. -/
def Inputs.setRunning (i : Inputs) (p : Pump) (b : Bool) : Inputs :=
  match p with
  | .p0 => { i with running0 := b } | .p1 => { i with running1 := b }
  | .p2 => { i with running2 := b } | .p3 => { i with running3 := b }

/-- One link's state. -/
def State.link (s : State) : Link → LinkState
  | .ship => s.links.ship
  | .shore => s.links.shore

/-- One link's state becomes `x`. -/
def State.setLink (s : State) (l : Link) (x : LinkState) : State :=
  match l with
  | .ship => { s with links := { s.links with ship := x } }
  | .shore => { s with links := { s.links with shore := x } }

/-- A tank's gauge record, if the compartment has one (R26). -/
def State.gaugeRec (s : State) (c : Nat) : Option GaugeRec := s.gauge.recs.get c

/-- A tank's gauge record becomes `g`. -/
def State.setGaugeRec (s : State) (c : Nat) (g : GaugeRec) : State :=
  { s with gauge := { s.gauge with recs := s.gauge.recs.set c (some g) } }

/-- The content source is ESTIMATE while the gauge state is LOST or MASKED and GAUGE otherwise (R26). -/
def GaugeState.source : GaugeState → Source
  | .lost | .masked => .estimate
  | .unread | .good | .held => .gauge

/-- A tank's content source (R26). -/
def GaugeRec.source (g : GaugeRec) : Source := g.state.source

/-! ## Notices (R200) -/

/-- The kind of a detail. -/
def Detail.kind : Detail → NoticeKind
  | .breach .. => .breach | .stop .. => .stop | .valve .. => .valve | .transfer .. => .transfer
  | .targetReached .. => .transfer | .pour .. => .pour | .gauge .. => .gauge | .sequence .. => .sequence
  | .change .. => .change | .limit .. => .limit | .condition .. => .condition

/-- A kind's place in the priority order, from 0 (R200). -/
def NoticeKind.place : NoticeKind → Nat
  | .breach => 0 | .stop => 1 | .valve => 2 | .transfer => 3 | .pour => 4 | .gauge => 5 | .sequence => 6 | .change => 7
  | .limit => 8 | .condition => 9

/-- BREACH and STOP are not maskable; a maskable kind is enabled while its flag is set (R200, R202). The flags of VALVE to
CONDITION are bits 0 to 7 (notice enables). -/
def NoticeKind.enabled (k : NoticeKind) (enables : BitVec 8) : Bool :=
  match k with
  | .breach | .stop => true
  | _ => enables.getLsbD (k.place - 2)

/-- A block raises a ship notice (R200): a disabled kind is not set pending; any other becomes pending with the new
detail. -/
def raise (d : Detail) (s : State) : State :=
  if d.kind.enabled s.links.enables then
    { s with links := { s.links with notices := s.links.notices.set d.kind.place (some d) } }
  else s

/-- Whether the ship notice pending set holds at least one kind. -/
def noticesPending (s : State) : Bool := s.links.notices.cells.any Option.isSome

/-- The shore notice queue holds at most this many (R203). -/
def shoreQueueMax : Nat := 16

/-! ## The reset input (R207) -/

/-- What the part does while it is not in reset: while the reset input is held it does nothing (R207; log entry 2). -/
def unlessHeld (f : State → State) (s : State) : State := if s.inputs.reset then s else f s

/-! ## Times -/

/-- Seconds counted as ticks of 0.1 s (R204). -/
def ticks (seconds : Nat) : Nat := seconds * 10

/-- The reasons set that holds one reason: its bit in the pour report (Pour report, offset 28). -/
def Reason.bit : Reason → Reasons
  | .noCondition => 1#13 <<< 0 | .stage => 1#13 <<< 1 | .breach => 1#13 <<< 2 | .stopLatch => 1#13 <<< 3
  | .lag => 1#13 <<< 4 | .holdMass => 1#13 <<< 5 | .historyFull => 1#13 <<< 6 | .projection => 1#13 <<< 7
  | .airDraft => 1#13 <<< 8 | .draft => 1#13 <<< 9 | .trim => 1#13 <<< 10 | .overpour => 1#13 <<< 11
  | .unexpected => 1#13 <<< 12

/-- Whether a set holds a reason. -/
def hasReason (set : Reasons) (r : Reason) : Bool := set &&& r.bit != 0#13

/-- The set that holds `r` when `b`, and nothing otherwise. -/
def reasonWhen (b : Bool) (r : Reason) : Reasons := if b then r.bit else 0#13

end Sys2Proof.Machine
end

