-- ==== Sys2Proof/Machine/Tables.lean ====
section
/-! DEFINITION. Reading and writing the tables: the row forms of the Formats section (11, Table row forms), the fixed sizes
of R2, and each field a block reads. A row or field beyond its table reads as 0 (log entry 19). -/

namespace Sys2Proof.Machine

/-! ## Rows -/

/-- How many rows a table has (R2). -/
def TableId.rows : TableId → Nat
  | .t0 => 1 | .t1 => 48 | .t2 => 16 | .t3 => 40 | .t4 => 640 | .t5 => 960 | .t6 => 6 | .t8 => 65 | .t9 => 96

/-- How many bytes a row of the table has (Table row forms). -/
def TableId.rowSize : TableId → Nat
  | .t0 => 52 | .t1 => 27 | .t2 => 28 | .t3 => 20 | .t4 => 7 | .t5 => 5 | .t6 => 12 | .t8 => 11 | .t9 => 20

/-- How many rows one WPUT or WGET carries at most (R2). -/
def TableId.perRequest : TableId → Nat
  | .t0 => 1 | .t1 => 4 | .t2 => 8 | .t3 => 8 | .t4 => 32 | .t5 => 32 | .t6 => 6 | .t8 => 16 | .t9 => 8

/-- The table of an identifier's code; T7 names no table (R2, R12). -/
def TableId.ofCode : Nat → Option TableId
  | 0 => some .t0 | 1 => some .t1 | 2 => some .t2 | 3 => some .t3 | 4 => some .t4 | 5 => some .t5 | 6 => some .t6
  | 8 => some .t8 | 9 => some .t9 | _ => none

/-- Whether the table is one of T0 to T6. -/
def TableId.shipData : TableId → Bool
  | .t8 | .t9 => false
  | _ => true

/-- The bytes of row `i`. -/
def rowBytes {n k : Nat} (t : Tab n (Tab k Byte)) (i : Nat) : List Byte :=
  match t.get? i with
  | some r => r.cells
  | none => []

/-- The bytes of row `i` of a table as it is stored (R14). -/
def readRow (s : State) (t : TableId) (i : Nat) : List Byte :=
  match t with
  | .t0 => rowBytes s.store.tables.t0 i
  | .t1 => rowBytes s.store.tables.t1 i
  | .t2 => rowBytes s.store.tables.t2 i
  | .t3 => rowBytes s.store.tables.t3 i
  | .t4 => rowBytes s.store.tables.t4 i
  | .t5 => rowBytes s.store.tables.t5 i
  | .t6 => rowBytes s.store.tables.t6 i
  | .t8 => rowBytes s.seq.standby i
  | .t9 => rowBytes s.tracker.standby i

/-- The tables with row `i` of one of T0 to T6 replaced whole. -/
def Tables.write (T : Tables) (t : TableId) (i : Nat) (bs : List Byte) : Tables :=
  match t with
  | .t0 => { T with t0 := T.t0.set i (rowOf 52 bs) }
  | .t1 => { T with t1 := T.t1.set i (rowOf 27 bs) }
  | .t2 => { T with t2 := T.t2.set i (rowOf 28 bs) }
  | .t3 => { T with t3 := T.t3.set i (rowOf 20 bs) }
  | .t4 => { T with t4 := T.t4.set i (rowOf 7 bs) }
  | .t5 => { T with t5 := T.t5.set i (rowOf 5 bs) }
  | .t6 => { T with t6 := T.t6.set i (rowOf 12 bs) }
  | .t8 | .t9 => T

/-- Row `i` of a table is replaced whole (R13). -/
def writeRow (s : State) (t : TableId) (i : Nat) (bs : List Byte) : State :=
  match t with
  | .t8 => { s with seq := { s.seq with standby := s.seq.standby.set i (rowOf 11 bs) } }
  | .t9 => { s with tracker := { s.tracker with standby := s.tracker.standby.set i (rowOf 20 bs) } }
  | _ => { s with store := { s.store with tables := s.store.tables.write t i bs } }

/-- The rows `bs` carries, one after another, are written from row `i` on (R13). -/
def writeRows (t : TableId) : Nat → Nat → List Byte → State → State
  | 0, _, _, s => s
  | k + 1, i, bs, s => writeRows t k (i + 1) (bs.drop t.rowSize) (writeRow s t i (bs.take t.rowSize))

/-- Every byte of T0, then T1, and so on to T6, in ascending row (R19). -/
def Tables.allBytes (T : Tables) : List Byte :=
  T.t0.cells.flatMap Tab.cells ++ T.t1.cells.flatMap Tab.cells ++ T.t2.cells.flatMap Tab.cells ++
    T.t3.cells.flatMap Tab.cells ++ T.t4.cells.flatMap Tab.cells ++ T.t5.cells.flatMap Tab.cells ++
    T.t6.cells.flatMap Tab.cells

/-- The checksum of the tables (R19). -/
def Tables.checksum (T : Tables) : BitVec 32 := crc32 T.allBytes

/-! ## T0, GENERAL (R3) -/

/-- The field of T0 that commit check `check` judges, 1 to 13. -/
def Tables.general (T : Tables) (check : Nat) : Nat := fieldU (rowBytes T.t0 0) (4 * (check - 1)) 4

def Tables.lbp (T : Tables) : Nat := T.general 1
def Tables.slots (T : Tables) : Nat := T.general 2
def Tables.holdCount (T : Tables) : Nat := T.general 3
def Tables.drift (T : Tables) : Nat := T.general 4
def Tables.cautionAt (T : Tables) : Nat := T.general 5
def Tables.band (T : Tables) : Nat := T.general 6
def Tables.density (T : Tables) : Nat := T.general 7
def Tables.trimStern (T : Tables) : Nat := T.general 8
def Tables.trimHead (T : Tables) : Nat := T.general 9
def Tables.minHead (T : Tables) : Nat := T.general 10
def Tables.disagree (T : Tables) : Nat := T.general 11
def Tables.cpCount (T : Tables) : Nat := T.general 12
def Tables.hydroCount (T : Tables) : Nat := T.general 13

/-! ## T1, COMPARTMENTS (R4, R5) -/

def Tables.kindCode (T : Tables) (c : Nat) : Nat := fieldU (rowBytes T.t1 c) 0 1

/-- The kind of a code, if it is one of the five. -/
def Kind.ofCode : Nat → Option Kind
  | 0 => some .unused | 1 => some .ballast | 2 => some .hold | 3 => some .fixed | 4 => some .lightship | _ => none

def Tables.kind (T : Tables) (c : Nat) : Option Kind := Kind.ofCode (T.kindCode c)
def Tables.isBallast (T : Tables) (c : Nat) : Bool := T.kind c == some .ballast
def Tables.isHold (T : Tables) (c : Nat) : Bool := T.kind c == some .hold
def Tables.isFixed (T : Tables) (c : Nat) : Bool := T.kind c == some .fixed

def Tables.aft (T : Tables) (c : Nat) : Int := fieldS (rowBytes T.t1 c) 1 4
def Tables.fore (T : Tables) (c : Nat) : Int := fieldS (rowBytes T.t1 c) 5 4

/-- The centre of a compartment, round((aft + fore) / 2) (R4). -/
def Tables.centre (T : Tables) (c : Nat) : Int := rdiv (T.aft c + T.fore c) 2

def Tables.gaugeSlot (T : Tables) (c : Nat) : Nat := fieldU (rowBytes T.t1 c) 9 1
def Tables.gaugeX (T : Tables) (c : Nat) : Int := fieldS (rowBytes T.t1 c) 10 4
def Tables.bottom (T : Tables) (c : Nat) : Nat := fieldU (rowBytes T.t1 c) 14 4
def Tables.points (T : Tables) (c : Nat) : Nat := fieldU (rowBytes T.t1 c) 18 1
def Tables.residual (T : Tables) (c : Nat) : Nat := fieldU (rowBytes T.t1 c) 19 4
def Tables.tankTravel (T : Tables) (c : Nat) : Nat := fieldU (rowBytes T.t1 c) 23 2
def Tables.gravityLine (T : Tables) (c : Nat) : Nat := fieldU (rowBytes T.t1 c) 25 1
def Tables.eligible (T : Tables) (c : Nat) (pump : Nat) : Bool :=
  (fieldU (rowBytes T.t1 c) 26 1).testBit pump

def Tables.holdNumber (T : Tables) (c : Nat) : Nat := fieldU (rowBytes T.t1 c) 9 1
def Tables.coaming (T : Tables) (c : Nat) : Nat := fieldU (rowBytes T.t1 c) 10 4
def Tables.maxHold (T : Tables) (c : Nat) : Nat := fieldU (rowBytes T.t1 c) 14 4

/-- The default mass of a FIXED row, and the mass of a LIGHTSHIP row (R4). -/
def Tables.rowMass (T : Tables) (c : Nat) : Nat := fieldU (rowBytes T.t1 c) 9 4

/-- The compartment numbers 0 to 47. -/
def compartments : List Nat := List.range 48

/-- The ballast tanks, in ascending compartment number. -/
def Tables.ballastTanks (T : Tables) : List Nat := compartments.filter T.isBallast

/-- The BALLAST row whose gauge slot is `slot` (R5). -/
def Tables.tankOfSlot (T : Tables) (slot : Nat) : Option Nat :=
  T.ballastTanks.find? fun c => T.gaugeSlot c == slot

/-- The HOLD row of a hold number (R4). -/
def Tables.rowOfHold (T : Tables) (h : Nat) : Option Nat :=
  compartments.find? fun c => T.isHold c && T.holdNumber c == h

/-! ## T2 to T5 -/

def Tables.cpX (T : Tables) (j : Nat) : Int := fieldS (rowBytes T.t2 j) 0 4
def Tables.sfPlus (T : Tables) (j : Nat) : Nat := fieldU (rowBytes T.t2 j) 4 4
def Tables.sfMinus (T : Tables) (j : Nat) : Nat := fieldU (rowBytes T.t2 j) 8 4
def Tables.bmHog (T : Tables) (j : Nat) : Nat := fieldU (rowBytes T.t2 j) 12 4
def Tables.bmSag (T : Tables) (j : Nat) : Nat := fieldU (rowBytes T.t2 j) 16 4
def Tables.kB (T : Tables) (j : Nat) : Int := fieldS (rowBytes T.t2 j) 20 4
def Tables.kM (T : Tables) (j : Nat) : Int := fieldS (rowBytes T.t2 j) 24 4

def Tables.hydroDisp (T : Tables) (k : Nat) : Nat := fieldU (rowBytes T.t3 k) 0 4
def Tables.hydroDraft (T : Tables) (k : Nat) : Nat := fieldU (rowBytes T.t3 k) 4 4
def Tables.lcb (T : Tables) (k : Nat) : Int := fieldS (rowBytes T.t3 k) 8 4
def Tables.lcf (T : Tables) (k : Nat) : Int := fieldS (rowBytes T.t3 k) 12 4
def Tables.mtc (T : Tables) (k : Nat) : Nat := fieldU (rowBytes T.t3 k) 16 4

def Tables.buoyancy (T : Tables) (k j : Nat) : Nat := fieldU (rowBytes T.t4 (k * 16 + j)) 0 3
def Tables.buoyancyMoment (T : Tables) (k j : Nat) : Int := fieldS (rowBytes T.t4 (k * 16 + j)) 3 4

def Tables.sounding (T : Tables) (c p : Nat) : Nat := fieldU (rowBytes T.t5 (c * 20 + p)) 0 2
def Tables.volumeAt (T : Tables) (c p : Nat) : Nat := fieldU (rowBytes T.t5 (c * 20 + p)) 2 3

/-- The capacity volume: the volume of the last point in use (R9). -/
def Tables.capacityVolume (T : Tables) (c : Nat) : Nat := T.volumeAt c (T.points c - 1)

/-- The capacity mass at a density, round(capacity volume × ρ / 1,000) (R9). -/
def Tables.capacityMass (T : Tables) (c ρ : Nat) : Nat := rdivN (T.capacityVolume c * ρ) 1000

/-! ## T6, DRIVERS (R10) -/

def Tables.fittedCode (T : Tables) (d : Driver) : Nat := fieldU (rowBytes T.t6 d.code) 0 1

/-- Whether a T6 row is of a fitted driver: its fitted byte is 1, yes (R10). Only an uncommitted row can hold a byte that is neither 0
nor 1, since it fails check 70; the spec does not say whether METR gives such a driver as fitted, and the model takes it as not
fitted (DESIGN CHOICE, log entry 51). -/
def Tables.fitted (T : Tables) (d : Driver) : Bool := T.fittedCode d == 1

def Tables.lineTravel (T : Tables) (d : Driver) : Nat := fieldU (rowBytes T.t6 d.code) 1 1
def Tables.factor (T : Tables) (d : Driver) : Nat := fieldU (rowBytes T.t6 d.code) 2 4
def Tables.primingTime (T : Tables) (d : Driver) : Nat := fieldU (rowBytes T.t6 d.code) 6 1
def Tables.noFlowTime (T : Tables) (d : Driver) : Nat := fieldU (rowBytes T.t6 d.code) 7 1
def Tables.variable (T : Tables) (d : Driver) : Bool := fieldU (rowBytes T.t6 d.code) 8 1 == 1
def Tables.minSpeed (T : Tables) (d : Driver) : Nat := fieldU (rowBytes T.t6 d.code) 9 1
def Tables.ratedRate (T : Tables) (d : Driver) : Nat := fieldU (rowBytes T.t6 d.code) 10 2

/-! ## T8 and T9 -/

/-- A program step as its row gives it (R124, T8 row): codes are kept as carried, and `unknown` is a kind that is none of
the seven. -/
inductive Step where
  | start (driver tank direction target paced base await : Nat)
  | stop (driver : Nat)
  | await (driver : Nat)
  | waitPour (pour : Nat)
  | dwell (seconds : Nat)
  | mark (stage : Nat)
  | finish
  | unknown (kind : Nat)
  deriving DecidableEq, Repr

/-- The step a row of a program bank holds (T8 row). -/
def Step.ofRow (r : List Byte) : Step :=
  match fieldU r 0 1 with
  | 0 => .start (fieldU r 1 1) (fieldU r 2 1) (fieldU r 3 1) (fieldU r 4 4) (fieldU r 8 1) (fieldU r 9 1) (fieldU r 10 1)
  | 1 => .stop (fieldU r 1 1)
  | 2 => .await (fieldU r 1 1)
  | 3 => .waitPour (fieldU r 1 2)
  | 4 => .dwell (fieldU r 1 2)
  | 5 => .mark (fieldU r 1 1)
  | 6 => .finish
  | k => .unknown k

/-- Step `i` of a bank: row `i + 1` (R122). -/
def stepAt (b : ProgramBank) (i : Nat) : Step := Step.ofRow (rowBytes b (i + 1))

/-- The kind code of step `i`. -/
def stepKind (b : ProgramBank) (i : Nat) : Nat := fieldU (rowBytes b (i + 1)) 0 1

/-- The header's fields (R123). -/
def headMode (b : ProgramBank) : Nat := fieldU (rowBytes b 0) 0 1
def headLimit (b : ProgramBank) : Nat := fieldU (rowBytes b 0) 1 1
def headExit (b : ProgramBank) : Nat := fieldU (rowBytes b 0) 2 1
def headInterval (b : ProgramBank) : Nat := fieldU (rowBytes b 0) 3 2
def headLength (b : ProgramBank) : Nat := fieldU (rowBytes b 0) 5 1

/-- The plan entry a row of a plan bank holds (R150). -/
def PlanEntry.ofRow (r : List Byte) : PlanEntry :=
  { pour := fieldU r 0 2, hold := fieldU r 2 1, planned := fieldU r 3 4, rob := fieldU r 7 4, lagTol := fieldU r 11 4,
    overTol := fieldU r 15 4, stage := fieldU r 19 1 }

/-- Entry `i` of a bank, in use or not. -/
def planEntry (b : PlanBank) (i : Nat) : PlanEntry := PlanEntry.ofRow (rowBytes b i)

/-- The entries in use: those before the first whose pour number is 0 (R150). -/
def planEntries (b : PlanBank) : List PlanEntry :=
  (b.cells.map fun r => PlanEntry.ofRow r.cells).takeWhile fun e => e.pour != 0

/-- The plan length (R150). -/
def planLength (b : PlanBank) : Nat := (planEntries b).length

end Sys2Proof.Machine
end

