-- ==== Sys2Proof/Machine/Checks.lean ====
section
/-! DEFINITION. The validation checks of a commit and of a verification after reset (R18), in ascending check number, each
over the rows in use of its table in ascending row. -/

namespace Sys2Proof.Machine

/-- A validation check: its number, its table, the rows it examines, and when a row fails it. -/
structure Check where
  number : Nat
  table : Nat
  rows : Tables → List Nat
  fails : Tables → Nat → Bool

/-- `x` lies outside `lo..hi`. -/
def outside (lo hi x : Nat) : Bool := decide (x < lo) || decide (hi < x)

/-- A signed `x` lies outside `lo..hi`. -/
def outsideInt (lo hi x : Int) : Bool := decide (x < lo) || decide (hi < x)

/-- The rows of T4 in use: those of a hydrostatic row and a checkpoint in use (R8). -/
def Tables.buoyancyRows (T : Tables) : List Nat :=
  (List.range T.hydroCount).flatMap fun h => (List.range T.cpCount).map fun c => h * 16 + c

/-- The rows of T5 in use: the points of each ballast tank (R9). -/
def Tables.soundingRows (T : Tables) : List Nat :=
  T.ballastTanks.flatMap fun c => (List.range (T.points c)).map fun p => c * 20 + p

/-- The sounding and volume of a row of T5. -/
def Tables.soundingOf (T : Tables) (i : Nat) : Nat := T.sounding (i / 20) (i % 20)
def Tables.volumeOf (T : Tables) (i : Nat) : Nat := T.volumeAt (i / 20) (i % 20)

/-- The driver of a T6 row. -/
def rowDriver (i : Nat) : Driver := (Driver.ofCode i).getD .p0

/-- A T6 row of a fitted pump. -/
def Tables.fittedPump (T : Tables) (i : Nat) : Bool := decide (i < 4) && T.fitted (rowDriver i)

/-- A gauge slot or hold number borne by a lower-numbered row of the same kind. -/
def earlierSame (is : Nat → Bool) (key : Nat → Nat) (i : Nat) : Bool :=
  (List.range i).any fun j => is j && key j == key i

/-- Checks 1 to 13: the T0 fields in the ranges of R3. -/
def checksT0 : List Check :=
  [(1, 5000, 40000), (2, 1, 32), (3, 1, 15), (4, 1, 50000), (5, 500, 990), (6, 0, 100), (7, 990, 1050), (8, 1, 32000),
    (9, 1, 32000), (10, 0, 10000), (11, 0, 10), (12, 1, 16), (13, 2, 40)].map fun (n, lo, hi) =>
    { number := n, table := 0, rows := fun _ => [0], fails := fun T _ => outside lo hi (T.general n) }

/-- A check of T1 over the rows of one kind. -/
def checkT1 (n : Nat) (k : Kind) (bad : Tables → Nat → Bool) : Check :=
  { number := n, table := 1, rows := fun _ => compartments, fails := fun T i => T.kind i == some k && bad T i }

/-- Checks 20 to 38: T1 (R18). A row whose kind is none of the five fails check 20 before any other check is reached. -/
def checksT1 : List Check :=
  [{ number := 20, table := 1, rows := fun _ => compartments, fails := fun T i => (T.kind i).isNone },
    { number := 21, table := 1, rows := fun _ => compartments
      fails := fun T i => T.kind i != some .unused && decide (T.fore i ≤ T.aft i) },
    { number := 22, table := 1, rows := fun _ => compartments
      fails := fun T i => T.kind i != some .unused && (decide (T.aft i < -2000) || decide (40000 < T.fore i)) },
    checkT1 23 .ballast fun T i => decide (T.slots ≤ T.gaugeSlot i),
    checkT1 24 .ballast fun T i => outsideInt (T.aft i) (T.fore i) (T.gaugeX i),
    checkT1 25 .ballast fun T i => outside 0 40000 (T.bottom i),
    checkT1 26 .ballast fun T i => outside 2 20 (T.points i),
    checkT1 27 .ballast fun T i => decide (4000000 < T.residual i),
    checkT1 28 .ballast fun T i => outside 5 180 (T.tankTravel i),
    checkT1 29 .ballast fun T i => outside 0 2 (T.gravityLine i),
    checkT1 30 .hold fun T i => outside 1 12 (T.holdNumber i),
    checkT1 31 .hold fun T i => outside 1 60000 (T.coaming i),
    checkT1 32 .hold fun T i => outside 1 4000000 (T.maxHold i),
    checkT1 33 .fixed fun T i => decide (4000000 < T.rowMass i),
    checkT1 34 .lightship fun T i => decide (4000000 < T.rowMass i),
    checkT1 35 .ballast fun T i => ((List.range i).filter T.isBallast).length == 32,
    checkT1 36 .hold fun T i => ((List.range i).filter T.isHold).length == 12,
    checkT1 37 .hold fun T i => earlierSame T.isHold T.holdNumber i]

/-- Check 38 names no row: no LIGHTSHIP row has mass above 0 (R18). -/
def noLightship (T : Tables) : Bool :=
  !(compartments.any fun c => T.kind c == some .lightship && decide (0 < T.rowMass c))

/-- A check of T2 over the checkpoints in use. -/
def checkT2 (n : Nat) (bad : Tables → Nat → Bool) : Check :=
  { number := n, table := 2, rows := fun T => List.range T.cpCount, fails := bad }

/-- Checks 40 to 47: T2. -/
def checksT2 : List Check :=
  [checkT2 40 fun T i => decide (T.cpX i ≤ 0) || decide ((T.lbp : Int) ≤ T.cpX i),
    checkT2 41 fun T i => decide (0 < i) && decide (T.cpX i ≤ T.cpX (i - 1)),
    checkT2 42 fun T i => outside 1 4000000 (T.sfPlus i),
    checkT2 43 fun T i => outside 1 4000000 (T.sfMinus i),
    checkT2 44 fun T i => outside 1 100000000 (T.bmHog i),
    checkT2 45 fun T i => outside 1 100000000 (T.bmSag i),
    checkT2 46 fun T i => outsideInt (-1000000) 1000000 (T.kB i),
    checkT2 47 fun T i => outsideInt (-100000000) 100000000 (T.kM i)]

/-- A check of T3 over the hydrostatic rows in use. -/
def checkT3 (n : Nat) (bad : Tables → Nat → Bool) : Check :=
  { number := n, table := 3, rows := fun T => List.range T.hydroCount, fails := bad }

/-- Checks 50 to 56: T3. -/
def checksT3 : List Check :=
  [checkT3 50 fun T i => outside 1 4000000 (T.hydroDisp i),
    checkT3 51 fun T i => decide (0 < i) && decide (T.hydroDisp i ≤ T.hydroDisp (i - 1)),
    checkT3 52 fun T i => outside 0 40000 (T.hydroDraft i),
    checkT3 53 fun T i => decide (0 < i) && decide (T.hydroDraft i < T.hydroDraft (i - 1)),
    checkT3 54 fun T i => outsideInt 0 T.lbp (T.lcb i),
    checkT3 55 fun T i => outsideInt 0 T.lbp (T.lcf i),
    checkT3 56 fun T i => outside 1 10000000 (T.mtc i)]

/-- Checks 60 and 61: T4. -/
def checksT4 : List Check :=
  [{ number := 60, table := 4, rows := Tables.buoyancyRows
     fails := fun T i => decide (4000000 < T.buoyancy (i / 16) (i % 16)) },
    { number := 61, table := 4, rows := Tables.buoyancyRows
      fails := fun T i => outsideInt (-100000000) 100000000 (T.buoyancyMoment (i / 16) (i % 16)) }]

/-- A check of T5 over the points in use. -/
def checkT5 (n : Nat) (bad : Tables → Nat → Bool) : Check :=
  { number := n, table := 5, rows := Tables.soundingRows, fails := bad }

/-- Checks 65 to 69: T5. -/
def checksT5 : List Check :=
  [checkT5 65 fun T i => decide (40000 < T.soundingOf i),
    checkT5 66 fun T i => decide (0 < i % 20) && decide (T.soundingOf i ≤ T.soundingOf (i - 1)),
    checkT5 67 fun T i => decide (1000000 < T.volumeOf i),
    checkT5 68 fun T i => decide (0 < i % 20) && decide (T.volumeOf i < T.volumeOf (i - 1)),
    checkT5 69 fun T i => i % 20 + 1 == T.points (i / 20) && T.volumeOf i == 0]

/-- A check of T6. -/
def checkT6 (n : Nat) (bad : Tables → Nat → Bool) : Check :=
  { number := n, table := 6, rows := fun _ => List.range 6, fails := bad }

/-- Checks 70 to 76: T6. -/
def checksT6 : List Check :=
  [checkT6 70 fun T i => outside 0 1 (T.fittedCode (rowDriver i)),
    checkT6 71 fun T i => T.fitted (rowDriver i) && outside 5 180 (T.lineTravel (rowDriver i)),
    checkT6 72 fun T i => T.fittedPump i && outside 1 100000 (T.factor (rowDriver i)),
    checkT6 73 fun T i => T.fittedPump i && outside 5 120 (T.primingTime (rowDriver i)),
    checkT6 74 fun T i => T.fittedPump i && outside 5 120 (T.noFlowTime (rowDriver i)),
    checkT6 75 fun T i =>
      T.fittedPump i && T.variable (rowDriver i) && outside 20 60 (T.minSpeed (rowDriver i)),
    checkT6 76 fun T i => T.fittedPump i && outside 1 20000 (T.ratedRate (rowDriver i))]

/-- The driver a BALLAST row names as its gravity line (R5). -/
def gravityDriver : Nat → Option Driver
  | 1 => some .g0
  | 2 => some .g1
  | _ => none

/-- Checks 80 to 83: T1 against T6, T5 and the default density. -/
def checksAcross : List Check :=
  [checkT1 80 .ballast fun T i => earlierSame T.isBallast T.gaugeSlot i,
    checkT1 81 .ballast fun T i => (List.range 4).any fun p => T.eligible i p && !T.fitted (rowDriver p),
    checkT1 82 .ballast fun T i =>
      match gravityDriver (T.gravityLine i) with
      | some d => !T.fitted d
      | none => false,
    checkT1 83 .ballast fun T i => decide (T.capacityMass i T.density < T.residual i)]

/-- The first row that fails a check, as the fault record reports it. -/
def Check.fault (T : Tables) (c : Check) : Option FaultRecord :=
  ((c.rows T).find? (c.fails T)).map fun i =>
    { cause := .validation, table := some c.table, row := some i, check := c.number }

/-- The first of several checks' faults. -/
def firstOf (T : Tables) : List Check → Option FaultRecord
  | [] => none
  | c :: cs =>
    match c.fault T with
    | some f => some f
    | none => firstOf T cs

/-- The first failure of the validation checks in ascending check number, if there is one (R17, R18). -/
def Tables.firstFault (T : Tables) : Option FaultRecord :=
  match firstOf T (checksT0 ++ checksT1) with
  | some f => some f
  | none =>
    if noLightship T then some { cause := .validation, table := some 1, row := none, check := 38 }
    else firstOf T (checksT2 ++ checksT3 ++ checksT4 ++ checksT5 ++ checksT6 ++ checksAcross)

end Sys2Proof.Machine
end

