-- ==== Sys2Proof/Machine/Condition.lean ====
section
/-! DEFINITION. The nine stages of one condition (R60 to R68), computed from the masses of a snapshot and the tables T0, T2,
T3 and T4. -/

namespace Sys2Proof.Machine

/-- A sum over a list of compartments. -/
def sumOf (f : SnapComp → Int) (cs : List SnapComp) : Int := (cs.map f).sum

/-- Stage 1: the displacement (R60). -/
def displacement (cs : List SnapComp) : Nat := (cs.map SnapComp.mass).sum

/-- Stage 2: the longitudinal centre of gravity, Σ m (a + f) / (2 Δ) rounded (R60). -/
def centreOfGravity (cs : List SnapComp) : Int :=
  rdiv (sumOf (fun c => c.mass * (c.aft + c.fore)) cs) (2 * displacement cs)

/-- A place in the hydrostatic table: the row pair and the proportion between them, or an end row clamped (R61). -/
structure HydroPlace where
  lo : Nat
  hi : Nat
  num : Nat
  den : Nat
  clamped : Bool
  deriving DecidableEq, Repr

/-- Stage 3: where a displacement falls in T3 (R61): the lowest row k with Δ ≤ Δ of row k + 1, or the end row outside the
table. -/
def hydroPlace (T : Tables) (Δ : Nat) : HydroPlace :=
  let last := T.hydroCount - 1
  if Δ < T.hydroDisp 0 then ⟨0, 0, 0, 1, true⟩
  else if T.hydroDisp last < Δ then ⟨last, last, 0, 1, true⟩
  else
    let k := ((List.range last).find? fun k => decide (Δ ≤ T.hydroDisp (k + 1))).getD 0
    ⟨k, k + 1, Δ - T.hydroDisp k, T.hydroDisp (k + 1) - T.hydroDisp k, false⟩

/-- The interpolation of stages 3 and 7: q_k + round((q_{k+1} − q_k) × (Δ − Δ_k) / (Δ_{k+1} − Δ_k)) (R61). -/
def HydroPlace.interp (h : HydroPlace) (q : Nat → Int) : Int := q h.lo + rdiv ((q h.hi - q h.lo) * h.num) h.den

/-- Stage 4: the trim before it is clamped, round(Δ × (LCB − LCG) / (10 × MTC)) (R62). -/
def rawTrim (Δ : Nat) (lcb lcg : Int) (mtc : Nat) : Int := rdiv (Δ * (lcb - lcg)) (10 * mtc)

/-- The trim limited to −32,000..32,000 (R62). -/
def clampTrim (t : Int) : Int := clampInt (-32000) 32000 t

/-- The draft at position `x` before it is floored: T_ref − round(trim × x / LBP) (R63). -/
def draftAt (tRef trim x : Int) (lbp : Nat) : Int := tRef - rdiv (trim * x) lbp

/-- A draft given to the outside, floored at 0 (R63). -/
def floored (t : Int) : Nat := t.toNat

/-- Stage 6: the weight a compartment contributes aft of position `x` (R64). -/
def weightAft (c : SnapComp) (x : Int) : Int :=
  if x ≤ c.aft then 0
  else if c.fore ≤ x then c.mass
  else rdiv (c.mass * (x - c.aft)) (c.fore - c.aft).toNat

/-- Stage 6: the moment term a compartment contributes about position `x`, twice the moment in 0.1 t × cm (R64). -/
def momentTerm (c : SnapComp) (x : Int) : Int :=
  if x ≤ c.aft then 0
  else if c.fore ≤ x then c.mass * (2 * x - c.aft - c.fore)
  else rdiv (c.mass * ((x - c.aft) * (x - c.aft))) (c.fore - c.aft).toNat

/-- A figure as a fraction of its limit in thousandths, at most 1,999 (R67): `plus` judges a figure at or above 0. -/
def mille (v : Int) (plus minus : Nat) : Nat :=
  min 1999 (rdivN (1000 * v.natAbs) (if 0 ≤ v then plus else minus))

/-- Stages 6 to 9 at checkpoint `j` (R64 to R67). -/
def checkpointFig (T : Tables) (cs : List SnapComp) (h : HydroPlace) (trim : Int) (j : Nat) : CpFig :=
  let x := T.cpX j
  let weight := sumOf (fun c => weightAft c x) cs
  let moment := rdiv (sumOf (fun c => momentTerm c x) cs) 2000
  let b := h.interp (fun k => (T.buoyancy k j : Int)) + rdiv (T.kB j * trim) 1000
  let mb := h.interp (fun k => T.buoyancyMoment k j) + rdiv (T.kM j * trim) 1000
  let sf := weight - b
  let bm := moment - mb
  { sf := sf, bm := bm, sfMille := mille sf (T.sfPlus j) (T.sfMinus j), bmMille := mille bm (T.bmHog j) (T.bmSag j) }

/-- The greatest figure of a list with its place, the lower place where two share it (R67). -/
def greatest (xs : List Nat) : Nat × Nat :=
  (xs.zipIdx).foldl (fun best x => if best.1 < x.1 then x else best) (xs.headD 0, 0)

/-- The quality flags that come from the snapshot (R68). -/
def snapQuality (cs : List SnapComp) (hydro trim : Bool) : Quality :=
  let tanks := cs.filterMap SnapComp.tank
  { hydroClamped := hydro
    trimClamped := trim
    gaugeHeld := tanks.any fun t => t.state == .held
    estimated := tanks.any fun t => t.state.source == .estimate
    offTable := tanks.any fun t => t.state.source == .gauge && t.offTable != .within
    neverRead := tanks.any fun t => (t.state == .lost || t.state == .masked) && t.neverRead }

/-- The sum of the masses of the compartments of one kind. -/
def massOfKind (k : Kind) (cs : List SnapComp) : Nat := displacement (cs.filter fun c => c.kind == k)

/-- The condition of a ship with these compartments: the nine stages in order (R60 to R68, R70). -/
def conditionOf (T : Tables) (cs : List SnapComp) : Condition :=
  let Δ := displacement cs
  let lcg := centreOfGravity cs
  let h := hydroPlace T Δ
  let draft := h.interp fun k => (T.hydroDraft k : Int)
  let lcb := h.interp T.lcb
  let lcf := h.interp T.lcf
  let mtc := h.interp fun k => (T.mtc k : Int)
  let raw := rawTrim Δ lcb lcg mtc.toNat
  let trim := clampTrim raw
  let tRef := draft + rdiv (trim * lcf) T.lbp
  let cps := (List.range T.cpCount).map (checkpointFig T cs h trim)
  let sf := greatest (cps.map CpFig.sfMille)
  let bm := greatest (cps.map CpFig.bmMille)
  { disp := Δ, lcg := lcg, draft := draft, tRef := tRef, tAft := floored tRef, tFwd := floored (tRef - trim), trim := trim
    rob := massOfKind .ballast cs, cargo := massOfKind .hold cs, cps := cps
    maxSf := sf.1, maxSfAt := sf.2, maxBm := bm.1, maxBmAt := bm.2
    quality := snapQuality cs h.clamped (trim != raw) }

/-- The deepest draft of a condition: the greater of the floored drafts aft and forward (R63). -/
def Condition.deepest (c : Condition) : Nat := max c.tAft c.tFwd

/-- The air clearance of the hold of HOLD row `row`: boom − tide − (coaming − T(x)), with T(x) floored (R83). -/
def clearanceAt (T : Tables) (boom : Nat) (tide : Int) (row : Nat) (c : Condition) : Int :=
  boom - tide - ((T.coaming row : Int) - floored (draftAt c.tRef c.trim (T.centre row) T.lbp))

/-- Case A of a projection: every HOLD compartment of the request's hold has r more (R72). -/
def caseA (req : ProjReq) (cs : List SnapComp) : List SnapComp :=
  cs.map fun c => if c.kind = .hold ∧ c.hold = req.hold then { c with mass := c.mass + req.remaining } else c

/-- Case B: case A with the tank of each transfer in flight at its target mass (R72). -/
def caseB (req : ProjReq) (snap : Snapshot) : List SnapComp :=
  (caseA req snap.comps).map fun c =>
    match if c.kind = .ballast then snap.targets.find? fun t => t.1 == c.comp else none with
    | some t => { c with mass := t.2 }
    | none => c

end Sys2Proof.Machine
end

