-- ==== Sys2Proof/Machine/Engine.lean ====
section
/-! DEFINITION. The Condition Engine's marks, snapshot and taking of jobs (R54 to R59), and the withdrawal of what it
holds. The completion of its jobs stands with the commands. -/

namespace Sys2Proof.Machine

/-- Whether the ship data is in force (R15). -/
def dataValid (s : State) : Bool := s.store.dataState == .valid

/-- Whether a slot's flag is set in a mask (R24). -/
def maskFlag (mask : BitVec 32) (slot : Nat) : Bool := mask.getLsbD slot

/-- The ballast tanks whose slot is in the current mask and whose gauge state is UNREAD (R57, R77). -/
def unreadEnabled (s : State) : List Nat :=
  compartments.filter fun c =>
    match s.gaugeRec c with
    | some g => g.state == .unread && maskFlag s.gauge.currentMask (s.store.tables.gaugeSlot c)
    | none => false

/-- What the snapshot holds of compartment `c`: nothing for an UNUSED row (R58). -/
def snapComp (s : State) (c : Nat) : Option SnapComp :=
  let T := s.store.tables
  let base (k : Kind) (mass hold : Nat) (tank : Option SnapTank) : SnapComp :=
    { comp := c, kind := k, aft := T.aft c, fore := T.fore c, mass := mass, hold := hold, tank := tank }
  match T.kind c with
  | some .ballast =>
    some (base .ballast (((s.gaugeRec c).map GaugeRec.mass).getD 0) 0
      ((s.gaugeRec c).map fun g =>
        { state := g.state, offTable := g.offTable, neverRead := g.neverRead
          inMask := maskFlag s.gauge.currentMask (T.gaugeSlot c) }))
  | some .hold => some (base .hold (s.tracker.holds.get (T.holdNumber c - 1)) (T.holdNumber c) none)
  | some .fixed => some (base .fixed (s.engine.fixed.get c) 0 none)
  | some .lightship => some (base .lightship (T.rowMass c) 0 none)
  | some .unused => none
  | none => none

/-- The tank and target mass of every transfer in a state other than IDLE (R58). -/
def snapTargets (s : State) : List (Nat × Nat) :=
  (drivers.filter fun d => (s.transfer d).state != .idle).map fun d => ((s.transfer d).tank, (s.transfer d).targetMass)

/-- The snapshot copied at the beginning of a job; the transfers' targets are copied for a projection alone (R58). -/
def takeSnapshot (s : State) (projection : Bool) : Snapshot :=
  { comps := compartments.filterMap (snapComp s), targets := if projection then snapTargets s else [] }

/-- The working condition of a task: one condition for a refresh, two cases for a projection (R72). It is computed when
the job begins, from the snapshot and the tables as they stand (log entry 25). -/
def workingOf (T : Tables) (task : Task) (snap : Snapshot) : List Condition :=
  match task with
  | .refresh => [conditionOf T snap.comps]
  | .projection req _ => [conditionOf T (caseA req snap.comps), conditionOf T (caseB req snap)]

/-- The sequence number of the published record, or 0 (R74, R77). -/
def publishedSeq (s : State) : Nat :=
  match s.engine.published with
  | some p => p.seq
  | none => 0

/-- A job begins: the snapshot is copied and the stages run on it (R57, R58). -/
def beginJob (task : Task) (s : State) : State :=
  let snap := takeSnapshot s (task != .refresh)
  { s with
    engine :=
      { s.engine with
        job := some { task := task, snapshot := snap, working := workingOf s.store.tables task snap, pubSeq := publishedSeq s } } }

/-- A refresh may be run: no enabled tank is UNREAD (R57). -/
def refreshMay (s : State) : Bool := (unreadEnabled s).isEmpty

/-- A condition may be published: a sweep end has been made since the last hardware reset or successful commit (R40), and no
enabled tank is UNREAD (R19, R28; log entry 29). -/
def publishMay (s : State) : Bool := s.gauge.swept && (unreadEnabled s).isEmpty

/-- A refresh mark is taken, and declined where a refresh may not be run (R57). -/
def takeRefresh (s : State) : State :=
  let s' := { s with engine := { s.engine with refreshMark := false } }
  if refreshMay s then beginJob .refresh s' else s'

/-- A projection mark is taken: declined while there is no published record (R57). -/
def takeProjection (req : ProjReq) (s : State) : State :=
  let s' := { s with engine := { s.engine with projMark := none } }
  if s.engine.published.isSome then beginJob (.projection req false) s' else s'

/-- The free engine takes one mark, chosen by the table of R57. A busy engine, or one with no mark, takes none. -/
def takeMark (s : State) : State :=
  match s.engine.job with
  | some _ => s
  | none =>
    match s.engine.refreshMark, s.engine.projMark with
    | false, none => s
    | true, none => takeRefresh s
    | false, some req => takeProjection req s
    | true, some req => if s.engine.lastKind = some .refresh then takeProjection req s else takeRefresh s

/-- The engine takes marks while it is free and one is set: after a declined take it looks again at the mark that remains,
so two takes at most (R57). -/
def engineRun (s : State) : State := takeMark (takeMark s)

/-- A refresh trigger (R55): sets the mark while the data is VALID, and a free engine takes it at once. -/
def setRefreshMark (s : State) : State :=
  if dataValid s then engineRun { s with engine := { s.engine with refreshMark := true } } else s

/-- A projection request (R56): sets or replaces the mark while the data is VALID. -/
def requestProjection (req : ProjReq) (s : State) : State :=
  if dataValid s then engineRun { s with engine := { s.engine with projMark := some req } } else s

/-- The job is discarded, both marks cleared, and the published record and the projection result withdrawn (R15, R20). -/
def withdrawEngine (e : Engine) : Engine :=
  { e with job := none, refreshMark := false, projMark := none, published := none, result := none }

end Sys2Proof.Machine
end

