-- ==== Sys2Proof/Machine/Flags.lean ====
section
/-! DEFINITION. The flags the spec computes: the status byte, the limit flags, the stress watch and the reason set of an
evaluation. -/

namespace Sys2Proof.Machine

/-! ## The status byte (R199, Status byte) -/

/-- Bits 7 to 5: the eight pairings of data and operation state that occur. A pairing that no run reaches takes the code of
its data state in IDLE (log entry 19). -/
def stateBits (d : DataState) (o : OpState) : Nat :=
  match d, o with
  | .checking, _ => 0
  | .valid, .idle => 1
  | .valid, .loading => 4
  | .valid, .complete => 5
  | .uncommitted, .complete => 6
  | .uncommitted, _ => 2
  | .invalid, .complete => 7
  | .invalid, _ => 3

/-- The stress watch's code (Status byte). -/
def Watch.code : Watch → Nat
  | .normal => 0 | .caution => 1 | .breach => 2

/-- The notices-pending indication of a link (R199). -/
def notesWaiting (s : State) : Link → Bool
  | .ship => noticesPending s
  | .shore => !s.links.queue.isEmpty

/-- The status byte of a reply on a link, as the figures stand (R199). -/
def statusByte (s : State) (l : Link) : Byte :=
  BitVec.ofNat 8
    (stateBits s.store.dataState s.tracker.op * 32 + s.limits.watch.code * 8 + s.limits.latch.toNat * 4 +
      (s.link l).overrun.toNat * 2 + (notesWaiting s l).toNat)

/-! ## The stress watch (R87) -/

/-- The stress watch after a judgement of `m` with caution threshold `c` and band `b` (R87). -/
def nextWatch (w : Watch) (m c b : Nat) : Watch :=
  if 1000 ≤ m then .breach
  else
    match w with
    | .normal => if c ≤ m then .caution else .normal
    | .caution => if c ≤ m + b then .caution else .normal
    | .breach => if m + b < c then .normal else if 1000 ≤ m + b then .breach else .caution

/-- The CAUTION flag: the stress watch is CAUTION or BREACH (R85). -/
def Watch.cautionFlag (w : Watch) : Bool := w != .normal

/-- M of a condition with its source: the SF figure when it is equal or greater (R87). -/
def Condition.stress (c : Condition) : Nat × StressSource × Nat :=
  if c.maxBm ≤ c.maxSf then (c.maxSf, .sf, c.maxSfAt) else (c.maxBm, .bm, c.maxBmAt)

/-! ## Clearances and limit flags (R83, R85) -/

/-- The clearance of hold `h` (1 to 12) under the judged condition: absent while the boom height is not set, no condition
is judged, or the hold has no HOLD row (R83). -/
def clearanceOf (s : State) (h : Nat) : Option Int :=
  match s.limits.boom, s.engine.published, s.store.tables.rowOfHold h with
  | some boom, some p, some row =>
    if s.limits.judgedSeq = 0 then none else some (clearanceAt s.store.tables boom s.limits.tide row p.cond)
  | _, _, _ => none

/-- The clearances of holds 1 to 12, hold `h` at place `h - 1`. -/
def clearancesOf (s : State) : Tab 12 (Option Int) := Tab.build 12 fun i => clearanceOf s (i + 1)

/-- A clearance sets AIR_DRAFT when it is present and below the minimum (R85). -/
def airFlag (minClear : Option Nat) (clearance : Option Int) : Bool :=
  match minClear, clearance with
  | some m, some c => decide (c < m)
  | _, _ => false

/-- A deepest draft sets DRAFT when it is above the maximum draft, where that is set (R85). -/
def draftFlag (maxDraft : Option Nat) (deepest : Nat) : Bool :=
  match maxDraft with
  | some m => decide (m < deepest)
  | none => false

/-- A trim sets TRIM when it lies beyond the stern or the head limit (R85). -/
def trimFlag (T : Tables) (trim : Int) : Bool := decide ((T.trimStern : Int) < trim) || decide ((T.trimHead : Int) < -trim)

/-- The flags that differ between two judgements. -/
def LimitFlags.diff (a b : LimitFlags) : LimitFlags :=
  { draft := a.draft != b.draft, trim := a.trim != b.trim, air := Tab.build 12 fun i => a.air.get i != b.air.get i }

/-- Whether any flag is set. -/
def LimitFlags.any (f : LimitFlags) : Bool := f.draft || f.trim || f.air.cells.any id

/-- The LIMIT notice's detail after a judgement that changed flags from `old` and the CAUTION flag from `oldCaution`
(R85). -/
def limitDetail (old : LimitFlags) (oldCaution : Bool) (s : State) : Detail :=
  let changed := old.diff s.limits.flags
  .limit s.limits.judgedSeq s.limits.flags changed s.limits.watch.cautionFlag
    (oldCaution != s.limits.watch.cautionFlag)
    (((List.range 12).filter fun i => changed.air.get i).map fun i => (i + 1, s.limits.clearances.get i))

/-- The LIMIT notice is raised when any limit flag or CAUTION differs from before (R84, R85). -/
def raiseLimit (old : LimitFlags) (oldCaution : Bool) (s : State) : State :=
  if old = s.limits.flags ∧ oldCaution = s.limits.watch.cautionFlag then s else raise (limitDetail old oldCaution s) s

/-- The pour enable line follows the operation state and the latch (R92). -/
def settleLine (s : State) : State :=
  { s with limits := { s.limits with pourEnable := s.tracker.op == .loading && !s.limits.latch } }

/-! ## The pour concerned and its reason set (R153, R154) -/

/-- The pour concerned by an evaluation (R153). -/
structure Concerned where
  entry : PlanEntry
  started : Bool
  unexpected : Bool
  tally : Nat
  deriving DecidableEq, Repr

/-- The plan entry at the plan position (R147). -/
def nextEntry (s : State) : Option PlanEntry := (planEntries s.tracker.active)[s.tracker.pos]?

/-- The current pour in PERMITTED, POURING, HOLD_REQUESTED and HELD; the plan entry at the plan position in EVALUATING
(R153). -/
def concerned (s : State) : Option Concerned :=
  match s.tracker.state with
  | .permitted | .pouring | .holdRequested | .held =>
    s.tracker.cur.map fun p => ⟨p.entry, p.started, p.origin == .unexpected, p.tally⟩
  | .evaluating => (nextEntry s).map fun e => ⟨e, false, false, 0⟩
  | .idle | .planDone => none

/-- r, the remaining tonnage: planned less the latest tally, or 0 (R154). -/
def Concerned.remaining (c : Concerned) : Nat := c.entry.planned - c.tally

/-- The projection standing, where it is for this pour and the current generation (R154). -/
def standingFor (s : State) (c : Concerned) : Option Standing :=
  match s.tracker.standing with
  | some st => if st.pour = c.entry.pour ∧ st.gen = s.tracker.gen then some st else none
  | none => none

/-- Whether the standing is PASSED for this pour and generation (R156). -/
def standingPassed (s : State) (c : Concerned) : Bool := ((standingFor s c).map Standing.passed).getD false

/-- A reason of the standing's combined set (R154). -/
def standingHolds (s : State) (c : Concerned) (f : ProjReasons → Bool) : Bool :=
  ((standingFor s c).map fun st => f st.reasons).getD false

/-- HOLD_MASS: the hold has a HOLD row, and its mass + r is above its maximum (R154). -/
def overHold (s : State) (c : Concerned) : Bool :=
  match s.store.tables.rowOfHold c.entry.hold with
  | some row => decide (s.store.tables.maxHold row < s.tracker.holds.get (c.entry.hold - 1) + c.remaining)
  | none => false

/-- The reason set of the pour concerned (R154). The reasons that read the condition are not judged while no condition is
published. -/
def reasonSet (s : State) (c : Concerned) : Reasons :=
  let published := s.engine.published.isSome
  let lag := if c.started then s.tracker.lag else s.tracker.lagBefore
  reasonWhen (!published) .noCondition |||
  reasonWhen (!c.started && decide (s.seq.stage < c.entry.stage)) .stage |||
  reasonWhen (s.limits.watch == .breach) .breach |||
  reasonWhen s.limits.latch .stopLatch |||
  reasonWhen (published && decide ((c.entry.lagTol : Int) < lag)) .lag |||
  reasonWhen (overHold s c) .holdMass |||
  reasonWhen (!c.started && decide (128 ≤ s.tracker.history.length)) .historyFull |||
  reasonWhen (((standingFor s c).map fun st => !st.passed).getD false) .projection |||
  reasonWhen ((published && s.limits.flags.air.cells.any id) || standingHolds s c ProjReasons.airDraft) .airDraft |||
  reasonWhen ((published && s.limits.flags.draft) || standingHolds s c ProjReasons.draft) .draft |||
  reasonWhen ((published && s.limits.flags.trim) || standingHolds s c ProjReasons.trim) .trim |||
  reasonWhen (c.started && !c.unexpected && decide (c.entry.planned + c.entry.overTol < c.tally)) .overpour |||
  reasonWhen c.unexpected .unexpected

end Sys2Proof.Machine
end

