-- ==== Sys2Proof/Machine/Tracker.lean ====
section
/-! DEFINITION. The Pour Tracker's evaluation and what it hands on: the shore notices, the deadlock check of the Sequencer,
and the setting of the stop latch that its own faults ask for (R89, R142, R154 to R158, R203). -/

namespace Sys2Proof.Machine

/-! ## The Sequencer as the tracker and the Transfer Unit reach it -/

/-- The Sequencer's core becomes `c`. -/
def State.setCore (s : State) (c : SeqCore) : State := { s with seq := { s.seq with core := c } }

/-- The detail of a SEQUENCE notice as the Sequencer stands (R143). -/
def sequenceDetail (s : State) : Detail :=
  .sequence s.seq.core.state s.seq.core.pointer (stepKind s.seq.active s.seq.core.pointer) s.seq.core.suspend
    s.seq.core.detail s.seq.core.passes

/-- The Sequencer becomes SUSPENDED with a reason; every reason but HOST raises the SEQUENCE notice (R125, R143). -/
def suspendSeq (why : SuspendReason) (detail : SuspendDetail) (s : State) : State :=
  let s' := s.setCore { s.seq.core with state := .suspended, wait := .nothing, suspend := why, detail := detail }
  if why = .host then s' else raise (sequenceDetail s') s'

/-- Whether the tracker holds its next pour with STAGE among the reasons that block its permit (R142). -/
def heldOnStage (s : State) : Bool :=
  match concerned s with
  | some c => !c.started && hasReason s.tracker.lastReasons .stage
  | none => false

/-- Whether the pointer is at a WAIT_POUR step for a pour number that an entry of the plan bears. A wait for any other number
is not a deadlock (R142). -/
def awaitsPlanned (s : State) : Bool :=
  match stepAt s.seq.active s.seq.core.pointer with
  | .waitPour n => (planEntries s.tracker.active).any fun e => e.pour == n
  | _ => false

/-- The deadlock check: a pointer that waits with reason POUR for a pour of the plan, while the next pour is held on STAGE,
suspends the Sequencer with DEADLOCK (R142). -/
def deadlockCheck (s : State) : State :=
  if s.seq.core.state = .running ∧ s.seq.core.wait = .pour ∧ awaitsPlanned s ∧ heldOnStage s then
    suspendSeq .deadlock .nothing s
  else s

/-! ## The shore notices (R158, R203) -/

/-- The POUR notice's detail: the event, the tracker state after it, the pour and hold concerned, and the reason set
(R158). Which pour and set stand at EXCHANGE, PLAN_DONE, SHORE_LOST, the end of a pour and a refusal is the model's choice
(DESIGN CHOICE, log entry 41), made where each is raised. -/
def raisePour (e : PourEvent) (concerned : Option (Nat × Nat)) (set : Reasons) (s : State) : State :=
  raise (.pour e s.tracker.state concerned set) s

/-- A shore notice is appended; a queue of 16 loses its oldest first, which raises the POUR notice with the marker
SHORE_LOST (R203), with no pour concerned and no reasons (DESIGN CHOICE, log entry 41). -/
def issueShore (n : ShoreNotice) (s : State) : State :=
  let queue := s.links.queue
  if queue.length < shoreQueueMax then { s with links := { s.links with queue := queue ++ [n] } }
  else
    match queue with
    | [] => s
    | oldest :: rest =>
      raisePour (.shoreLost oldest) none 0#13 { s with links := { s.links with queue := rest ++ [n] } }

/-- The tracker becomes `t`. -/
def State.setTracker (s : State) (t : Tracker) : State := { s with tracker := t }

/-- PMIT is sent for pour `p`, which becomes the current pour; the state becomes PERMITTED (R156, R158). -/
def sendPermit (p : CurrentPour) (s : State) : State :=
  let s' := s.setTracker { s.tracker with state := .permitted, cur := some { p with reasons := 0#13 } }
  issueShore (.pmit p.entry.pour p.entry.hold (p.entry.planned + p.entry.overTol))
    (raisePour .permit (some (p.entry.pour, p.entry.hold)) 0#13 s')

/-- PHLD is sent for the current pour `p` with a reason set: its hold count rises, the reasons join the union, the ack
countdown is loaded with the hold-ack time, and the state becomes HOLD_REQUESTED (R156, R158, R162). -/
def sendHold (p : CurrentPour) (set : Reasons) (s : State) : State :=
  let p' := { p with reasons := set, holds := countTo 65535 p.holds, union := p.union ||| set }
  let s' := s.setTracker
    { s.tracker with state := .holdRequested, cur := some p', ack := some (ticks s.limits.ackTime) }
  issueShore (.phld p.entry.pour p.entry.hold set) (raisePour .held (some (p.entry.pour, p.entry.hold)) set s')

/-- PRES is sent for the current pour, which is POURING again (R156, R158). -/
def sendResume (p : CurrentPour) (s : State) : State :=
  let s' := s.setTracker { s.tracker with state := .pouring, cur := some { p with reasons := 0#13 } }
  issueShore (.pres p.entry.pour p.entry.hold) (raisePour .resumed (some (p.entry.pour, p.entry.hold)) 0#13 s')

/-- The pour that a permit makes current, from the plan entry at the plan position (R153). Until it is started its start stamp,
hold mass at start, stage at start and tally are 0 (DESIGN CHOICE, log entry 40). -/
def plannedPour (s : State) (e : PlanEntry) : CurrentPour :=
  { origin := .plan s.tracker.pos, entry := e, started := false, startStamp := 0, holdAtStart := 0, stageAtStart := 0,
    tally := 0, revised := false, reasons := 0#13, holds := 0, union := 0#13 }

/-- The current reasons of a held pour follow the evaluation and join its union (R156). -/
def followReasons (p : CurrentPour) (set : Reasons) (s : State) : State :=
  s.setTracker { s.tracker with cur := some { p with reasons := set, union := p.union ||| set } }

/-! ## Evaluation (R156) -/

/-- What an evaluation with reason set `set` does, by the tracker state (R156). -/
def actOn (c : Concerned) (set : Reasons) (s : State) : State :=
  match s.tracker.state, s.tracker.cur with
  | .evaluating, _ => if set = 0#13 ∧ standingPassed s c then sendPermit (plannedPour s c.entry) s else s
  | .permitted, some p => if set = 0#13 then s else sendHold p set s
  | .pouring, some p => if set = 0#13 then s else sendHold p set s
  | .holdRequested, some p => followReasons p set s
  | .held, some p =>
    if set = 0#13 ∧ p.started then sendResume p s
    else if set = 0#13 ∧ standingPassed s c then sendPermit p s
    else followReasons p set s
  | _, _ => s

/-- One evaluation: the reason set of the pour concerned is computed and acted on, and an evaluation of a pour not started
that holds STAGE is handed to the Sequencer for its deadlock check (R156). In IDLE and PLAN_DONE nothing is evaluated. -/
def evaluate (s : State) : State :=
  match concerned s with
  | none => s
  | some c =>
    let set := reasonSet s c
    let s' := actOn c set (s.setTracker { s.tracker with lastReasons := set })
    if !c.started && hasReason set .stage then deadlockCheck s' else s'

/-! ## Lag (R155) -/

/-- The expected ROB of a pour in progress at a tally (R155). -/
def expectedRob (prev : Nat) (p : CurrentPour) (tally : Nat) : Int :=
  match p.origin with
  | .plan _ =>
    (prev : Int) - rdiv (((prev : Int) - p.entry.rob) * min tally p.entry.planned) p.entry.planned
  | .unexpected => prev

/-- The lag during a pour with this tally and actual ROB: 0 while no pour is in progress or the previous planned ROB is
unset (R155). -/
def lagDuring (t : Tracker) (rob : Nat) (tally : Nat) : Int :=
  match t.prevRob, t.cur with
  | some prev, some p => if p.started then (rob : Int) - expectedRob prev p tally else 0
  | _, _ => 0

/-- The lag before a start (R155). -/
def lagBeforeStart (t : Tracker) (rob : Nat) : Int :=
  match t.prevRob with
  | some prev => (rob : Int) - prev
  | none => 0

/-- The first publish after an OPBG that found no condition sets the previous planned ROB to its ballast ROB (R148). -/
def settlePrevRob (rob : Nat) (t : Tracker) : Tracker :=
  if t.prevRob = none ∧ t.op ≠ .idle then { t with prevRob := some rob } else t

/-- The lag figures of a publish with this ballast ROB (R155). -/
def withLag (rob : Nat) (t : Tracker) : Tracker :=
  let t' := settlePrevRob rob t
  { t' with
    lag := lagDuring t' rob ((t'.cur.map CurrentPour.tally).getD 0)
    lagBefore := lagBeforeStart t' rob }

/-- The projection request of a publish, if one is made (R157): in EVALUATING when the reason set holds no reason other than
PROJECTION; for a current pour at every publish. -/
def publishRequest (s : State) : Option ProjReq :=
  match concerned s with
  | none => none
  | some c =>
    let req : ProjReq := { pour := c.entry.pour, hold := c.entry.hold, remaining := c.remaining, gen := s.tracker.gen }
    if s.tracker.state = .evaluating then
      if reasonSet s c &&& ~~~Reason.projection.bit = 0#13 then some req else none
    else some req

/-- The tracker's work at a publish: the lag figures, an evaluation, and a projection request (R155 to R157). The lag is
then the Transfer Unit's to take. -/
def trackerPublish (rob : Nat) (s : State) : State :=
  let s1 := s.setTracker (withLag rob s.tracker)
  let s2 := evaluate s1
  match publishRequest s1 with
  | some req => requestProjection req s2
  | none => s2

/-! ## The stop latch (R89) -/

/-- The latch causes with one more. -/
def LatchCauses.add (c : LatchCauses) : LatchCause → LatchCauses
  | .breach => { c with breach := true }
  | .ackTimeout => { c with ackTimeout := true }
  | .pourAfterHold => { c with pourAfterHold := true }

/-- A setting of the stop latch: the latch, its causes, the last setting, the count and the STOP notice; the pour enable
line follows at once, and the setting is handed to the Pour Tracker, which evaluates (R89, R92, R156; log entry 9). -/
def setLatch (cause : LatchCause) (number : Nat) (s : State) : State :=
  let limits :=
    { s.limits with
      latch := true
      causes := s.limits.causes.add cause
      lastSetting := some { cause := cause, stamp := s.time.port, number := number }
      settings := countTo 65535 s.limits.settings }
  evaluate (raise (.stop cause number) (settleLine { s with limits := limits }))

end Sys2Proof.Machine
end

