-- ==== Sys2Proof/Machine/Limits.lean ====
section
/-! DEFINITION. The Limits Unit: the judgement of a publish, the withdrawal, and the recomputation of the clearances
(R82 to R88, R94). -/

namespace Sys2Proof.Machine

/-- The Limits Unit becomes `l`. -/
def State.setLimits (s : State) (l : Limits) : State := { s with limits := l }

/-- The deeper of the two floored drafts with its end; where both are equal the end is free (R80; log entry 8). -/
def deepestOf (c : Condition) : Nat × DraftEnd :=
  (c.deepest,
    if c.tFwd < c.tAft then .aft else if c.tAft < c.tFwd then .fwd else Config.deepestEndOnTie c.tAft)

/-- The clearances are recomputed and each AIR_DRAFT flag set or cleared (R83, R85). -/
def judgeAir (s : State) : State :=
  let cl := clearancesOf s
  s.setLimits
    { s.limits with
      clearances := cl
      flags := { s.limits.flags with air := Tab.build 12 fun i => airFlag s.limits.minClear (cl.get i) } }

/-- Steps 1 to 4 of a judgement, all but the watch's entry into BREACH (R84): the judged sequence, draft and trim, the
clearances, the limit flags, M and the stress watch. -/
def judgeFigures (p : Published) (s : State) : State :=
  let T := s.store.tables
  let l := s.limits
  let stress := p.cond.stress
  judgeAir <| s.setLimits
    { l with
      judgedSeq := p.seq
      deepest := some (deepestOf p.cond)
      trim := some p.cond.trim
      flags := { l.flags with draft := draftFlag l.maxDraft p.cond.deepest, trim := trimFlag T p.cond.trim }
      m := stress.1
      mSource := stress.2
      watch := nextWatch l.watch stress.1 T.cautionAt T.band }

/-- On entry into BREACH the stop latch is set with cause BREACH and the BREACH notice raised (R84, R88). -/
def enterBreach (before : Watch) (s : State) : State :=
  if before ≠ .breach ∧ s.limits.watch = .breach then
    let l := s.limits
    setLatch .breach l.judgedSeq (raise (.breach l.judgedSeq l.m l.mSource.1 l.mSource.2) s)
  else s

/-- The judgement of a published record as one act, steps 1 to 6 (R84). -/
def judgePublish (p : Published) (s : State) : State :=
  raiseLimit s.limits.flags s.limits.watch.cautionFlag (enterBreach s.limits.watch (judgeFigures p s))

/-- The published record is withdrawn: the judged sequence becomes 0, the figures absent, and the limit flags clear; the
LIMIT notice is raised if any of them was set. The watch, M, the latch and the line are kept (R86). -/
def limitsWithdraw (s : State) : State :=
  let s' := s.setLimits
    { s.limits with
      judgedSeq := 0, clearances := Tab.replicate 12 none, deepest := none, trim := none, flags := LimitFlags.clear }
  if s.limits.flags.any then raise (limitDetail s.limits.flags s.limits.watch.cautionFlag s') s' else s'

/-- An accepted TIDE: the height is stored; with the boom height set and a condition judged, the clearances and AIR_DRAFT
flags are recomputed, a change raises LIMIT, and the TIDE is handed to the Pour Tracker, which evaluates (R82). -/
def applyTide (height : Int) (s : State) : State :=
  let s1 := s.setLimits { s.limits with tide := height }
  if s.limits.boom.isSome ∧ s.limits.judgedSeq ≠ 0 then
    evaluate (raiseLimit s.limits.flags s.limits.watch.cautionFlag (judgeAir s1))
  else s1

/-- The parameters an OPBG carries to the Limits Unit (R81, R94). -/
structure OpParams where
  density : Nat
  maxDraft : Nat
  boom : Nat
  minClear : Nat
  ackTime : Nat
  paceGain : Nat
  tide : Int
  deriving DecidableEq, Repr

/-- DRAFT judged again with the maximum draft as it stands, where a condition is judged (R94). -/
def judgeDraft (s : State) : State :=
  match s.limits.deepest with
  | some d =>
    s.setLimits { s.limits with flags := { s.limits.flags with draft := draftFlag s.limits.maxDraft d.1 } }
  | none => s

/-- OPBG in the Limits Unit: parameters, latch, record, line and rejudging (R94). -/
def limitsBegin (p : OpParams) (s : State) : State :=
  let l := s.limits
  let breach := l.watch == .breach
  let s1 := settleLine <| s.setLimits
    { l with
      maxDraft := some p.maxDraft, boom := some p.boom, minClear := some p.minClear, ackTime := p.ackTime, tide := p.tide
      latch := breach, causes := { LatchCauses.none with breach := breach }, settings := 0, lastSetting := none }
  if l.judgedSeq ≠ 0 then raiseLimit l.flags l.watch.cautionFlag (judgeDraft (judgeAir s1)) else s1

/-- STPR outside BREACH: the latch is cleared and its causes emptied, the line follows, and the release is handed to the
Pour Tracker, which evaluates; with the latch already clear nothing changes (R91). -/
def releaseLatch (s : State) : State :=
  if s.limits.latch then
    evaluate (settleLine (s.setLimits { s.limits with latch := false, causes := LatchCauses.none }))
  else s

end Sys2Proof.Machine
end

