-- ==== Sys2Proof/Machine/Records.lean ====
section
/-! DEFINITION. The Record Keeper: the candidate entries, appending, merging and compaction (R182 to R188), the byte layouts
of the condition record, the pour report and the log entry (Formats), and the contents of the three reports (R190 to
R192). -/

namespace Sys2Proof.Machine

/-! ## Candidates (R182 to R184) -/

/-- A metered volume, round(pulses × F / 10,000) (R45). -/
def meteredOf (pulses factor : Nat) : Nat := rdivN (pulses * factor) 10000

/-- The disagreement check of a pumped GAUGE figure `g` against the metered volume `m` (R184). -/
def disagrees (g m percent : Nat) : Bool := decide (max 50 (rdivN (m * percent) 100) < absDiff g m)

/-- Volume and basis of a transfer's candidate (R183): gauge-good at both ends, else the meter, else a partial gauge. -/
def volumeBasis (bothGood gravity : Bool) (gauge metered : Nat) : Nat × Basis :=
  if bothGood then (gauge, .gauge) else if gravity then (gauge, .gaugePartial) else (metered, .meter)

/-- The candidate entry of a transfer returned to IDLE with these records, in a tank of density `ρ` (R182 to R184). Its
entry number is given at appending. -/
def transferCandidate (d : Driver) (x : Transfer) (st : StartRec) (fin : EndRec) (ρ metered percent : Nat) : LogEntry :=
  let gauge := absDiff fin.volume st.volume
  let vb := volumeBasis (st.good && fin.good) d.gravity gauge metered
  { number := 0, tank := x.tank, out := x.direction == .discharge, method := .driver d, startTime := st.stamp
    endTime := fin.stamp, volume := vb.1, basis := vb.2
    disagree := !d.gravity && vb.2 == .gauge && disagrees gauge metered percent
    notClosed := fin.notClosed, merged := false, merges := 0, density := ρ }

/-- The HAND entry of take-back for a mass change `Δm` (R175). -/
def handCandidate (tank : Nat) (Δm : Int) (grant release ρ : Nat) : LogEntry :=
  { number := 0, tank := tank, out := decide (Δm < 0), method := .hand, startTime := grant, endTime := release
    volume := rdivN (Δm.natAbs * 1000) ρ, basis := .mass, disagree := false, notClosed := false, merged := false
    merges := 0, density := ρ }

/-! ## Merging (R187, R188) -/

/-- A basis's place in the order from most direct to least (R187). -/
def Basis.rank : Basis → Nat
  | .gauge => 0 | .meter => 1 | .mass => 2 | .gaugePartial => 3

/-- The basis of two figures together: the later of the two in the order (R187). -/
def Basis.join (a b : Basis) : Basis := if a.rank < b.rank then b else a

/-- The volume-weighted mean of two densities (R187). -/
def meanDensity (v₁ ρ₁ v₂ ρ₂ : Nat) : Nat := rdivN (v₁ * ρ₁ + v₂ * ρ₂) (v₁ + v₂)

/-- The merge count holds at 255 (R181). -/
def mergeMax : Nat := 255

/-- What a merge does to an entry's volume, density, flags and basis (R187). -/
def LogEntry.take (e c : LogEntry) : LogEntry :=
  { e with
    volume := e.volume + c.volume
    density := meanDensity e.volume e.density c.volume c.density
    disagree := e.disagree || c.disagree
    notClosed := e.notClosed || c.notClosed
    basis := e.basis.join c.basis
    merged := true }

/-- A candidate merged into an entry (R187); `mix` makes the method MIXED. -/
def LogEntry.mergeIn (mix : Bool) (c e : LogEntry) : LogEntry :=
  { e.take c with
    endTime := max e.endTime c.endTime
    method := if mix then .mixed else e.method
    merges := countTo mergeMax e.merges }

/-- An older entry merged into a later one at compaction (R188). -/
def LogEntry.absorb (older later : LogEntry) : LogEntry :=
  { later.take older with
    startTime := older.startTime
    method := if later.method = older.method then later.method else .mixed
    merges := min mergeMax (later.merges + older.merges + 1) }

/-- Whether two entries share a tank and a direction. -/
def LogEntry.same (a b : LogEntry) : Bool := a.tank == b.tank && a.out == b.out

/-- The last entry that `p` holds of takes `f`; nothing where it holds of none. -/
def changeLast (p : LogEntry → Bool) (f : LogEntry → LogEntry) : List LogEntry → Option (List LogEntry)
  | [] => none
  | e :: es =>
    match changeLast p f es with
    | some es' => some (e :: es')
    | none => if p e then some (f e :: es) else none

/-- The first entry that `p` holds of takes `f`; nothing where it holds of none. -/
def changeFirst (p : LogEntry → Bool) (f : LogEntry → LogEntry) : List LogEntry → Option (List LogEntry)
  | [] => none
  | e :: es => if p e then some (f e :: es) else (changeFirst p f es).map (e :: ·)

/-- Compaction: the oldest entry that has a later one of its tank and direction is merged into the earliest such and
removed (R188). -/
def compact : List LogEntry → List LogEntry
  | [] => []
  | e :: es =>
    match changeFirst e.same e.absorb es with
    | some es' => es'
    | none => e :: compact es

/-! ## Entering a candidate (R185 to R187) -/

/-- The log holds at most this many entries (R180). -/
def logMax : Nat := 128

/-- The greatest entry number, 2^32 − 1 (R180). -/
def entryNumberMax : Nat := 4294967295

/-- The totals have 48 bits (R180), and so hold sums below this. -/
def totalModulus : Nat := 281474976710656

/-- A volume is added to a total of 48 bits; what stands where the sum does not fit is free (R180, R186; log entry 27). -/
def addVolume (t : BitVec 48) (v : Nat) : BitVec 48 :=
  if t.toNat + v < totalModulus then BitVec.ofNat 48 (t.toNat + v) else Config.totalBeyond (t.toNat + v)

/-- A candidate's volume is added to its tank's total of its direction (R186). -/
def Records.addTotal (r : Records) (c : LogEntry) : Records :=
  if c.out then { r with discharged := r.discharged.set c.tank (addVolume (r.discharged.get c.tank) c.volume) }
  else { r with takenUp := r.takenUp.set c.tank (addVolume (r.takenUp.get c.tank) c.volume) }

/-- A candidate is appended with the next entry number, and its volume added (R186). -/
def Records.append (r : Records) (c : LogEntry) : Records :=
  { r with
    log := r.log ++ [{ c with number := r.nextNumber }]
    nextNumber := countTo entryNumberMax r.nextNumber }.addTotal c

/-- A candidate of the full log (R187): merged by tank, direction and method; else by tank and direction; else appended
after a compaction. Each sets the log-full flag. -/
def Records.merge (r : Records) (c : LogEntry) : Records :=
  match changeLast (fun e => e.same c && e.method == c.method) (LogEntry.mergeIn false c) r.log with
  | some log => { r with log := log, full := true }.addTotal c
  | none =>
    match changeLast (fun e => e.same c) (LogEntry.mergeIn true c) r.log with
    | some log => { r with log := log, full := true }.addTotal c
    | none => { r with log := compact r.log, full := true }.append c

/-- A candidate is entered: dropped at volume 0, appended while there is room, merged otherwise (R185 to R187). -/
def Records.enter (r : Records) (c : LogEntry) : Records :=
  if c.volume = 0 then r else if r.log.length < logMax then r.append c else r.merge c

/-- The Record Keeper is handed a candidate (R180). -/
def enterLog (c : LogEntry) (s : State) : State := { s with records := s.records.enter c }

/-! ## Layouts (Formats) -/

/-- A set of flags as a number, the first flag bit 0. -/
def bitsOf : List Bool → Nat
  | [] => 0
  | b :: bs => b.toNat + 2 * bitsOf bs

/-- The quality flags byte (Condition record, offset 40). -/
def Quality.code (q : Quality) : Nat :=
  bitsOf [q.hydroClamped, q.trimClamped, q.gaugeHeld, q.estimated, q.offTable, q.neverRead]

/-- A 4-byte field of a layout. What it carries for a value of 2^32 or more, where the spec does not say, is `beyond`. -/
def field4 (beyond : Nat → BitVec 32) (v : Nat) : List Byte := toBE (if v < 4294967296 then v else (beyond v).toNat) 4

/-- A 4-byte signed field of a layout. What it carries for a value outside −2^31 to 2^31 − 1, where the spec does not say, is
`beyond`. -/
def signedField4 (beyond : Int → BitVec 32) (v : Int) : List Byte :=
  if -2147483648 ≤ v ∧ v < 2147483648 then toBEInt v 4 else toBE (beyond v).toNat 4

/-- A sequence number in its field. It has no stated top: one of 2^32 or more is free there (log entry 50). -/
def sequenceField (seq : Nat) : List Byte := field4 Config.sequenceBeyond seq

/-- One checkpoint's eleven bytes (Condition record, offset 48 + 11k). BM is not clamped (R66): one that does not fit its field is
free there (log entry 50). -/
def CpFig.bytes (f : CpFig) : List Byte :=
  toBEInt f.sf 4 ++ signedField4 Config.momentBeyond f.bm ++ toBE (f.sfMille * 4096 + f.bmMille) 3

/-- A published record in the condition record layout. -/
def Published.bytes (p : Published) : List Byte :=
  let c := p.cond
  sequenceField p.seq ++ toBE p.stamp 4 ++ toBE c.disp 4 ++ toBEInt c.lcg 4 ++ toBEInt c.draft 2 ++ toBEInt c.tRef 4 ++
    toBE c.tAft 4 ++ toBE c.tFwd 4 ++ toBEInt c.trim 2 ++ toBE c.rob 4 ++ toBE c.cargo 4 ++ toBE c.quality.code 1 ++
    toBE c.cps.length 1 ++ toBE c.maxSf 2 ++ toBE c.maxSfAt 1 ++ toBE c.maxBm 2 ++ toBE c.maxBmAt 1 ++
    c.cps.flatMap CpFig.bytes

/-- The method's code (Discharge log entry, offset 6). -/
def Method.code : Method → Nat
  | .driver d => d.code | .hand => 6 | .mixed => 7

/-- The basis's code (Discharge log entry, offset 19). -/
def Basis.code : Basis → Nat
  | .gauge => 0 | .meter => 1 | .gaugePartial => 2 | .mass => 3

/-- The 4-byte volume field of a log entry (Discharge log entry, offset 15). What it carries for a volume of 2^32 or more,
which a meter factor or merging may bring about, the spec does not state: it is free (log entry 27). -/
def volumeField (v : Nat) : List Byte := field4 Config.volumeBeyond v

/-- A log entry in its layout. -/
def LogEntry.bytes (e : LogEntry) : List Byte :=
  toBE e.number 4 ++ toBE e.tank 1 ++ toBE (!e.out).toNat 1 ++ toBE e.method.code 1 ++ toBE e.startTime 4 ++
    toBE e.endTime 4 ++ volumeField e.volume ++ toBE e.basis.code 1 ++ toBE (bitsOf [e.disagree, e.notClosed, e.merged]) 1 ++
    toBE e.merges 1 ++ toBE e.density 2

/-- Whether a pour is of UNEXPECTED origin. -/
def Origin.isUnexpected : Origin → Bool
  | .plan _ => false
  | .unexpected => true

/-- Origin and entry index, 255 for UNEXPECTED (Pour report, offset 8). -/
def Origin.bytes : Origin → List Byte
  | .plan e => toBE 0 1 ++ toBE e 1
  | .unexpected => toBE 1 1 ++ toBE 255 1

/-- The condition at end, offsets 31 to 61 of the pour report: 0 where absent. -/
def condBytes : Option PourCond → List Byte
  | some c =>
    toBE 1 1 ++ sequenceField c.seq ++ toBE c.disp 4 ++ toBE c.tAft 4 ++ toBE c.tFwd 4 ++ toBEInt c.draft 2 ++ toBEInt c.trim 2 ++
      toBE c.maxSf 2 ++ toBE c.maxSfAt 1 ++ toBE c.maxBm 2 ++ toBE c.maxBmAt 1 ++ toBE c.rob 4
  | none => List.replicate 31 0#8

/-- The correction, offset 66 of the pour report. Its four bytes where there is none are 0 (DESIGN CHOICE, log entry 49). A sum of
changes has no stated top (R165): one that does not fit the field is free there (log entry 50). -/
def correctionBytes : Option Int → List Byte
  | some c => toBE 1 1 ++ signedField4 Config.correctionBeyond c
  | none => List.replicate 5 0#8

/-- A pour record in the pour report layout, without the build stamp. -/
def PourRec.bytes (r : PourRec) : List Byte :=
  toBE r.place 1 ++ toBE r.pour 2 ++ toBE r.hold 1 ++ r.origin.bytes ++ toBE r.planned 4 ++ toBE r.tally 4 ++
    toBE (bitsOf [r.origin.isUnexpected, r.revised]) 1 ++ toBE r.startStamp 4 ++ toBE r.endStamp 4 ++
    toBE (min 255 r.holds) 1 ++ toBE r.union.toNat 2 ++ toBE r.stage 1 ++ condBytes r.cond ++ toBEInt r.lag 4 ++
    correctionBytes r.correction

/-! ## Items -/

/-- A count as an item. -/
def natItem (n : Nat) : Item := .num n

/-- A count that may be absent, as an item. -/
def natOr : Option Nat → Item
  | some n => .num n
  | none => .absent

/-- A signed figure that may be absent, as an item. -/
def intOr : Option Int → Item
  | some n => .num n
  | none => .absent

/-! ## Reports (R191) -/

/-- The sum over an array. -/
def sumTab {n : Nat} (t : Tab n Nat) : Nat := t.cells.sum

/-- A total as an item. -/
def totalItem (t : BitVec 48) : Item := natItem t.toNat

/-- The sum of the totals over all compartments (R191). -/
def sumTotals (t : Tab 48 (BitVec 48)) : Nat := (t.cells.map BitVec.toNat).sum

/-- The unexplained total of a compartment, 0 where it has no gauge record (R191). -/
def unexplainedOf (s : State) (c : Nat) : Int := ((s.gaugeRec c).map GaugeRec.unexplained).getD 0

/-- The changed flag of a compartment, clear where it has no gauge record (R191). -/
def changedOf (s : State) (c : Nat) : Bool := ((s.gaugeRec c).map GaugeRec.changed).getD false

/-- Whether a compartment has a tank block in the DISCHARGE report (R191). -/
def hasBlock (s : State) (c : Nat) : Bool :=
  s.records.discharged.get c != 0#48 || s.records.takenUp.get c != 0#48 || unexplainedOf s c != 0 || changedOf s c

/-- One tank block (R191). -/
def tankBlock (s : State) (c : Nat) : List Item :=
  [natItem c, totalItem (s.records.discharged.get c), totalItem (s.records.takenUp.get c), .num (unexplainedOf s c),
    .flag (changedOf s c)]

/-- A pump's unattributed volume: 0 while its row is not fitted or the data state is not VALID (R46). -/
def unattributedVolume (s : State) (p : Pump) : Nat :=
  if s.store.dataState = .valid ∧ s.store.tables.fitted p.driver then
    meteredOf (s.pumpMeter p).unattributed (s.store.tables.factor p.driver)
  else 0

/-- The contents of the POUR report of one record, in the pour report layout (R191). -/
def pourContents (s : State) (r : PourRec) : List Item := [.raw (toBE s.time.port 4 ++ r.bytes)]

/-- The contents of the DISCHARGE report (R191). -/
def dischargeContents (s : State) : List Item :=
  let r := s.records
  [natItem s.time.port, .opState s.tracker.op, natOr s.tracker.opbgStamp, natItem r.log.length, .flag r.full,
    natItem (r.nextNumber - 1), natItem (sumTotals r.discharged), natItem (sumTotals r.takenUp)] ++
    (compartments.filter (hasBlock s)).flatMap (tankBlock s) ++ pumps.map fun p => natItem (unattributedVolume s p)

/-- The published condition record whole, or the marker of none. -/
def publishedItem (s : State) : Item :=
  match s.engine.published with
  | some p => .raw p.bytes
  | none => .absent

/-- The contents of the FINAL report (R191). -/
def finalContents (s : State) : List Item :=
  let r := s.records
  [natItem s.time.port, natOr s.tracker.opbgStamp, natOr s.tracker.opndStamp, natItem s.tracker.ended,
    natItem s.tracker.history.length, natItem (sumTab s.tracker.holds), publishedItem s, natItem (sumTotals r.discharged),
    natItem (sumTotals r.takenUp), .num ((compartments.map (unexplainedOf s)).sum),
    natItem ((s.tracker.history.map PourRec.holds).sum), natItem s.limits.settings, natItem r.log.length, .flag r.full]

/-- The number a report kind's contents are coded under: 100, 101 and 102 (log entry 7). -/
def ReportKind.message : ReportKind → Nat
  | .pour => 100 | .discharge => 101 | .final => 102

/-- The most bytes that one item without a layout takes. A DISCHARGE report has at most 252 items, so that each kind of report
fits within 16 pages (R190; log entry 7). -/
def itemMax : Nat := 12

/-- The bytes of the item at `place` of a message: as laid out where its layout is given, else in its free coding (log
entry 7). -/
def Item.bytes (message place : Nat) : Item → List Byte
  | .raw bs => bs
  | i => (Config.itemBytes message place i).take itemMax

/-- The bytes of the items from `place` on. -/
def itemsBytes (message : Nat) : Nat → List Item → List Byte
  | _, [] => []
  | place, i :: is => i.bytes message place ++ itemsBytes message (place + 1) is

/-- The bytes of a report's contents. -/
def Report.bytes (r : Report) : List Byte := itemsBytes r.kind.message 0 r.contents

/-- A page's size (R190). -/
def pageSize : Nat := 200

/-- The number of pages that hold the contents, every page full but the last (R190). -/
def Report.pages (r : Report) : Nat := (r.bytes.length + (pageSize - 1)) / pageSize

/-- The bytes of page `n`, from 1 (R192). -/
def Report.page (r : Report) (n : Nat) : List Byte := (r.bytes.drop (pageSize * (n - 1))).take pageSize

end Sys2Proof.Machine
end

