-- ==== Sys2Proof/Machine/Valves.lean ====
section
/-! DEFINITION. The 38 valves: feedback, assignment, commands, adoption and what a loss or gain of assignment does (R96 to
R101). -/

namespace Sys2Proof.Machine

/-- A feedback from two limit levels (R96). -/
def Feedback.ofLimits (openMade closedMade : Bool) : Feedback :=
  match openMade, closedMade with
  | true, false => .opened
  | false, true => .closed
  | false, false => .neither
  | true, true => .both

/-- The feedback of a valve (R96). -/
def feedback (s : State) (ch : Nat) : Feedback := Feedback.ofLimits (s.inputs.openLimit.get ch) (s.inputs.closedLimit.get ch)

/-- The feedback that shows an end alone. -/
def ValveEnd.feedback : ValveEnd → Feedback
  | .opened => .opened
  | .closed => .closed

/-- Whether the limit of an end is made. -/
def ValveEnd.limitMade (e : ValveEnd) (openMade closedMade : Bool) : Bool :=
  match e with
  | .opened => openMade
  | .closed => closedMade

/-- The driver whose line valve a channel is (R96). -/
def lineDriver (ch : Nat) : Option Driver := if ch < 32 then none else Driver.ofCode (ch - 32)

/-- Whether T1 and T6 assign a channel: a tank valve to a BALLAST row, a line valve to a fitted driver (R96). -/
def Tables.assigns (T : Tables) (ch : Nat) : Bool :=
  if ch < 32 then (T.tankOfSlot ch).isSome
  else
    match lineDriver ch with
    | some d => T.fitted d
    | none => false

/-- Whether a valve is assigned (R96). -/
def assigned (s : State) (ch : Nat) : Bool := dataValid s && s.store.tables.assigns ch

/-- The travel time of a valve in seconds, from its BALLAST row or its driver's row (R96). -/
def Tables.travel (T : Tables) (ch : Nat) : Nat :=
  match lineDriver ch with
  | some d => T.lineTravel d
  | none => ((T.tankOfSlot ch).map T.tankTravel).getD 0

/-- The end a valve stands at or moves toward. -/
def ValveState.toward : ValveState → Option ValveEnd
  | .opened | .opening => some .opened
  | .closed | .closing => some .closed
  | .fault => none

/-- Travelling toward an end. -/
def ValveEnd.travelling : ValveEnd → ValveState
  | .opened => .opening
  | .closed => .closing

/-- Standing at an end. -/
def ValveEnd.standing : ValveEnd → ValveState
  | .opened => .opened
  | .closed => .closed

/-- Whether a valve is in travel. -/
def ValveState.moving : ValveState → Bool
  | .opening | .closing => true
  | .closed | .opened | .fault => false

/-- A valve arrives at an end: its travel is over, with its countdown at 0 (DESIGN CHOICE, log entry 45), and its drive
de-energised (R97). -/
def Valve.arriveAt (e : ValveEnd) (v : Valve) : Valve := { v with state := e.standing, countdown := 0, drive := none }

/-- A command to an end (R97), which clears the hand-set flag (R101). `travel` is the travel time in ticks. A valve whose
feedback already shows the end commanded has arrived (log entry 28). -/
def Valve.command (e : ValveEnd) (travel : Nat) (fb : Feedback) (v : Valve) : Valve :=
  let v' := { v with commanded := e, handSet := false }
  if v.state = .fault ∨ v.state.toward = some e then v'
  else if fb = e.feedback then v'.arriveAt e
  else { v' with state := e.travelling, countdown := travel, drive := some e }

/-- The part commands a valve (R97). -/
def commandValve (ch : Nat) (e : ValveEnd) (s : State) : State :=
  s.setValve ch ((s.valve ch).command e (ticks (s.store.tables.travel ch)) (feedback s ch))

/-- The commanded end, state and cause that a feedback gives (R101). -/
def Feedback.adopted : Feedback → ValveEnd × ValveState × Option ValveFault
  | .opened => (.opened, .opened, none)
  | .closed => (.closed, .closed, none)
  | .neither => (.closed, .fault, some .stuck)
  | .both => (.closed, .fault, some .switchDisagree)

/-- A valve record adopted from its feedback with both drives de-energised (R101) and its countdown at 0 (DESIGN CHOICE, log
entry 45). The hand-set flag is kept. -/
def Valve.adopt (fb : Feedback) (v : Valve) : Valve :=
  { v with
    commanded := fb.adopted.1, state := fb.adopted.2.1, cause := fb.adopted.2.2, countdown := 0, drive := none }

/-- A valve becomes FAULT with a cause, its drives de-energised (R98) and its countdown at 0 (DESIGN CHOICE, log entry 45). -/
def Valve.fail (cause : ValveFault) (v : Valve) : Valve :=
  { v with state := .fault, cause := some cause, countdown := 0, drive := none }

/-- The tank valve of a transfer's tank (R96). -/
def tankValve (s : State) (d : Driver) : Nat := s.store.tables.gaugeSlot (s.transfer d).tank

/-- The driver of the transfer of which a valve is (R96): a transfer not IDLE whose tank valve or line valve it is. -/
def holderOf (s : State) (ch : Nat) : Option Driver :=
  drivers.find? fun d => (s.transfer d).state != .idle && (d.lineValve == ch || tankValve s d == ch)

/-- The channel numbers 0 to 37. -/
def channels : List Nat := List.range 38

/-- Whether any assigned valve is in travel (R172). -/
def assignedTravelling (s : State) : Bool := channels.any fun ch => assigned s ch && (s.valve ch).state.moving

/-- A valve that was assigned in `before` and is not now, in travel, has its travel stopped and is adopted from its
feedback with no notice (R96). -/
def dropAssignment (before : State) (s : State) (ch : Nat) : State :=
  if assigned before ch ∧ ¬ assigned s ch ∧ (s.valve ch).state.moving then
    s.setValve ch ((s.valve ch).adopt (feedback s ch))
  else s

/-- The losses of assignment between `before` and now, in ascending channel (R96). -/
def dropAssignments (before s : State) : State := channels.foldl (dropAssignment before) s

end Sys2Proof.Machine
end

