-- ==== Sys2Proof/Machine/Transfers.lean ====
section
/-! DEFINITION. The Transfer Unit's work on its six transfers: the start checks and the acceptance, going on, ending, the
return to IDLE, pace, the checks at sweep ends and publishes, and what a valve's arrival or fault does to its transfer
(R98 to R117). -/

namespace Sys2Proof.Machine

/-! ## What the Sequencer's step progress records (R128) -/

/-- The progress of the START in hand takes `f` where it is of driver `d` and its transfer has not yet returned to IDLE. -/
def SeqCore.hear (d : Driver) (f : Progress → Progress) (c : SeqCore) : SeqCore :=
  match c.progress with
  | some p => if p.driver = d ∧ p.idle = false then { c with progress := some (f p) } else c
  | none => c

/-- The same for the Sequencer: in the saved state while YIELDED (R128), and then in the live progress as well (DESIGN CHOICE,
log entry 47). -/
def notify (d : Driver) (f : Progress → Progress) (s : State) : State :=
  { s with seq := { s.seq with core := s.seq.core.hear d f, saved := s.seq.saved.map (SeqCore.hear d f) } }

/-! ## Tanks -/

/-- A tank's mass in its gauge record. -/
def tankMass (s : State) (c : Nat) : Nat := ((s.gaugeRec c).map GaugeRec.mass).getD 0

/-- A tank's volume in its gauge record. -/
def tankVolume (s : State) (c : Nat) : Nat := ((s.gaugeRec c).map GaugeRec.volume).getD 0

/-- A tank's density. -/
def tankDensity (s : State) (c : Nat) : Nat := ((s.gaugeRec c).map GaugeRec.density).getD 0

/-- The gauge-good flag: the gauge state is GOOD (R105). -/
def gaugeGood (s : State) (c : Nat) : Bool := ((s.gaugeRec c).map fun g => g.state == .good).getD false

/-- Whether a tank's content source is ESTIMATE (R26). -/
def estimated (s : State) (c : Nat) : Bool := ((s.gaugeRec c).map fun g => g.source == .estimate).getD false

/-- A tank's gauge record takes `f`. -/
def changeGauge (c : Nat) (f : GaugeRec → GaugeRec) (s : State) : State :=
  match s.gaugeRec c with
  | some g => s.setGaugeRec c (f g)
  | none => s

/-- A new density (R32): a tank with source GAUGE that is GOOD or HELD has its mass recomputed from its stored volume and
its reference mass set to it. A tank with source ESTIMATE keeps its mass, also where the new density takes its capacity mass below
it (DESIGN CHOICE, log entry 48). -/
def GaugeRec.withDensity (ρ : Nat) (g : GaugeRec) : GaugeRec :=
  if g.state = .good ∨ g.state = .held then
    let m := rdivN (g.volume * ρ) 1000
    { g with density := ρ, mass := m, refMass := m }
  else { g with density := ρ }

/-- The blended density of a fill (R34). -/
def blended (before after ρ port : Nat) : Nat :=
  if before < after then rdivN (before * ρ + (after - before) * port) after else ρ

/-- The gravity head of a tank under a published record: bottom + corrected sounding − T(centre) (R107). -/
def gravityHead (s : State) (c : Nat) (p : Published) : Int :=
  let T := s.store.tables
  (T.bottom c : Int) + (((s.gaugeRec c).map GaugeRec.corrected).getD 0 : Nat) -
    floored (draftAt p.cond.tRef p.cond.trim (T.centre c) T.lbp)

/-- A condition is published and the tank's gravity head is below the minimum (R107). -/
def headLow (s : State) (c : Nat) : Bool :=
  match s.engine.published with
  | some p => decide (gravityHead s c p < s.store.tables.minHead)
  | none => false

/-! ## The start checks (R106) -/

/-- A start as it is carried, its codes not yet judged (R106). -/
structure StartReq where
  driver : Nat
  tank : Nat
  direction : Nat
  target : Nat
  paced : Nat
  base : Nat
  deriving DecidableEq, Repr

/-- A start whose arguments are codes and ranges of R106, check 3. -/
structure Start where
  driver : Driver
  tank : Nat
  direction : Direction
  target : Target
  paced : Bool
  base : Nat
  deriving DecidableEq, Repr

/-- A direction's code (Request arguments). -/
def Direction.ofCode : Nat → Option Direction
  | 0 => some .discharge
  | 1 => some .fill
  | _ => none

/-- A flag's code (Request arguments). -/
def flagOfCode : Nat → Option Bool
  | 0 => some false
  | 1 => some true
  | _ => none

/-- The EMPTY marker of a target (Request arguments). -/
def emptyMarker : Nat := 4294967295

/-- The greatest mass an argument carries, 4,000,000 (0.1 t). -/
def massMax : Nat := 4000000

/-- A target as carried. -/
def Target.ofCode (n : Nat) : Option Target :=
  if n = emptyMarker then some .empty else if n ≤ massMax then some (.mass n) else none

/-- Check 3 of the start checks: BAD_ARGUMENT where it gives nothing (R106). -/
def StartReq.resolve (T : Tables) (r : StartReq) : Option Start :=
  match Driver.ofCode r.driver, Direction.ofCode r.direction, Target.ofCode r.target, flagOfCode r.paced with
  | some d, some dir, some t, some paced =>
    if T.isBallast r.tank = false ∨ (dir = .fill ∧ (t = .empty ∨ d.gravity)) ∨ (paced = true ∧ 100 < r.base) then none
    else some { driver := d, tank := r.tank, direction := dir, target := t, paced := paced, base := r.base }
  | _, _, _, _ => none

/-- Whether a tank may be moved by a driver: an eligible pump, or the tank's gravity line (check 4). -/
def Tables.allows (T : Tables) (d : Driver) (tank : Nat) : Bool :=
  if d.gravity then gravityDriver (T.gravityLine tank) == some d else T.eligible tank d.code

/-- The drivers whose transfers are not IDLE. -/
def busyDrivers (s : State) : List Driver := drivers.filter fun d => (s.transfer d).state != .idle

/-- Whether a tank is the tank of a transfer that is not IDLE. -/
def tankBusy (s : State) (tank : Nat) : Bool := (busyDrivers s).any fun d => (s.transfer d).tank == tank

/-- Whether a valve is FAULT. -/
def valveFaulted (s : State) (ch : Nat) : Bool := (s.valve ch).state == .fault

/-- Checks 4 to 11 of the start checks (R106). -/
def startFault (s : State) (r : Start) : Option StartCause :=
  let T := s.store.tables
  if ¬ T.allows r.driver r.tank then some .notEligible
  else if r.paced ∧ (r.driver.gravity ∨ ¬ T.variable r.driver) then some .paceFixed
  else if (s.transfer r.driver).state ≠ .idle then some .driverBusy
  else if tankBusy s r.tank then some .tankBusy
  else if valveFaulted s (T.gaugeSlot r.tank) ∨ valveFaulted s r.driver.lineValve then some .valveFault
  else if r.driver.gravity ∧ estimated s r.tank then some .noMeasure
  else if r.driver.gravity ∧ s.engine.published.isNone then some .noCondition
  else if r.driver.gravity ∧ headLow s r.tank then some .lowHead
  else none

/-- The start checks in their order: the first that fails refuses with its cause (R106). -/
def judgeStart (s : State) (r : StartReq) : Except StartCause Start :=
  if s.tracker.op ≠ .loading then .error .notLoading
  else if s.console.state ≠ .auto then .error .console
  else
    match r.resolve s.store.tables with
    | none => .error .badArgument
    | some st =>
      match startFault s st with
      | some cause => .error cause
      | none => .ok st

/-! ## Starting and going on (R108, R110) -/

/-- The resolved target mass (R108). -/
def Start.targetMass (s : State) (r : Start) : Nat :=
  let T := s.store.tables
  match r.target with
  | .empty => T.residual r.tank
  | .mass m => if r.direction = .fill then min m (T.capacityMass r.tank (tankDensity s r.tank)) else m

/-- A speed limited to the pump's minimum from below and to 100 from above (R108, R117). -/
def limitSpeed (minSpeed : Nat) (v : Int) : Nat := (min 100 (max (minSpeed : Int) v)).toNat

/-- The setpoint at the start (R108). -/
def Start.setpoint (T : Tables) (r : Start) : Option Nat :=
  if r.driver.gravity then none else if r.paced then some (limitSpeed (T.minSpeed r.driver) r.base) else some 100

/-- The speed output of a pump with a setpoint: a fixed-speed pump's stays 0 (R104; log entry 16). -/
def speedOut (T : Tables) (d : Driver) (setpoint : Option Nat) : Nat := if T.variable d then setpoint.getD 0 else 0

/-- Both valves of a driver's transfer stand in states that `p` holds of. -/
def bothValves (s : State) (d : Driver) (p : ValveState → Bool) : Bool :=
  p (s.valve (tankValve s d)).state && p (s.valve d.lineValve).state

/-- The step of R110 for a pump: run and speed outputs, the no-flow phase PRIMING, and the state. -/
def startPump (d : Driver) (p : Pump) (s : State) : State :=
  let T := s.store.tables
  let x := s.transfer d
  let s1 := s.setPumpOut p { run := true, speed := speedOut T d x.setpoint }
  let s2 := s1.setPumpMeter p { s1.pumpMeter p with phase := .priming, countdown := ticks (T.primingTime d) }
  s2.setTransfer d { x with state := .priming }

/-- A transfer in OPENING whose two valves are OPEN goes on to PRIMING or RUNNING, and the step is handed to the Sequencer
(R110). -/
def goOn (d : Driver) (s : State) : State :=
  if (s.transfer d).state = .opening ∧ bothValves s d (· == .opened) then
    notify d (fun p => { p with entered := true })
      (match d.pump? with
        | some p => startPump d p s
        | none => s.setTransfer d { s.transfer d with state := .running })
  else s

/-- The base of an estimate is taken: the tank's mass and the pump's pulse total (R35). -/
def takeBase (s : State) (p : Pump) (g : GaugeRec) : GaugeRec :=
  { g with baseMass := g.mass, baseCount := (s.pumpMeter p).total }

/-- The base taken at a pumped start on an estimated tank (R35, R108). -/
def startBase (r : Start) (s : State) : State :=
  match r.driver.pump? with
  | some p => if estimated s r.tank then changeGauge r.tank (takeBase s p) s else s
  | none => s

/-- The transfer record of an accepted start, steps 1 to 5 and 7 of R108. -/
def Start.record (s : State) (owner : Owner) (step : Option Nat) (r : Start) : Transfer :=
  { state := .opening, owner := some owner, tank := r.tank, direction := r.direction, target := r.target
    targetMass := r.targetMass s, paced := r.paced, base := r.base, setpoint := r.setpoint s.store.tables
    start := some
      { stamp := s.time.port, mass := tankMass s r.tank, volume := tankVolume s r.tank, good := gaugeGood s r.tank }
    finish := none, pulses := 0, step := step, reason := none }

/-- An accepted start, in one act (R108). -/
def acceptStart (owner : Owner) (step : Option Nat) (r : Start) (s : State) : State :=
  let s1 := startBase r (s.setTransfer r.driver (r.record s owner step))
  let s2 := commandValve (s.store.tables.gaugeSlot r.tank) .opened s1
  goOn r.driver (commandValve r.driver.lineValve .opened s2)

/-! ## The return to IDLE (R115) -/

/-- The volume that a pump's pulses meter (R45), by the factor stored in its T6 row also while the data is not VALID (DESIGN CHOICE,
log entry 37). The factor of a pump that is not fitted is unread (R10): no pulses are no volume whatever the factor, and the
volume of any other count is free (log entry 37). -/
def pumpVolume (T : Tables) (d : Driver) (pulses : Nat) : Nat :=
  if T.fitted d then meteredOf pulses (T.factor d)
  else if pulses = 0 then 0
  else Config.unfittedVolume d pulses

/-- The metered volume of a driver's transfer: none for a gravity line (R45). -/
def meteredVolume (s : State) (d : Driver) : Option Nat :=
  if d.gravity then none else some (pumpVolume s.store.tables d (s.transfer d).pulses)

/-- Step 1 of R115: the state and the end record. -/
def closeRecord (d : Driver) (s : State) : State :=
  let x := s.transfer d
  s.setTransfer d
    { x with
      state := .idle
      finish := some
        { stamp := s.time.port, mass := tankMass s x.tank, volume := tankVolume s x.tank, good := gaugeGood s x.tank
          notClosed := valveFaulted s (tankValve s d) || valveFaulted s d.lineValve } }

/-- The start volume of a transfer record. -/
def Transfer.startVolume (x : Transfer) : Nat := (x.start.map StartRec.volume).getD 0

/-- The end volume of a transfer record. -/
def Transfer.endVolume (x : Transfer) : Nat := (x.finish.map EndRec.volume).getD 0

/-- The valve-not-closed flag of a transfer record. -/
def Transfer.notClosed (x : Transfer) : Bool := (x.finish.map EndRec.notClosed).getD false

/-- Step 2: the blend of a fill (R34); a density that changes sets the refresh mark (R55). -/
def blendFill (d : Driver) (s : State) : State :=
  let x := s.transfer d
  let ρ := tankDensity s x.tank
  match x.direction, s.tracker.density with
  | .fill, some port =>
    let ρ' := blended x.startVolume (tankVolume s x.tank) ρ port
    let s1 := changeGauge x.tank (GaugeRec.withDensity ρ') s
    if ρ' = ρ then s1 else setRefreshMark s1
  | _, _ => s

/-- Step 3: the end figures are handed to the Record Keeper (R182). -/
def logTransfer (d : Driver) (s : State) : State :=
  let x := s.transfer d
  match x.start, x.finish with
  | some st, some fin =>
    enterLog (transferCandidate d x st fin (tankDensity s x.tank) ((meteredVolume s d).getD 0) s.store.tables.disagree) s
  | _, _ => s

/-- Step 4: the TRANSFER notice's detail. -/
def transferDetail (s : State) (d : Driver) : Detail :=
  let x := s.transfer d
  .transfer d x.tank x.owner x.reason x.notClosed x.startVolume x.endVolume (meteredVolume s d)

/-- Step 5: the reference mass, and the base again for a pumped transfer (R35, R38). -/
def settleTank (d : Driver) (s : State) : State :=
  changeGauge (s.transfer d).tank
    (fun g => if d.gravity then { g with refMass := g.mass } else { g with refMass := g.mass, baseMass := g.mass }) s

/-- A driver leaves the closing set (R170). -/
def leaveClosing (d : Driver) (s : State) : State :=
  { s with console := { s.console with closing := s.console.closing.set d false } }

/-- The return to IDLE, in its order (R115). -/
def returnToIdle (d : Driver) (s : State) : State :=
  let s3 := logTransfer d (blendFill d (closeRecord d s))
  notify d (fun p => { p with idle := true }) (leaveClosing d (settleTank d (raise (transferDetail s3 d) s3)))

/-- Whether a valve counts as done for the return to IDLE: CLOSED or FAULT. -/
def ValveState.done : ValveState → Bool
  | .closed | .fault => true
  | .opening | .opened | .closing => false

/-- A transfer in CLOSING returns to IDLE once both its valves are CLOSED or FAULT (R115). -/
def tryIdle (d : Driver) (s : State) : State :=
  if (s.transfer d).state = .closing ∧ bothValves s d ValveState.done then returnToIdle d s else s

/-! ## Ending (R114) -/

/-- A pump is stopped: its outputs go off and its no-flow phase OFF (R104, R47). -/
def stopPump (p : Pump) (s : State) : State :=
  let s1 := s.setPumpOut p { run := false, speed := 0 }
  s1.setPumpMeter p { s1.pumpMeter p with phase := .off, countdown := 0 }

/-- A driver's pump is stopped, if it has one. -/
def stopDriver (d : Driver) (s : State) : State :=
  match d.pump? with
  | some p => stopPump p s
  | none => s

/-- The end of a transfer, in one act (R114). -/
def endTransfer (d : Driver) (reason : EndReason) (s : State) : State :=
  let s1 := stopDriver d (s.setTransfer d { s.transfer d with state := .closing, reason := some reason })
  let s2 := commandValve d.lineValve .closed (commandValve (tankValve s1 d) .closed s1)
  tryIdle d (notify d (fun p => { p with ended := some reason }) s2)

/-- The states that an end event ends: OPENING, PRIMING and RUNNING (R114). -/
def XferState.active : XferState → Bool
  | .opening | .priming | .running => true
  | .idle | .closing | .handedOver => false

/-- An end event on a driver's transfer; in any other state it changes nothing (R114, R116). -/
def endEvent (d : Driver) (reason : EndReason) (s : State) : State :=
  if (s.transfer d).state.active then endTransfer d reason s else s

/-- End events on several drivers' transfers, one after another in the order given (log entry 38). -/
def endEvents (ds : List Driver) (reason : EndReason) (s : State) : State :=
  ds.foldl (fun s d => endEvent d reason s) s

/-! ## Valves of a transfer (R97, R99, R100) -/

/-- A valve arrives at its commanded end, and the arrival is handed to its transfer (R97). -/
def valveArrives (ch : Nat) (s : State) : State :=
  let s1 := s.setValve ch ((s.valve ch).arriveAt (s.valve ch).commanded)
  match holderOf s ch with
  | some d => tryIdle d (goOn d s1)
  | none => s1

/-- A valve becomes FAULT: the VALVE notice, and the effect on its transfer (R100). -/
def valveFails (ch : Nat) (cause : ValveFault) (s : State) : State :=
  let s1 := s.setValve ch ((s.valve ch).fail cause)
  let s2 := raise (.valve ch cause (feedback s ch) (holderOf s ch)) s1
  match holderOf s ch with
  | some d => if (s.transfer d).state = .closing then tryIdle d s2 else endEvent d .valveFault s2
  | none => s2

/-- A valve that has become assigned since `before` with feedback BOTH becomes FAULT (R98). -/
def gainAssignment (before : State) (s : State) (ch : Nat) : State :=
  if ¬ assigned before ch ∧ assigned s ch ∧ feedback s ch = .both ∧ (s.valve ch).state ≠ .fault then
    valveFails ch .switchDisagree s
  else s

/-- The losses and gains of assignment between `before` and now (R96, R98), in ascending channel (DESIGN CHOICE, log
entry 38). -/
def settleAssignments (before s : State) : State := channels.foldl (gainAssignment before) (dropAssignments before s)

/-- The limit inputs of a valve take two levels. -/
def State.setLimitInputs (s : State) (ch : Nat) (openMade closedMade : Bool) : State :=
  { s with
    inputs :=
      { s.inputs with
        openLimit := s.inputs.openLimit.set ch openMade, closedLimit := s.inputs.closedLimit.set ch closedMade } }

/-- The limit of the commanded end of a standing valve was made before and is broken now (R99). -/
def commandedLimitBroke (before after : State) (ch : Nat) : Bool :=
  let e := (before.valve ch).commanded
  e.limitMade (before.inputs.openLimit.get ch) (before.inputs.closedLimit.get ch) &&
    !e.limitMade (after.inputs.openLimit.get ch) (after.inputs.closedLimit.get ch)

/-- What a change of an assigned valve's limit inputs, from `before`, does to it (R97 to R99). -/
def judgeLimits (before s : State) (ch : Nat) : State :=
  let v := s.valve ch
  match v.state with
  | .fault => s
  | .opening | .closing =>
    if feedback s ch = .both then valveFails ch .switchDisagree s
    else if feedback s ch = v.commanded.feedback then valveArrives ch s
    else s
  | .opened | .closed =>
    if feedback s ch = .both then valveFails ch .switchDisagree s
    else if commandedLimitBroke before s ch ∧ s.console.state ≠ .granted then valveFails ch .uncommanded s
    else s

/-! ## Pace (R117) -/

/-- The setpoint of a lag: base + round(lag × gain / 1,000), limited (R117). -/
def pacedSetpoint (minSpeed base gain : Nat) (lag : Int) : Nat := limitSpeed minSpeed (base + rdiv (lag * gain) 1000)

/-- One pump's transfer takes the lag, if it is paced and RUNNING (R117). -/
def paceOne (lag : Int) (s : State) (p : Pump) : State :=
  let d := p.driver
  let x := s.transfer d
  if x.paced ∧ x.state = .running then
    let v := pacedSetpoint (s.store.tables.minSpeed d) x.base s.xfer.paceGain lag
    (s.setTransfer d { x with setpoint := some v }).setPumpOut p
      { s.pumpOut p with speed := speedOut s.store.tables d (some v) }
  else s

/-- The Transfer Unit takes the lag of a publish (R117). -/
def takeLag (lag : Int) (s : State) : State := pumps.foldl (paceOne lag) s

/-! ## Checks at a publish and at a sweep end (R112, R113) -/

/-- A gravity transfer in OPENING or RUNNING whose head is low at a publish ends HEAD_LOST (R113). -/
def headCheck (s : State) (d : Driver) : State :=
  let x := s.transfer d
  if (x.state = .opening ∨ x.state = .running) ∧ headLow s x.tank then endEvent d .headLost s else s

/-- The gravity-head check of a publish (R113): G0, then G1 (DESIGN CHOICE, log entry 38). -/
def headChecks (s : State) : State := [Driver.g0, Driver.g1].foldl headCheck s

/-- TARGET holds (R112, check 4). -/
def atTarget (s : State) (x : Transfer) : Bool :=
  match x.direction with
  | .discharge => decide (tankMass s x.tank ≤ x.targetMass)
  | .fill => decide (x.targetMass ≤ tankMass s x.tank)

/-- Whether a tank's off-table indication is ABOVE. -/
def aboveTable (s : State) (c : Nat) : Bool := ((s.gaugeRec c).map fun g => g.offTable == .above).getD false

/-- The first end check of a sweep end that holds (R112). -/
def endCheck (s : State) (d : Driver) : Option EndReason :=
  let x := s.transfer d
  if d.gravity ∧ estimated s x.tank then some .noMeasure
  else if d.gravity ∧ headLow s x.tank then some .headLost
  else if x.direction = .fill ∧ aboveTable s x.tank then some .overfill
  else if atTarget s x then some .target
  else none

/-- TARGET found on a HANDED_OVER transfer: once, a flag and the TRANSFER notice (R173). -/
def targetUnderConsole (d : Driver) (s : State) : State :=
  let x := s.transfer d
  if atTarget s x ∧ s.console.reached.get d = false then
    raise (.targetReached d x.tank x.owner (tankMass s x.tank))
      { s with console := { s.console with reached := s.console.reached.set d true } }
  else s

/-- The sweep-end checks of one driver (R112). -/
def sweepCheck (s : State) (d : Driver) : State :=
  match (s.transfer d).state with
  | .opening | .priming | .running =>
    match endCheck s d with
    | some reason => endTransfer d reason s
    | none => s
  | .handedOver => targetUnderConsole d s
  | .idle | .closing => s

/-- The end checks of a sweep end, in the order of the drivers (R112). -/
def sweepChecks (s : State) : State := drivers.foldl sweepCheck s

end Sys2Proof.Machine
end

