-- ==== Sys2Proof/Machine/Sequencer.lean ====
section
/-! DEFINITION. The Sequencer: the program checks (R140), the walk (R126 to R133), and what it does with the hand-ons of the
Transfer Unit and the Pour Tracker (R128, R131, R136, R144). -/

namespace Sys2Proof.Machine

/-! ## The program checks (R140) -/

/-- The code of ALL in an AWAIT step (T8 row). -/
def awaitAll : Nat := 6

/-- A START step's fields lie in their ranges, and it is no FILL to EMPTY and no FILL on a gravity line (R124). The base is
checked whatever the paced flag (log entry 17). -/
def startStepOk (driver tank direction target paced base await : Nat) : Bool :=
  match Driver.ofCode driver, Direction.ofCode direction, Target.ofCode target, flagOfCode paced, flagOfCode await with
  | some d, some dir, some t, some _, some _ =>
    decide (tank ≤ 47) && decide (base ≤ 100) && !(dir == .fill && (t == .empty || d.gravity))
  | _, _, _, _, _ => false

/-- A step's kind is one of the seven and each field it uses lies in its range (R124, R140). -/
def Step.ok : Step → Bool
  | .start d t dir tgt p b a => startStepOk d t dir tgt p b a
  | .stop d => decide (d ≤ 5)
  | .await d => decide (d ≤ awaitAll)
  | .waitPour n => decide (1 ≤ n) && decide (n ≤ 999)
  | .dwell t => decide (1 ≤ t) && decide (t ≤ 65535)
  | .mark v => decide (v ≤ 255)
  | .finish => true
  | .unknown _ => false

/-- The header's fields lie in their ranges (R123). -/
def headerOk (b : ProgramBank) : Bool :=
  decide (headMode b ≤ 1) && decide (1 ≤ headLimit b) && decide (headExit b ≤ 1) && decide (headInterval b ≤ 600) &&
    decide (1 ≤ headLength b) && decide (headLength b ≤ 64)

/-- Where a program fails its checks: in the header, or at a step. -/
inductive ProgramFault where
  | header
  | step (i : Nat)
  deriving DecidableEq, Repr

/-- The first failure of the program checks (R140). -/
def programFault (b : ProgramBank) : Option ProgramFault :=
  if headerOk b then ((List.range (headLength b)).find? fun i => !(stepAt b i).ok).map .step else some .header

/-! ## Ends of a pass (R129, R133) -/

/-- The Sequencer becomes COMPLETE where its pointer stands, and raises the SEQUENCE notice (R133, R143). -/
def completeSeq (s : State) : State :=
  let s' := s.setCore { s.seq.core with state := .complete, progress := none, interval := 0, dwell := 0, wait := .nothing }
  raise (sequenceDetail s') s'

/-- The repeat count holds at most 255 (R122). -/
def passMax : Nat := 255

/-- A pass is counted. -/
def countPass (s : State) : State := s.setCore { s.seq.core with passes := countTo passMax s.seq.core.passes }

/-- A START step's tank is at its target (R133), by the stored rows of T1 and T5 also while the data is not VALID, and with
mass and density 0 for a stored BALLAST row that has no gauge record (DESIGN CHOICE, log entry 39). -/
def startAtTarget (s : State) (tank direction target : Nat) : Bool :=
  let T := s.store.tables
  let m := tankMass s tank
  T.isBallast tank &&
    match Direction.ofCode direction, Target.ofCode target with
    | some .discharge, some .empty => decide (m ≤ T.residual tank)
    | some .discharge, some (.mass t) => decide (m ≤ t) || decide (m ≤ T.residual tank)
    | some .fill, some (.mass t) => decide (min t (T.capacityMass tank (tankDensity s tank)) ≤ m)
    | _, _ => false

/-- A step is no START, or its tank is at its target. -/
def Step.atTarget (s : State) : Step → Bool
  | .start _ tank direction target _ _ _ => startAtTarget s tank direction target
  | _ => true

/-- Every START step of the active program has its tank at its target (R133). -/
def allAtTarget (s : State) : Bool :=
  (List.range (headLength s.seq.active)).all fun i => (stepAt s.seq.active i).atTarget s

/-- The program ends at this end of a pass: SINGLE, the repeat limit reached, or exit-when-targets satisfied (R133). -/
def passCompletes (s : State) : Bool :=
  let b := s.seq.active
  headMode b == 0 || s.seq.core.passes == headLimit b || (headExit b == 1 && allAtTarget s)

/-- What a step leaves: the state, and whether the walk goes on. -/
abbrev Walked := State × Bool

/-- A pass ends past the last step (R133). -/
def endPass (s : State) : Walked :=
  let s' := countPass s
  if passCompletes s' then (completeSeq s', false)
  else (s'.setCore { s'.seq.core with pointer := 0, progress := none, interval := 0, dwell := 0 }, true)

/-- The pointer moves to the next step, or a pass ends (R126). -/
def nextStep (s : State) : Walked :=
  let c := s.seq.core
  if c.pointer + 1 < headLength s.seq.active then
    (s.setCore { c with pointer := c.pointer + 1, progress := none, interval := 0, dwell := 0 }, true)
  else endPass s

/-! ## The steps (R127 to R132) -/

/-- The pointer waits with a reason. -/
def waitFor (w : WaitReason) (s : State) : State := s.setCore { s.seq.core with wait := w }

/-- The end reasons that satisfy an await (R128). -/
def EndReason.reaches : EndReason → Bool
  | .target | .stripped => true
  | _ => false

/-- The end reason of an awaited transfer that has ended otherwise than at its target. -/
def Progress.badEnd (p : Progress) : Option EndReason :=
  match p.ended with
  | some r => if r.reaches then none else some r
  | none => none

/-- The awaited transfer has returned to IDLE with an end reason that is not TARGET or STRIPPED (R128). -/
def Progress.badReturn (p : Progress) : Option EndReason := if p.idle then p.badEnd else none

/-- The started transfer has left its start phase (R128). -/
def Progress.leftStart (p : Progress) : Bool := p.entered || p.ended.isSome

/-- The leaving conditions of a started START (R128). -/
def judgeLeaving (await : Bool) (p : Progress) (s : State) : Walked :=
  match if await then p.badReturn else none with
  | some r => (suspendSeq .transferFault (.ended r) s, false)
  | none =>
    if ¬ p.leftStart then (waitFor .opening s, false)
    else if s.seq.core.interval ≠ 0 then (waitFor .interval s, false)
    else if await ∧ ¬ p.idle then (waitFor .transfer s, false)
    else nextStep s

/-- A START step presents its start, and the outcome is acted on (R127). -/
def present (r : StartReq) (await : Bool) (s : State) : Walked :=
  match judgeStart s r with
  | .ok st =>
    let s1 := acceptStart .program (some s.seq.core.pointer) st s
    let p : Progress :=
      { driver := st.driver, entered := (s1.transfer st.driver).state != .opening, ended := none, idle := false }
    judgeLeaving await p
      (s1.setCore { s1.seq.core with progress := some p, interval := ticks (headInterval s1.seq.active) })
  | .error .driverBusy => (waitFor .driver s, false)
  | .error .tankBusy => (waitFor .tank s, false)
  | .error cause => (suspendSeq .stepRefused (.refused cause) s, false)

/-- An AWAIT is satisfied (R130). -/
def awaitHolds (s : State) (code : Nat) : Bool :=
  match Driver.ofCode code with
  | some d => (s.transfer d).state == .idle
  | none => drivers.all fun d => (s.transfer d).state == .idle || (s.transfer d).owner != some .program

/-- A WAIT_POUR is satisfied (R131). -/
def pourRecorded (s : State) (n : Nat) : Bool := s.tracker.history.any fun r => r.pour == n

/-- MARK sets the stage and hands it to the Pour Tracker, which evaluates (R129). -/
def setStage (v : Nat) (s : State) : State := evaluate { s with seq := { s.seq with stage := v } }

/-- STOP ends the transfer on its driver (R129). -/
def stopStep (code : Nat) (s : State) : State :=
  match Driver.ofCode code with
  | some d => endEvent d .stopped s
  | none => s

/-- The step at the pointer. -/
def currentStep (s : State) : Step := stepAt s.seq.active s.seq.core.pointer

/-- END ends the pass and the program (R129). -/
def endStep (s : State) : State := completeSeq (countPass s)

/-- The step at the pointer is taken (R126). A step of no known kind, which no active bank holds, is not taken (log
entry 19). -/
def takeStep (s : State) : Walked :=
  match currentStep s with
  | .start d t dir tgt p b a =>
    match s.seq.core.progress with
    | some pr => judgeLeaving (a == 1) pr s
    | none => present { driver := d, tank := t, direction := dir, target := tgt, paced := p, base := b } (a == 1) s
  | .stop d => nextStep (stopStep d s)
  | .await d => if awaitHolds s d then nextStep s else (waitFor .transfer s, false)
  | .waitPour n => if pourRecorded s n then nextStep s else (deadlockCheck (waitFor .pour s), false)
  | .dwell t => (waitFor .dwell (s.setCore { s.seq.core with dwell := ticks t }), false)
  | .mark v => nextStep (setStage v s)
  | .finish => (endStep s, false)
  | .unknown _ => (s, false)

/-- The walk of one act, with a bound on its steps. -/
def walkSteps : Nat → State → State
  | 0, s => s
  | n + 1, s =>
    match takeStep s with
    | (s', true) => walkSteps n s'
    | (s', false) => s'

/-- More steps than the walk of one act can take: 255 passes of 64 steps and a part of one (R126; log entry 18). -/
def walkBound : Nat := 16448

/-- The walk from the step at the pointer (R126). -/
def walk (s : State) : State := walkSteps walkBound (waitFor .nothing s)

/-- The walk after a step that was judged. -/
def Walked.goOn (w : Walked) : State := if w.2 then walk w.1 else w.1

/-- The pointer moves on from the step in hand, and the walk goes on. -/
def moveOn (s : State) : State := (nextStep (waitFor .nothing s)).goOn

/-- The step at the pointer is judged again: a DWELL continues from its remaining time, any other step is taken as when the
pointer reaches it (R137, R144). -/
def resumeStep (s : State) : State :=
  match currentStep s with
  | .dwell _ => if s.seq.core.dwell = 0 then moveOn s else waitFor .dwell s
  | _ => walk s

/-! ## Hand-ons (R127, R128, R130, R136) -/

/-- Whether the step at the pointer is a START with its await flag set. -/
def awaits (s : State) : Bool :=
  match currentStep s with
  | .start _ _ _ _ _ _ a => a == 1
  | _ => false

/-- A record returned to IDLE that a waiting START watches: its driver's, or one whose tank is the step's tank (R127). -/
def watched (s : State) (returned : List Driver) : Bool :=
  match currentStep s with
  | .start code tank _ _ _ _ _ => returned.any fun d => d.code == code || (s.transfer d).tank == tank
  | _ => false

/-- SUSPENDING becomes SUSPENDED once the started transfer has left its start phase (R136). -/
def finishSuspending (s : State) : State :=
  match s.seq.core.progress with
  | some p =>
    if p.leftStart then
      match if awaits s then p.badEnd else none with
      | some r => suspendSeq .transferFault (.ended r) s
      | none => suspendSeq .host .nothing s
    else s
  | none => s

/-- The started transfer's own return to IDLE has been recorded since `before` (R128): a later transfer on the same driver
does not stand for it. -/
def returnHeard (before s : State) : Bool :=
  (before.seq.core.progress.map Progress.idle == some false) && (s.seq.core.progress.map Progress.idle == some true)

/-- SUSPENDED with reason HOST takes TRANSFER_FAULT at the return to IDLE of an awaited transfer that ended badly (R136). A
return recorded while YIELDED is not judged here: a Sequencer returned to SUSPENDED judges nothing until SQRS (R144). -/
def hostToFault (before s : State) : State :=
  match s.seq.core.progress with
  | some p =>
    if returnHeard before s then
      match if awaits s then p.badReturn else none with
      | some r => suspendSeq .transferFault (.ended r) s
      | none => s
    else s
  | none => s

/-- The drivers whose transfers an act returned to IDLE. -/
def returnedDrivers (before after : State) : List Driver :=
  drivers.filter fun d => (before.transfer d).state != .idle && (after.transfer d).state == .idle

/-- The Sequencer acts on what an act that began at `before` has handed to it: entries, ends, and the returns to IDLE (R125,
R127, R128, R130, R136; log entry 30). -/
def sequencerHears (before s : State) : State :=
  match s.seq.core.state with
  | .running =>
    match s.seq.core.wait with
    | .driver | .tank => if watched s (returnedDrivers before s) then walk s else s
    | .opening | .interval | .transfer => walk s
    | .nothing | .pour | .dwell => s
  | .suspending => finishSuspending s
  | .suspended => if s.seq.core.suspend = .host then hostToFault before s else s
  | .empty | .ready | .yielded | .complete => s

/-- A pour record is handed to the Sequencer: a WAIT_POUR it satisfies is left (R131). -/
def hearRecord (s : State) : State :=
  match currentStep s with
  | .waitPour n => if s.seq.core.state = .running ∧ s.seq.core.wait = .pour ∧ pourRecorded s n then walk s else s
  | _ => s

end Sys2Proof.Machine
end

