-- ==== Sys2Proof/Machine/Console.lean ====
section
/-! DEFINITION. The Console Handover Unit: the grant, the release with its take-back, the end of RECONCILING (R170 to R177),
and `settle`, which hands on what an act did to the transfers and valves. -/

namespace Sys2Proof.Machine

/-- The Console Handover Unit becomes `c`. -/
def State.setConsole (s : State) (c : Console) : State := { s with console := c }

/-! ## The grant (R172) -/

/-- The grant condition: no transfer in OPENING or CLOSING, no assigned valve in travel (R172). -/
def grantCondition (s : State) : Bool :=
  (drivers.all fun d => (s.transfer d).state != .opening && (s.transfer d).state != .closing) && !assignedTravelling s

/-- A pump's no-flow phase becomes OFF (R47). -/
def phaseOff (d : Driver) (s : State) : State :=
  match d.pump? with
  | some p => s.setPumpMeter p { s.pumpMeter p with phase := .off, countdown := 0 }
  | none => s

/-- One transfer at the grant: in PRIMING or RUNNING it becomes HANDED_OVER and joins the handed-over set; its outputs and
setpoint are kept (R172, step 1). -/
def handOver (s : State) (d : Driver) : State :=
  let x := s.transfer d
  if x.state = .priming ∨ x.state = .running then
    let s1 := phaseOff d (s.setTransfer d { x with state := .handedOver })
    s1.setConsole
      { s1.console with
        handed := s1.console.handed.set d (some x.tank), reached := s1.console.reached.set d false }
  else s

/-- The Sequencer saves its state and becomes YIELDED (R144), with the pointer as saved and the wait and suspend reasons none
(R125). That the live step progress, countdowns and repeat count stay as at the grant, and that the live suspend detail is
none, is the model's (DESIGN CHOICE, log entry 47). -/
def yieldSeq (s : State) : State :=
  let c := s.seq.core
  { s with
    seq :=
      { s.seq with
        saved := some c
        core := { c with state := .yielded, wait := .nothing, suspend := .nothing, detail := .nothing } } }

/-- What the tank snapshot records of a gauge record: usable when GOOD or HELD (R172, step 3). -/
def TankSnap.of (g : GaugeRec) : TankSnap :=
  { mass := g.mass, volume := g.volume, usable := g.state == .good || g.state == .held }

/-- The tank snapshot of the tanks as they stand (R172, step 3). -/
def snapTanks (s : State) : Tab 48 (Option TankSnap) := Tab.build 48 fun c => (s.gaugeRec c).map TankSnap.of

/-- The grant, in one act (R172). -/
def grant (s : State) : State :=
  let s1 := yieldSeq (drivers.foldl handOver s)
  s1.setConsole
    { s1.console with
      snapshot := some (snapTanks s1), grantStamp := some s1.time.port, grantLine := true, state := .granted }

/-- In REQUESTED the grant condition is judged, and the grant given where it holds (R172). -/
def judgeGrant (s : State) : State := if s.console.state = .requested ∧ grantCondition s then grant s else s

/-- A rise of the request in AUTO (R171). -/
def requestRises (s : State) : State := judgeGrant (s.setConsole { s.console with state := .requested })

/-! ## Take-back (R174, R175) -/

/-- Whether a driver's pump shows running feedback; a gravity line needs none (R174). -/
def runningShown (s : State) (d : Driver) : Bool :=
  match d.pump? with
  | some p => s.inputs.running p
  | none => true

/-- A valve shows OPEN and is not FAULT (R174). -/
def shownOpen (s : State) (ch : Nat) : Bool := feedback s ch == .opened && (s.valve ch).state != .fault

/-- The judgement of a handed-over transfer at the release: no reason resumes it (R174, first). -/
def judgeHanded (s : State) (d : Driver) : Option EndReason :=
  if shownOpen s (tankValve s d) ∧ shownOpen s d.lineValve ∧ runningShown s d then
    if d.gravity ∧ estimated s (s.transfer d).tank then some .noMeasure else none
  else some .changedByHand

/-- The handed-over drivers, in order. -/
def handedDrivers (s : State) : List Driver := drivers.filter fun d => (s.console.handed.get d).isSome

/-- A valve adopted at take-back: its hand-set flag is set where the commanded end differs from the one before (R174). -/
def Valve.takeBack (fb : Feedback) (v : Valve) : Valve :=
  let v' := v.adopt fb
  { v' with handSet := v.handSet || v'.commanded != v.commanded }

/-- One valve at the release: assigned and not FAULT, it is adopted, and a FAULT made here raises the VALVE notice (R174,
second). A HANDED_OVER transfer is not touched by it (R100). The release takes the channels in ascending order (R174). -/
def takeBackValve (s : State) (ch : Nat) : State :=
  if assigned s ch ∧ (s.valve ch).state ≠ .fault then
    let v := (s.valve ch).takeBack (feedback s ch)
    let s1 := s.setValve ch v
    match v.cause with
    | some cause => raise (.valve ch cause (feedback s ch) (holderOf s ch)) s1
    | none => s1
  else s

/-- A resumed transfer becomes RUNNING, its no-flow phase FLOW_WATCH and its target-reached flag dropped (R174, third). -/
def resumeTransfer (d : Driver) (s : State) : State :=
  let s1 := s.setTransfer d { s.transfer d with state := .running }
  let s2 := s1.setConsole { s1.console with reached := s1.console.reached.set d false }
  match d.pump? with
  | some p =>
    s2.setPumpMeter p
      { s2.pumpMeter p with phase := .flowWatch, countdown := ticks (s2.store.tables.noFlowTime d) }
  | none => s2

/-- An ended transfer that still closes joins the closing set (R174, third). -/
def endHanded (d : Driver) (reason : EndReason) (s : State) : State :=
  let s1 := endTransfer d reason s
  if (s1.transfer d).state = .closing then
    s1.setConsole { s1.console with closing := s1.console.closing.set d true }
  else s1

/-- A judgement of the release carried out (R174, third). -/
def carryOut (s : State) (j : Driver × Option EndReason) : State :=
  match j.2 with
  | some reason => endHanded j.1 reason s
  | none => resumeTransfer j.1 s

/-- Whether a compartment is the tank of a handed-over transfer. -/
def handedTank (s : State) (c : Nat) : Bool := drivers.any fun d => s.console.handed.get d == some c

/-- The HAND entry of one tank, where it is made (R175). -/
def handEntry (snap : Tab 48 (Option TankSnap)) (s : State) (c : Nat) : State :=
  match snap.get c, s.gaugeRec c with
  | some t, some g =>
    let Δm : Int := (g.mass : Int) - t.mass
    if handedTank s c = false ∧ t.usable ∧ (g.state = .good ∨ g.state = .held) ∧ s.store.tables.drift < Δm.natAbs then
      enterLog (handCandidate c Δm (s.console.grantStamp.getD 0) (s.console.releaseStamp.getD 0) g.density) s
    else s
  | _, _ => s

/-- The reference mass of every ballast tank is set to its mass (R38, R175). -/
def referAll (s : State) : State :=
  { s with gauge := { s.gauge with recs := s.gauge.recs.map (Option.map fun g => { g with refMass := g.mass }) } }

/-- The accounting of water moved by hand (R175). -/
def accountHand (s : State) : State :=
  referAll (match s.console.snapshot with
    | some snap => compartments.foldl (handEntry snap) s
    | none => s)

/-! ## The end of RECONCILING (R176, R177) -/

/-- The Sequencer is returned to its saved state, and a RUNNING one judges its step afresh (R144, R176). -/
def returnSeq (s : State) : State :=
  match s.seq.saved with
  | some c =>
    let s1 := { s with seq := { s.seq with core := c, saved := none } }
    if c.state = .running then resumeStep s1 else s1
  | none => s

/-- No driver is in the closing set. -/
def closingEmpty (s : State) : Bool := drivers.all fun d => s.console.closing.get d == false

/-- The end of RECONCILING (R176): the sets are emptied and the snapshot void, the state is AUTO, and the Sequencer is
returned (log entry 10). A standing request is then taken as a rise (R177). -/
def endReconciling (s : State) : State :=
  if s.console.state = .reconciling ∧ closingEmpty s then
    let s1 := s.setConsole
      { s.console with
        state := .auto, snapshot := none, handed := SixOf.all none, reached := SixOf.all false, closing := SixOf.all false }
    let s2 := returnSeq s1
    if s2.inputs.consoleRequest then requestRises s2 else s2
  else s

/-- A drop of the request in GRANTED: the release and the take-back in one act (R174 to R176). -/
def releaseConsole (s : State) : State :=
  let s1 := s.setConsole
    { s.console with grantLine := false, releaseStamp := some s.time.port, state := .reconciling }
  let judged := (handedDrivers s1).map fun d => (d, judgeHanded s1 d)
  let s2 := channels.foldl takeBackValve s1
  endReconciling (accountHand (judged.foldl carryOut s2))

/-! ## What an act hands on -/

/-- The hand-ons at the end of an act that began at `before` (log entries 12, 30): the Sequencer, the end of RECONCILING,
and the grant condition on the state that work leaves (R126, R172, R176). -/
def settle (before s : State) : State :=
  judgeGrant (endReconciling (sequencerHears before s))

end Sys2Proof.Machine
end

