-- ==== Sys2Proof/Machine/Gauging.lean ====
section
/-! DEFINITION. The sweep, the update of the gauge records at its end, estimates, unexplained change, and the gravity-line
rates (R22 to R31, R35 to R38, R51). -/

namespace Sys2Proof.Machine

/-- The Gauging unit becomes `g`. -/
def State.setGauging (s : State) (g : Gauging) : State := { s with gauge := g }

/-! ## The sweep (R22 to R24) -/

/-- Whether a sweep polls a slot: its flag is set in the current mask and it is the gauge slot of a BALLAST row (R22). -/
def polled (s : State) (slot : Nat) : Bool :=
  maskFlag s.gauge.currentMask slot && (s.store.tables.tankOfSlot slot).isSome

/-- The first slot from `slot` on, below the slots fitted, that the sweep polls. -/
def nextPolled (s : State) (slot : Nat) : Option Nat :=
  ((List.range s.store.tables.slots).drop slot).find? (polled s)

/-- The reply window of a poll in milliseconds (R23). -/
def replyWindow : Nat := 100

/-- A poll of a slot is sent and its window opens (R23). -/
def pollSlot (slot : Nat) (s : State) : State :=
  s.setGauging { s.gauge with slot := slot, poll := some replyWindow, countdown := none }

/-- A sweep begins while the data is VALID (R22, R24): the next mask becomes current, and the first enabled slot is polled;
a sweep that polls no slot starts its 1 s countdown, with slot 0 as the slot reached (DESIGN CHOICE, log entry 44). -/
def beginSweep (s : State) : State :=
  if dataValid s then
    let s1 := s.setGauging
      { s.gauge with
        currentMask := s.gauge.nextMask, sweeping := true, slot := 0, readings := Tab.replicate 32 .notPolled
        poll := none, countdown := none }
    match nextPolled s1 0 with
    | some slot => pollSlot slot s1
    | none => s1.setGauging { s1.gauge with countdown := some (ticks 1) }
  else s

/-- The sweep in progress ends without a sweep end, its readings discarded (R22). Until the next sweep the slot reached is 0
and every reading NOT POLLED (DESIGN CHOICE, log entry 44). -/
def stopSweep (s : State) : State :=
  s.setGauging
    { s.gauge with
      sweeping := false, slot := 0, poll := none, countdown := none, readings := Tab.replicate 32 .notPolled }

/-! ## One reading (R27) -/

/-- The gauge state after a reading, with hold count `h` and fault count `n` before it (R27). -/
def nextGaugeState (h n : Nat) (before : GaugeState) : Reading → GaugeState
  | .level _ => .good
  | .notPolled => .masked
  | .fault _ =>
    if n + 1 < h then
      match before with
      | .unread => .unread
      | .good | .held => .held
      | .lost | .masked => .lost
    else .lost

/-- A sounding corrected for trim, floored at 0 (R30). -/
def correctedSounding (T : Tables) (c : Nat) (trim : Int) (raw : Nat) : Nat :=
  ((raw : Int) - rdiv (trim * (T.centre c - T.gaugeX c)) T.lbp).toNat

/-- The lower point of the pair that brackets a sounding within a tank's table (R31). -/
def bracket (T : Tables) (c sounding : Nat) : Nat :=
  ((List.range (T.points c - 1)).find? fun p => decide (sounding ≤ T.sounding c (p + 1))).getD 0

/-- The interpolation between points `lo` and `lo + 1` (R31). -/
def interpolated (T : Tables) (c sounding lo : Nat) : Nat :=
  let vlo : Int := T.volumeAt c lo
  let vhi : Int := T.volumeAt c (lo + 1)
  (vlo + rdiv ((vhi - vlo) * ((sounding : Int) - T.sounding c lo)) (T.sounding c (lo + 1) - T.sounding c lo)).toNat

/-- A corrected sounding converted to a volume and an off-table indication (R31). -/
def converted (T : Tables) (c sounding : Nat) : Nat × OffTable :=
  if sounding < T.sounding c 0 then (T.volumeAt c 0, .below)
  else if T.sounding c (T.points c - 1) < sounding then (T.capacityVolume c, .above)
  else (interpolated T c sounding (bracket T c sounding), .within)

/-- The reference mass follows an entry into GOOD from UNREAD, LOST or MASKED (R38). -/
def GaugeState.resetsReference : GaugeState → Bool
  | .unread | .lost | .masked => true
  | .good | .held => false

/-- A LEVEL reading at a sweep end (R27, R30, R31). -/
def takeLevel (T : Tables) (c : Nat) (trim : Int) (mm : Nat) (g : GaugeRec) : GaugeRec :=
  let corrected := correctedSounding T c trim mm
  let v := converted T c corrected
  let m := rdivN (v.1 * g.density) 1000
  { g with
    raw := mm, corrected := corrected, volume := v.1, offTable := v.2, mass := m, state := .good, faultCount := 0
    lastFault := none, neverRead := false, refMass := if g.state.resetsReference then m else g.refMass }

/-! ## Estimates (R35, R36) -/

/-- The driver and pump of the pumped transfer, not IDLE, whose tank is `c` (R36). -/
def pumpedOn (s : State) (c : Nat) : Option (Driver × Pump) :=
  (busyDrivers s).findSome? fun d => if (s.transfer d).tank = c then d.pump?.map fun p => (d, p) else none

/-- The modulus of the pulse total, 2^32 (R41). -/
def pulseModulus : Nat := 4294967296

/-- Entry into estimation: the base mass, and the base count where a pump moves the tank's water (R35). -/
def enterEstimate (s : State) (c : Nat) (g : GaugeRec) : GaugeRec :=
  match pumpedOn s c with
  | some dp => takeBase s dp.2 g
  | none => { g with baseMass := g.mass }

/-- The estimated mass from a base mass and a metered volume: signed, before it is limited (R36). -/
def estimateMass (dir : Direction) (base volume ρ : Nat) : Int :=
  let m : Int := (rdivN (volume * ρ) 1000 : Nat)
  match dir with
  | .discharge => base - m
  | .fill => base + m

/-- The mass of an estimated tank at a sweep end (R36). In no pumped transfer the tank keeps its mass, also above the capacity
mass that a lower density has left it (DESIGN CHOICE, log entry 48). -/
def updateEstimate (s : State) (c : Nat) (g : GaugeRec) : GaugeRec :=
  match pumpedOn s c with
  | some (d, p) =>
    let T := s.store.tables
    let count := ((s.pumpMeter p).total + pulseModulus - g.baseCount) % pulseModulus
    let volume := meteredOf count (T.factor d)
    let m := (clampInt 0 (T.capacityMass c g.density) (estimateMass (s.transfer d).direction g.baseMass volume g.density)).toNat
    { g with mass := m, volume := rdivN (m * 1000) g.density }
  | none => g

/-- A gauge record that stands in ESTIMATE after a reading: the base is taken at the entry from GAUGE, then the mass
(R28, R35, R36). -/
def settleEstimate (s : State) (c : Nat) (before : Source) (g : GaugeRec) : GaugeRec :=
  if g.source = .estimate then updateEstimate s c (if before = .gauge then enterEstimate s c g else g) else g

/-- One gauge record brought up to date from its reading (R27, R28). -/
def updateGauge (s : State) (trim : Int) (c : Nat) (r : Reading) (g : GaugeRec) : GaugeRec :=
  let h := s.store.tables.holdCount
  let st := nextGaugeState h g.faultCount g.state r
  match r with
  | .level mm => takeLevel s.store.tables c trim mm g
  | .fault k => settleEstimate s c g.source { g with state := st, faultCount := countTo h g.faultCount, lastFault := some k }
  | .notPolled => settleEstimate s c g.source { g with state := st }

/-- The reading of a compartment's slot in the sweep. -/
def readingOf (s : State) (c : Nat) : Reading := s.gauge.readings.get (s.store.tables.gaugeSlot c)

/-- The trim of the published record, or 0 (R30). -/
def publishedTrim (s : State) : Int := (s.engine.published.map fun p => p.cond.trim).getD 0

/-- All gauge records brought up to date as one act, and the sweep end stamped (R25). -/
def updateGauges (s : State) : State :=
  let trim := publishedTrim s
  s.setGauging
    { s.gauge with
      recs := Tab.build 48 fun c => (s.gaugeRec c).map (updateGauge s trim c (readingOf s c))
      prevStamp := s.gauge.lastStamp
      lastStamp := some s.time.port
      swept := true }

/-! ## Notices of a sweep end (R29, R37) -/

/-- Whether a change of gauge state is reported (R29). -/
def reported (before after : GaugeState) : Bool :=
  match after with
  | .held | .lost | .masked => before != after
  | .good => before == .held || before == .lost || before == .masked
  | .unread => false

/-- Whether a compartment made a reported change between two states of the part. -/
def madeChange (before after : State) (c : Nat) : Bool :=
  match before.gaugeRec c, after.gaugeRec c with
  | some a, some b => reported a.state b.state
  | _, _ => false

/-- The GAUGE notice of a sweep end (R29). -/
def raiseGauge (before s : State) : State :=
  let cs := compartments.filter (madeChange before s)
  match cs with
  | [] => s
  | c :: _ =>
    match s.gaugeRec c with
    | some g => raise (.gauge c g.state g.lastFault cs.length) s
    | none => s

/-- Unexplained change of one tank (R37). -/
def examineTank (s : State) (c : Nat) : State :=
  match s.gaugeRec c with
  | some g =>
    let diff : Int := (g.mass : Int) - g.refMass
    if (g.state = .good ∨ g.state = .held) ∧ tankBusy s c = false ∧ s.console.grantLine = false ∧
        s.store.tables.drift < diff.natAbs then
      raise (.change c diff)
        (s.setGaugeRec c { g with changed := true, unexplained := g.unexplained + diff, refMass := g.mass })
    else s
  | none => s

/-- Unexplained change of every tank, in ascending compartment number (R37). -/
def examineTanks (s : State) : State := compartments.foldl examineTank s

/-! ## Gravity-line rates (R51) -/

/-- A gravity line's record. -/
def State.gravityRec (s : State) : Driver → GravityLine
  | .g1 => s.meter.g1
  | _ => s.meter.g0

/-- A gravity line's record becomes `g`. -/
def State.setGravityRec (s : State) (d : Driver) (g : GravityLine) : State :=
  match d with
  | .g1 => { s with meter := { s.meter with g1 := g } }
  | _ => { s with meter := { s.meter with g0 := g } }

/-- The gravity record after a LEVEL reading with this volume and stamp (R51). -/
def GravityLine.measure (g : GravityLine) (volume stamp : Nat) : GravityLine :=
  match g.baseline with
  | none => { g with baseline := some ⟨volume, stamp⟩ }
  | some b =>
    if b.stamp < stamp then
      { rate := rdivN ((b.volume - volume) * 360) (stamp - b.stamp), baseline := some ⟨volume, stamp⟩ }
    else if b.stamp = stamp then g
    else { g with baseline := some ⟨volume, stamp⟩ }

/-- One gravity line at a sweep end (R51). -/
def updateLine (s : State) (d : Driver) : State :=
  let x := s.transfer d
  if x.state = .running ∨ x.state = .handedOver then
    match readingOf s x.tank with
    | .level _ => s.setGravityRec d ((s.gravityRec d).measure (tankVolume s x.tank) s.time.port)
    | _ => s
  else s.setGravityRec d GravityLine.reset

/-- Both gravity lines at a sweep end (R51). -/
def updateLines (s : State) : State := updateLine (updateLine s .g0) .g1

/-! ## The sweep end (R25) -/

/-- The sweep end, in the order of log entry 12: the records, unexplained change and the notices, the gravity rates, the
refresh mark, the end checks, and what they hand on. -/
def sweepEnd (s : State) : State :=
  let s1 := raiseGauge s (examineTanks (updateGauges s))
  settle s (sweepChecks (setRefreshMark (updateLines s1)))

/-- The sweep ends, and the next begins (R22). -/
def finishSweep (s : State) : State := beginSweep (stopSweep (sweepEnd s))

/-- The polled slot yields its reading, and the sweep moves on to the next polled slot or to its end (R22, R23). -/
def takeReading (r : Reading) (s : State) : State :=
  let s1 := s.setGauging { s.gauge with readings := s.gauge.readings.set s.gauge.slot r, poll := none }
  match nextPolled s1 (s.gauge.slot + 1) with
  | some slot => pollSlot slot s1
  | none => finishSweep s1

/-- The greatest level a transmitter gives, 40,000 mm (R23). -/
def levelMax : Nat := 40000

/-- The reading that an answer naming the polled slot yields; nothing for one that is discarded (R23). -/
def answerReading (slot : Nat) : SensorAnswer → Option Reading
  | .level n mm => if n = slot then some (if mm ≤ levelMax then .level mm else .fault .range) else none
  | .fault n => if n = slot then some (.fault .sensor) else none
  | .garbled => none

end Sys2Proof.Machine
end

