-- ==== Sys2Proof/Machine/Metering.lean ====
section
/-! DEFINITION. The Flow Metering Unit: pulses, the second boundary, the two expiries of the no-flow countdown (R42 to R50),
and the pump's running feedback (R104). -/

namespace Sys2Proof.Machine

/-- Counts that hold at 2^32 − 1 or wrap past it (R41). -/
def countMax : Nat := 4294967295

/-- The bins with the last one, the open bin, one higher (R42, step 2). -/
def countBin (bins : Tab 10 Nat) : Tab 10 Nat := bins.set 9 (bins.get 9 + 1)

/-- The bins after a second boundary: the oldest leaves, and an empty one is open (R43). -/
def rollBins (bins : Tab 10 Nat) : Tab 10 Nat := Tab.build 10 fun i => if i < 9 then bins.get (i + 1) else 0

/-- Whether a driver holds a transfer: its record is in any state other than IDLE (R41). -/
def holdsTransfer (s : State) (d : Driver) : Bool := (s.transfer d).state != .idle

/-- Steps 1 to 3 of a pulse (R42). A transfer's pulse count wraps as the pulse total does (log entry 27). -/
def countPulse (p : Pump) (s : State) : State :=
  let d := p.driver
  let m := s.pumpMeter p
  let m' := { m with total := (m.total + 1) % pulseModulus, bins := countBin m.bins }
  if holdsTransfer s d then
    (s.setPumpMeter p m').setTransfer d { s.transfer d with pulses := ((s.transfer d).pulses + 1) % pulseModulus }
  else s.setPumpMeter p { m' with unattributed := countTo countMax m.unattributed }

/-- The countdown is loaded with the no-flow time in phase FLOW_WATCH (R42, steps 4 and 5). -/
def watchFlow (p : Pump) (s : State) : State :=
  s.setPumpMeter p
    { s.pumpMeter p with phase := .flowWatch, countdown := ticks (s.store.tables.noFlowTime p.driver) }

/-- The first pulse makes a transfer in PRIMING RUNNING, and the entry is handed to the Sequencer (R111). -/
def firstPulse (d : Driver) (s : State) : State :=
  if (s.transfer d).state = .priming then
    notify d (fun p => { p with entered := true }) (s.setTransfer d { s.transfer d with state := .running })
  else s

/-- One pulse, taken whole (R42). -/
def takePulse (p : Pump) (s : State) : State :=
  let s1 := countPulse p s
  match (s1.pumpMeter p).phase with
  | .off => s1
  | .flowWatch => watchFlow p s1
  | .priming => firstPulse p.driver (watchFlow p s1)

/-- The rate of a pump from its ten bins, round(p10 × F × 9 / 2,500) (R44). -/
def pumpRate (p10 factor : Nat) : Nat := rdivN (p10 * factor * 9) 2500

/-- One pump at a second boundary: the rate, 0 where its row is not fitted or the data is not VALID, and the bins (R43,
R44). -/
def closeSecond (s : State) (p : Pump) : State :=
  let m := s.pumpMeter p
  let T := s.store.tables
  let rate := if dataValid s ∧ T.fitted p.driver then pumpRate (sumTab m.bins) (T.factor p.driver) else 0
  s.setPumpMeter p { m with rate := rate, bins := rollBins m.bins }

/-- The port clock rises by 1 and wraps from 2^32 − 1 to 0 (R204). -/
def raiseClock (s : State) : State := { s with time := { s.time with port := (s.time.port + 1) % pulseModulus } }

/-- A second boundary: the rate windows of all four pumps and the port clock (R43, R204). -/
def secondBoundary (s : State) : State := raiseClock (pumps.foldl closeSecond s)

/-- The end reason of a no-flow expiry in RUNNING: STRIPPED for a discharge at or below the residual mass, else NO_FLOW
(R49). -/
def noFlowReason (s : State) (x : Transfer) : EndReason :=
  match x.direction with
  | .discharge => if tankMass s x.tank ≤ s.store.tables.residual x.tank then .stripped else .noFlow
  | .fill => .noFlow

/-- Every pump's rate is 0 once the data is not VALID (R44; log entry 20). -/
def clearRates (s : State) : State :=
  pumps.foldl (fun s p => s.setPumpMeter p { s.pumpMeter p with rate := 0 }) s

end Sys2Proof.Machine
end

