-- ==== Sys2Proof/Machine/Operands.lean ====
section
/-! DEFINITION. The arguments of a request (Request arguments) and the form of its answer (R198, R199): the mnemonics'
letters, the argument readers, and the reply. -/

namespace Sys2Proof.Machine

/-! ## Mnemonics -/

/-- Every request mnemonic of the message summary. -/
def Mnem.all : List Mnem :=
  [.wsel, .wput, .wget, .sdcm, .smsk, .tden, .tank, .metr, .cond, .proj, .fixm, .lims, .tide, .stpr, .xsta, .xstp, .xfer,
    .valv, .vclr, .sqxc, .sqgo, .sqps, .sqrs, .sqab, .seqq, .opbg, .opnd, .plxc, .pour, .phis, .hset, .lpst, .ltal, .lpnd,
    .lhak, .rptb, .rptg, .dlog, .stat, .nten, .clks, .rstr]

/-- The letters of a mnemonic as its ASCII codes (R198). -/
def Mnem.codes : Mnem → List Nat
  | .wsel => [0x57, 0x53, 0x45, 0x4C] | .wput => [0x57, 0x50, 0x55, 0x54] | .wget => [0x57, 0x47, 0x45, 0x54]
  | .sdcm => [0x53, 0x44, 0x43, 0x4D] | .smsk => [0x53, 0x4D, 0x53, 0x4B] | .tden => [0x54, 0x44, 0x45, 0x4E]
  | .tank => [0x54, 0x41, 0x4E, 0x4B] | .metr => [0x4D, 0x45, 0x54, 0x52] | .cond => [0x43, 0x4F, 0x4E, 0x44]
  | .proj => [0x50, 0x52, 0x4F, 0x4A] | .fixm => [0x46, 0x49, 0x58, 0x4D] | .lims => [0x4C, 0x49, 0x4D, 0x53]
  | .tide => [0x54, 0x49, 0x44, 0x45] | .stpr => [0x53, 0x54, 0x50, 0x52] | .xsta => [0x58, 0x53, 0x54, 0x41]
  | .xstp => [0x58, 0x53, 0x54, 0x50] | .xfer => [0x58, 0x46, 0x45, 0x52] | .valv => [0x56, 0x41, 0x4C, 0x56]
  | .vclr => [0x56, 0x43, 0x4C, 0x52] | .sqxc => [0x53, 0x51, 0x58, 0x43] | .sqgo => [0x53, 0x51, 0x47, 0x4F]
  | .sqps => [0x53, 0x51, 0x50, 0x53] | .sqrs => [0x53, 0x51, 0x52, 0x53] | .sqab => [0x53, 0x51, 0x41, 0x42]
  | .seqq => [0x53, 0x45, 0x51, 0x51] | .opbg => [0x4F, 0x50, 0x42, 0x47] | .opnd => [0x4F, 0x50, 0x4E, 0x44]
  | .plxc => [0x50, 0x4C, 0x58, 0x43] | .pour => [0x50, 0x4F, 0x55, 0x52] | .phis => [0x50, 0x48, 0x49, 0x53]
  | .hset => [0x48, 0x53, 0x45, 0x54] | .lpst => [0x4C, 0x50, 0x53, 0x54] | .ltal => [0x4C, 0x54, 0x41, 0x4C]
  | .lpnd => [0x4C, 0x50, 0x4E, 0x44] | .lhak => [0x4C, 0x48, 0x41, 0x4B] | .rptb => [0x52, 0x50, 0x54, 0x42]
  | .rptg => [0x52, 0x50, 0x54, 0x47] | .dlog => [0x44, 0x4C, 0x4F, 0x47] | .stat => [0x53, 0x54, 0x41, 0x54]
  | .nten => [0x4E, 0x54, 0x45, 0x4E] | .clks => [0x43, 0x4C, 0x4B, 0x53] | .rstr => [0x52, 0x53, 0x54, 0x52]

/-- Bytes of codes. -/
def bytesOf (codes : List Nat) : List Byte := codes.map (BitVec.ofNat 8)

/-- The four bytes of a mnemonic. -/
def Mnem.letters (m : Mnem) : List Byte := bytesOf m.codes

/-- The mnemonic that four bytes spell. -/
def Mnem.ofLetters (bs : List Byte) : Option Mnem := Mnem.all.find? fun m => m.letters == bs

/-- Whether a mnemonic is a request of a link (R198): the shore link's five, and on the ship link every other and STAT. -/
def Mnem.ofLink : Mnem → Link → Bool
  | .stat, _ => true
  | .lpst, l | .ltal, l | .lpnd, l | .lhak, l => l == .shore
  | _, l => l == .ship

/-! ## Argument readers -/

/-- Bytes cut into unsigned fields of these sizes, from the front. -/
def cutFields : List Nat → List Byte → List Nat
  | [], _ => []
  | n :: ns, bs => beNat (bs.take n) :: cutFields ns (bs.drop n)

/-- The arguments of a form with fields of these sizes; nothing where the payload is not exactly that form (Request
arguments). -/
def readArgs (sizes : List Nat) (bs : List Byte) : Option (List Nat) :=
  if bs.length = sizes.sum then some (cutFields sizes bs) else none

/-- A form with one field. -/
def readOne (size : Nat) (bs : List Byte) : Option Nat := (readArgs [size] bs).bind List.head?

/-- A form that is empty or one field. -/
def readOptional (size : Nat) (bs : List Byte) : Option (Option Nat) :=
  if bs = [] then some none else (readOne size bs).map some

/-- The two's complement value of a 4-byte field. -/
def signed32 (n : Nat) : Int := if n < 2147483648 then n else (n : Int) - 4294967296

/-- Whether a number lies in `lo..hi`. -/
def inRange (lo hi n : Nat) : Bool := decide (lo ≤ n) && decide (n ≤ hi)

/-! ## Answers (R198, R199) -/

/-- What a message's rule gives: the state after it, the reply code, and the reply data. -/
structure Answer where
  state : State
  code : ReplyCode
  data : List Item
  deriving DecidableEq, Repr

/-- Taken and carried out. -/
def done (s : State) (data : List Item) : Answer := ⟨s, .done, data⟩

/-- Refused: no state changes. -/
def refuse (code : ReplyCode) (s : State) (data : List Item := []) : Answer := ⟨s, code, data⟩

/-- The fault record as items, or as empty (R16). -/
def faultItems (s : State) : List Item :=
  match s.store.fault with
  | some f => [.dataCause f.cause, natOr f.table, natOr f.row, natItem f.check]
  | none => [.absent]

/-- A refusal with DATA carries the data state and the fault record (R16). -/
def refuseData (s : State) : Answer := refuse .data s (.dataState s.store.dataState :: faultItems s)

/-- A reply is formed and handed to the transmitter, which clears the link's overrun indication (R199). -/
def sendReply (l : Link) (mnemonic : List Byte) (code : ReplyCode) (data : List Item) (s : State) : State :=
  s.setLink l
    { s.link l with overrun := false, tx := some (.reply mnemonic code (statusByte s l) data) }

/-- The reply of a message. -/
def answer (l : Link) (m : Mnem) (a : Answer) : State := sendReply l m.letters a.code a.data a.state

end Sys2Proof.Machine
end

