-- ==== Sys2Proof/Machine/ShipData.lean ====
section
/-! DEFINITION. The Ship Data Store's messages and completions: the table window (R11 to R14), the data state (R15), the
commit (R17 to R20) and the verification after reset (R21). -/

namespace Sys2Proof.Machine

/-- The Ship Data Store becomes `d`. -/
def State.setStore (s : State) (d : Store) : State := { s with store := d }

/-! ## The table window -/

/-- WSEL (R12). -/
def wselMsg (args : List Byte) (s : State) : Answer :=
  match readArgs [1, 2, 2] args with
  | some [code, first, count] =>
    match TableId.ofCode code with
    | some t =>
      if 1 ≤ count ∧ first + count ≤ t.rows then
        done (s.setStore { s.store with window := some { table := t, first := first, count := count, pos := first } }) []
      else refuse .range s
    | none => refuse .range s
  | _ => refuse .length s

/-- The end of a window (R11). -/
def Window.finish (w : Window) : Nat := w.first + w.count

/-- Every transfer is IDLE. -/
def allIdle (s : State) : Bool := drivers.all fun d => (s.transfer d).state == .idle

/-- What withdraws the tables from force once the data state has left VALID since `before` (R15, R20, R86): the sweep ends
without a sweep end, the engine is emptied, the Limits Unit is handed the withdrawal, and the valves cease to be
assigned. -/
def withdrawData (before s : State) : State :=
  let s1 := stopSweep s
  settleAssignments before (clearRates (limitsWithdraw { s1 with engine := withdrawEngine s1.engine }))

/-- An accepted WPUT to T0 to T6 in VALID or INVALID makes the data state UNCOMMITTED (R13, R15). The assignments that are
lost are those of the tables in force in `before`, before the rows were written (R96). -/
def uncommit (before s : State) : State :=
  match s.store.dataState with
  | .valid => withdrawData before (s.setStore { s.store with dataState := .uncommitted })
  | .invalid => s.setStore { s.store with dataState := .uncommitted }
  | .checking | .uncommitted => s

/-- Why a WPUT of rows to the selected table is refused by checks 4 to 6 (R13). -/
def writeRefusal (s : State) (t : TableId) : Option ReplyCode :=
  if t.shipData ∧ s.tracker.op = .loading then some .state
  else if t.shipData ∧ (allIdle s = false ∨ s.console.state ≠ .auto) then some .busy
  else if t = .t9 ∧ s.tracker.exchange then some .busy
  else none

/-- An accepted WPUT: the rows are stored, the position advances, and the data state follows (R13). -/
def storeRows (w : Window) (k : Nat) (bs : List Byte) (s : State) : State :=
  let s1 := writeRows w.table k w.pos bs s
  let s2 := s1.setStore { s1.store with window := some { w with pos := w.pos + k } }
  if w.table.shipData then uncommit s s2 else s2

/-- WPUT (R13). -/
def wputMsg (args : List Byte) (s : State) : Answer :=
  match s.store.window with
  | none => refuse .state s
  | some w =>
    let k := args.length / w.table.rowSize
    if args.length % w.table.rowSize ≠ 0 ∨ inRange 1 w.table.perRequest k = false then refuse .length s
    else if w.finish < w.pos + k then refuse .range s
    else
      match writeRefusal s w.table with
      | some code => refuse code s
      | none => done (storeRows w k args s) [natItem (w.pos + k)]

/-- The rows a WGET carries. -/
def readRows (s : State) (t : TableId) (first k : Nat) : List Byte :=
  (List.range k).flatMap fun i => readRow s t (first + i)

/-- WGET (R14). -/
def wgetMsg (args : List Byte) (s : State) : Answer :=
  match readOne 1 args with
  | none => refuse .length s
  | some k =>
    match s.store.window with
    | none => refuse .state s
    | some w =>
      if inRange 1 w.table.perRequest k = false ∨ w.finish < w.pos + k then refuse .range s
      else
        done (s.setStore { s.store with window := some { w with pos := w.pos + k } })
          [natItem w.pos, .raw (readRows s w.table w.pos k)]

/-! ## Putting the tables in force -/

/-- A gauge record at a successful commit: the commit column of R40. An old record keeps its changed flag and unexplained
total. -/
def GaugeRec.committed (ρ : Nat) (old : Option GaugeRec) : GaugeRec :=
  match old with
  | some g => { GaugeRec.unread ρ with changed := g.changed, unexplained := g.unexplained }
  | none => GaugeRec.unread ρ

/-- The gauge records of the BALLAST rows in force, at the default density (R19, R40). -/
def committedRecs (T : Tables) (old : Tab 48 (Option GaugeRec)) : Tab 48 (Option GaugeRec) :=
  Tab.build 48 fun c => if T.isBallast c then some (GaugeRec.committed T.density (old.get c)) else none

/-- The FIXED masses at their defaults (R75). -/
def defaultFixed (T : Tables) : Tab 48 Nat := Tab.build 48 fun c => if T.isFixed c then T.rowMass c else 0

/-- The tables come into force: densities, FIXED masses, the first sweep and the refresh mark (R19, R21). The mark is taken under
the mask of that sweep, and no condition is published before the tanks it enables are read (R19, R40; log entry 29). -/
def enforceTables (before s : State) : State :=
  let T := s.store.tables
  let s1 : State :=
    { s with
      gauge := { s.gauge with recs := committedRecs T s.gauge.recs, swept := false }
      engine := { s.engine with fixed := defaultFixed T } }
  setRefreshMark (beginSweep (settleAssignments before s1))

/-- The data state becomes VALID with a checksum, and the fault record is emptied (R15, R19, R21). -/
def validate (checksum : BitVec 32) (s : State) : State :=
  s.setStore { s.store with checksum := checksum, dataState := .valid, cause := none, fault := none }

/-- The data state becomes INVALID with a fault record (R20, R21). -/
def invalidate (f : FaultRecord) (s : State) : State :=
  s.setStore { s.store with dataState := .invalid, cause := some f.cause, fault := some f }

/-! ## The commit -/

/-- SDCM: the refusal, or nothing where the commit is taken (R17). -/
def sdcmRefusal (args : List Byte) (s : State) : Option ReplyCode :=
  if args ≠ [] then some .length else if s.tracker.op = .loading then some .state else none

/-- The taking of SDCM starts the commit (R17). -/
def startCommit (s : State) : State := s.setStore { s.store with committing := true }

/-- A commit ends, whatever its outcome. -/
def endCommit (s : State) : State := s.setStore { s.store with committing := false }

/-- What a successful commit resets beside the tables' own effects: the engine (R79), the Limits Unit where the data was
VALID (R95), and the console's tank snapshot (R173). -/
def resetForCommit (s : State) : State :=
  let s1 := stopSweep s
  let s2 : State := { s1 with engine := { withdrawEngine s1.engine with lastKind := none, nextSeq := 1 } }
  let s3 := if dataValid s then limitsWithdraw s2 else s2
  s3.setConsole { s3.console with snapshot := none }

/-- A commit whose checks all pass (R19). -/
def commitPasses (s : State) : State :=
  settle s (enforceTables s (validate s.store.tables.checksum (resetForCommit s)))

/-- A commit in which a check fails (R20): from VALID, the tables are withdrawn from force. -/
def commitFails (f : FaultRecord) (s : State) : State :=
  let s1 := invalidate f s
  if dataValid s then settle s (withdrawData s s1) else s1

/-- The completion of a commit, and its reply on the ship link (R17, R19, R20). -/
def completeCommit (s : State) : State :=
  let s0 := endCommit s
  match s.store.tables.firstFault with
  | none =>
    let s1 := commitPasses s0
    answer .ship .sdcm (done s1 [natItem s1.store.checksum.toNat])
  | some f => answer .ship .sdcm (refuseData (commitFails f s0))

/-! ## The verification -/

/-- The outcome of a verification: a fault, or none where it ends VALID (R21). -/
def verificationFault (d : Store) : Option FaultRecord :=
  if d.tables.checksum ≠ d.checksum then some { cause := .corrupt, table := none, row := none, check := 0 }
  else d.tables.firstFault

/-- The end of a verification (R21). -/
def endVerification (s : State) : State :=
  match verificationFault s.store with
  | some f => invalidate f s
  | none => settle s (enforceTables s (validate s.store.checksum s))

end Sys2Proof.Machine
end

