-- ==== Sys2Proof/Machine/TankMessages.lean ====
section
/-! DEFINITION. The messages of the gauging unit and the Flow Metering Unit: SMSK (R24), TDEN (R33), TANK (R39) and METR
(R52). -/

namespace Sys2Proof.Machine

/-- A slot mask as an item: its 4 bytes (Request arguments). -/
def maskItem (m : BitVec 32) : Item := .raw (toBE m.toNat 4)

/-- SMSK (R24). -/
def smskMsg (args : List Byte) (s : State) : Answer :=
  match readOptional 4 args with
  | none => refuse .length s
  | some none => done s [maskItem s.gauge.nextMask, maskItem s.gauge.currentMask]
  | some (some m) =>
    let s' := s.setGauging { s.gauge with nextMask := BitVec.ofNat 32 m }
    done s' [maskItem s'.gauge.nextMask, maskItem s'.gauge.currentMask]

/-- The densities a tank may have, 990..1,050 kg/m³ (R26). -/
def densityOk (ρ : Nat) : Bool := inRange 990 1050 ρ

/-- A tank's snapshot mass follows a change of its density during a grant (R173). -/
def resnapTank (c ρ : Nat) (s : State) : State :=
  match s.console.snapshot with
  | some snap =>
    s.setConsole
      { s.console with
        snapshot := some (snap.set c ((snap.get c).map fun t => { t with mass := rdivN (t.volume * ρ) 1000 })) }
  | none => s

/-- An accepted TDEN: the density, what follows from it, and the refresh mark (R32, R33). -/
def setDensity (c ρ : Nat) (s : State) : State :=
  setRefreshMark (resnapTank c ρ (changeGauge c (GaugeRec.withDensity ρ) s))

/-- TDEN (R33). Its form is judged first, as every message's is (log entry 11). -/
def tdenMsg (args : List Byte) (s : State) : Answer :=
  match readArgs [1, 2] args with
  | some [c, ρ] =>
    if dataValid s = false then refuseData s
    else if s.store.tables.isBallast c = false then refuse .range s
    else if densityOk ρ = false then refuse .range s
    else done (setDensity c ρ s) []
  | _ => refuse .length s

/-- A kind of the last fault, or none. -/
def faultKindItem : Option ReadFault → Item
  | some k => .readFault k
  | none => .absent

/-- Every field of a gauge record, in the order of R26. -/
def gaugeItems (g : GaugeRec) : List Item :=
  [natItem g.raw, natItem g.corrected, natItem g.volume, natItem g.density, natItem g.mass, .gaugeState g.state,
    natItem g.faultCount, faultKindItem g.lastFault, .flag g.neverRead, .source g.source, natItem g.baseMass,
    natItem g.baseCount, .offTable g.offTable, natItem g.refMass, .flag g.changed, .num g.unexplained]

/-- What TANK gives beside the gauge record (R39). -/
def slotItems (s : State) (c : Nat) : List Item :=
  let slot := s.store.tables.gaugeSlot c
  [natItem slot, .flag (maskFlag s.gauge.currentMask slot), .flag (maskFlag s.gauge.nextMask slot), natOr s.gauge.lastStamp]

/-- TANK (R39). Its form is judged first (log entry 11). -/
def tankMsg (args : List Byte) (s : State) : Answer :=
  match readOne 1 args with
  | none => refuse .length s
  | some c =>
    if dataValid s = false then refuseData s
    else if s.store.tables.isBallast c = false then refuse .range s
    else done s (((s.gaugeRec c).map gaugeItems).getD [] ++ slotItems s c)

/-- Whether a driver is fitted in the tables in force (R44). -/
def fittedInForce (s : State) (d : Driver) : Bool := dataValid s && s.store.tables.fitted d

/-- A pump's rate as it is reported: 0 where it is not fitted or the data is not VALID (R44, R52). -/
def reportedRate (s : State) (p : Pump) : Nat := if fittedInForce s p.driver then (s.pumpMeter p).rate else 0

/-- METR for a pump (R52). -/
def pumpItems (s : State) (p : Pump) : List Item :=
  let m := s.pumpMeter p
  let d := p.driver
  [.flag (s.store.tables.fitted d), natItem m.total] ++ m.bins.cells.map natItem ++
    [natItem (reportedRate s p), .phase m.phase, natItem m.countdown, natItem m.unattributed,
      natItem (unattributedVolume s p), .xferState (s.transfer d).state, natItem (s.transfer d).pulses,
      natOr (meteredVolume s d)]

/-- A baseline as items, or as none. -/
def baselineItems : Option Baseline → List Item
  | some b => [natItem b.volume, natItem b.stamp]
  | none => [.absent]

/-- METR for a gravity line (R52). -/
def lineItems (s : State) (d : Driver) : List Item :=
  let g := s.gravityRec d
  [.flag (s.store.tables.fitted d), natItem g.rate] ++ baselineItems g.baseline ++ [.xferState (s.transfer d).state]

/-- The figures METR gives for a driver (R52). -/
def meterItems (s : State) (d : Driver) : List Item :=
  match d.pump? with
  | some p => pumpItems s p
  | none => lineItems s d

/-- METR (R52). -/
def metrMsg (args : List Byte) (s : State) : Answer :=
  match readOne 1 args with
  | none => refuse .length s
  | some code =>
    match Driver.ofCode code with
    | some d => done s (meterItems s d)
    | none => refuse .range s

end Sys2Proof.Machine
end

