-- ==== Sys2Proof/Machine/EngineMessages.lean ====
section
/-! DEFINITION. The completions of the engine's jobs (R69 to R74) and the messages of the Condition Engine and the Limits
Unit: COND (R77), PROJ (R78), FIXM (R76), LIMS (R93), TIDE (R82) and STPR (R91). -/

namespace Sys2Proof.Machine

/-- The Condition Engine becomes `e`. -/
def State.setEngine (s : State) (e : Engine) : State := { s with engine := e }

/-! ## A refresh completes (R69, R71) -/

/-- The record that a refresh publishes (R69, step 1). -/
def publishedOf (s : State) (c : Condition) : Published := { seq := s.engine.nextSeq, stamp := s.time.port, cond := c }

/-- Steps 2 to 4 of a completion: the record, the sequence number and the last job kind (R69). -/
def publish (p : Published) (s : State) : State :=
  s.setEngine { s.engine with published := some p, nextSeq := s.engine.nextSeq + 1, lastKind := some .refresh }

/-- The Transfer Unit's and the Link Unit's work on a publish: the pace, the gravity-head check, and the CONDITION notice
(R71; log entry 13). -/
def transferPublish (p : Published) (s : State) : State :=
  raise (.condition p.seq) (headChecks (takeLag s.tracker.lag s))

/-- The hand-ons of a publish along the condition path (R71). -/
def handPublish (p : Published) (s : State) : State :=
  transferPublish p (trackerPublish p.cond.rob (judgePublish p s))

/-- The engine becomes free, and takes a mark if one is set (R57). -/
def freeEngine (s : State) : State := engineRun (s.setEngine { s.engine with job := none })

/-- A refresh job completes with its condition (R69). The engine takes its next mark after the hand-ons (log entry 13). -/
def completeRefresh (c : Condition) (s : State) : State :=
  let p := publishedOf s c
  freeEngine (settle s (handPublish p (publish p s)))

/-! ## A projection completes (R72 to R74) -/

/-- The clearance at the request's hold in one case: absent where the hold has no HOLD row (R73). -/
def caseClearance (s : State) (hold : Nat) (c : Condition) : Option Int :=
  match s.limits.boom, s.store.tables.rowOfHold hold with
  | some boom, some row => some (clearanceAt s.store.tables boom s.limits.tide row c)
  | _, _ => none

/-- The four judgements of a case, against the parameters as they stand at the completion (R73). -/
def caseReasons (s : State) (c : Condition) (clearance : Option Int) : ProjReasons :=
  { stress := decide (1000 ≤ c.maxSf) || decide (1000 ≤ c.maxBm)
    draft := draftFlag s.limits.maxDraft c.deepest
    trim := trimFlag s.store.tables c.trim
    airDraft := airFlag s.limits.minClear clearance }

/-- The figures and judgements of one case (R72, R73). -/
def caseResult (s : State) (hold : Nat) (c : Condition) : CaseResult :=
  let clearance := caseClearance s hold c
  { maxSf := c.maxSf, maxSfAt := c.maxSfAt, maxBm := c.maxBm, maxBmAt := c.maxBmAt, deepest := c.deepest, trim := c.trim
    clearance := clearance, quality := c.quality, failed := caseReasons s c clearance }

/-- The union of two cases' reasons (R73). -/
def ProjReasons.union (a b : ProjReasons) : ProjReasons :=
  { stress := a.stress || b.stress, draft := a.draft || b.draft, trim := a.trim || b.trim
    airDraft := a.airDraft || b.airDraft }

/-- The projection passes when its combined set is empty (R73). -/
def ProjReasons.empty (r : ProjReasons) : Bool := !(r.stress || r.draft || r.trim || r.airDraft)

/-- The result of a projection (R74). -/
def projResult (s : State) (j : Job) (req : ProjReq) (a b : Condition) : ProjResult :=
  let ra := caseResult s req.hold a
  let rb := caseResult s req.hold b
  { req := req, seq := j.pubSeq, stamp := s.time.port, caseA := ra, caseB := rb, reasons := ra.failed.union rb.failed }

/-- The tracker accepts a result of the pour concerned and the current generation, and evaluates (R157). -/
def acceptResult (r : ProjResult) (s : State) : State :=
  match concerned s with
  | some c =>
    if r.req.pour = c.entry.pour ∧ r.req.gen = s.tracker.gen then
      evaluate
        (s.setTracker
          { s.tracker with
            standing := some { passed := r.reasons.empty, pour := r.req.pour, gen := r.req.gen, reasons := r.reasons } })
    else s
  | none => s

/-- Whether a projection's result is discarded (R74). -/
def discards (s : State) (req : ProjReq) (void : Bool) : Bool :=
  req.gen != s.tracker.gen || s.tracker.op != .loading || void

/-- A projection job completes with its two cases (R74). -/
def completeProjection (j : Job) (req : ProjReq) (void : Bool) (a b : Condition) (s : State) : State :=
  let s1 := s.setEngine { s.engine with lastKind := some .projection }
  if discards s req void then freeEngine s1
  else
    let r := projResult s j req a b
    freeEngine (acceptResult r (s1.setEngine { s1.engine with result := some r }))

/-! ## COND, PROJ and FIXM -/

/-- The kind of the job in progress, or none. -/
def jobItem (s : State) : Item :=
  match s.engine.job with
  | some { task := .refresh, .. } => .jobKind .refresh
  | some { task := .projection _ _, .. } => .jobKind .projection
  | none => .absent

/-- A kind of job, or none. -/
def kindItem : Option JobKind → Item
  | some k => .jobKind k
  | none => .absent

/-- COND (R77). -/
def condMsg (args : List Byte) (s : State) : Answer :=
  if args ≠ [] then refuse .length s
  else if dataValid s = false then refuseData s
  else
    done s
      [jobItem s, kindItem s.engine.lastKind, .flag s.engine.refreshMark, .flag s.engine.projMark.isSome,
        natItem (unreadEnabled s).length,
        match s.engine.published with
        | some p => .raw p.bytes
        | none => natItem 0]

/-- A projection request's parameters. -/
def ProjReq.items (r : ProjReq) : List Item := [natItem r.pour, natItem r.hold, natItem r.remaining, natItem r.gen]

/-- The projection mark with its parameters, if it is set (R78). -/
def markItems : Option ProjReq → List Item
  | some r => .flag true :: r.items
  | none => [.flag false]

/-- The six quality flags. -/
def Quality.items (q : Quality) : List Item :=
  [.flag q.hydroClamped, .flag q.trimClamped, .flag q.gaugeHeld, .flag q.estimated, .flag q.offTable, .flag q.neverRead]

/-- The four judgements. -/
def ProjReasons.items (r : ProjReasons) : List Item := [.flag r.stress, .flag r.draft, .flag r.trim, .flag r.airDraft]

/-- The figures and flags of one case of a result (R72, R73). -/
def CaseResult.items (c : CaseResult) : List Item :=
  [natItem c.maxSf, natItem c.maxSfAt, natItem c.maxBm, natItem c.maxBmAt, natItem c.deepest, .num c.trim,
    intOr c.clearance] ++ c.quality.items

/-- The kept result in the order of R74, or the marker of none: the request, the sequence number and the stamp, the figures and
flags of each case, the judgements of each case, and the combined set (R78). -/
def resultItems : Option ProjResult → List Item
  | some r =>
    r.req.items ++ [natItem r.seq, natItem r.stamp] ++ r.caseA.items ++ r.caseB.items ++ r.caseA.failed.items ++
      r.caseB.failed.items ++ r.reasons.items
  | none => [.absent]

/-- PROJ (R78). -/
def projMsg (args : List Byte) (s : State) : Answer :=
  if args ≠ [] then refuse .length s
  else if dataValid s = false then refuseData s
  else done s (natItem s.tracker.gen :: markItems s.engine.projMark ++ resultItems s.engine.result)

/-- A FIXED mass is set, and the refresh mark (R75, R76). -/
def setFixed (c m : Nat) (s : State) : State :=
  setRefreshMark (s.setEngine { s.engine with fixed := s.engine.fixed.set c m })

/-- FIXM (R76). -/
def fixmMsg (args : List Byte) (s : State) : Answer :=
  match readArgs [1, 4] args with
  | some [c, m] =>
    if dataValid s = false then refuseData s
    else if s.store.tables.isFixed c = false then refuse .range s
    else if massMax < m then refuse .range s
    else done (setFixed c m s) [natItem (s.engine.fixed.get c), natItem m]
  | _ => refuse .length s

/-! ## LIMS, TIDE and STPR -/

/-- The three latch causes. -/
def LatchCauses.items (c : LatchCauses) : List Item := [.flag c.breach, .flag c.ackTimeout, .flag c.pourAfterHold]

/-- The deepest draft with its end, or absent. -/
def deepestItems : Option (Nat × DraftEnd) → List Item
  | some d => [natItem d.1, .draftEnd d.2]
  | none => [.absent]

/-- The source of M: SF or BM with its checkpoint. -/
def sourceItems (x : StressSource × Nat) : List Item := [.stressSource x.1, natItem x.2]

/-- The last setting of the latch, or none. -/
def settingItems : Option LatchSetting → List Item
  | some x => [.latchCause x.cause, natItem x.stamp, natItem x.number]
  | none => [.absent]

/-- The limit status record whole, in the order of R80. -/
def limitItems (l : Limits) : List Item :=
  natItem l.judgedSeq :: l.clearances.cells.map intOr ++ deepestItems l.deepest ++
    [intOr l.trim, .flag l.flags.draft, .flag l.flags.trim] ++ l.flags.air.cells.map Item.flag ++
    [.flag l.watch.cautionFlag, .watch l.watch, natItem l.m] ++ sourceItems l.mSource ++ .flag l.latch :: l.causes.items ++
    settingItems l.lastSetting ++ [natItem l.settings, .flag l.pourEnable]

/-- The five operation parameters (R81). -/
def parameterItems (l : Limits) : List Item :=
  [natOr l.maxDraft, natOr l.boom, natOr l.minClear, .num l.tide, natItem l.ackTime]

/-- The T0 thresholds while the data is VALID, or the marker of none (R93). -/
def thresholdItems (s : State) : List Item :=
  let T := s.store.tables
  if dataValid s then [natItem T.cautionAt, natItem T.band, natItem T.trimStern, natItem T.trimHead] else [.absent]

/-- LIMS (R93). -/
def limsMsg (args : List Byte) (s : State) : Answer :=
  if args ≠ [] then refuse .length s
  else done s (limitItems s.limits ++ parameterItems s.limits ++ thresholdItems s)

/-- The tide heights, −5,000..20,000 mm (R81). -/
def tideOk (h : Int) : Bool := decide (-5000 ≤ h) && decide (h ≤ 20000)

/-- TIDE (R82). -/
def tideMsg (args : List Byte) (s : State) : Answer :=
  match readOne 4 args with
  | none => refuse .length s
  | some n =>
    let h := signed32 n
    if tideOk h = false then refuse .range s else done (applyTide h s) [.num s.limits.tide, .num h]

/-- STPR (R91). -/
def stprMsg (args : List Byte) (s : State) : Answer :=
  if args ≠ [] then refuse .length s
  else if s.limits.watch = .breach then refuse .state s
  else done (releaseLatch s) s.limits.causes.items

end Sys2Proof.Machine
end

