-- ==== Sys2Proof/Machine/TransferMessages.lean ====
section
/-! DEFINITION. The messages of the Transfer Unit: XSTA (R109), XSTP (R118), XFER (R119), VALV (R102) and VCLR (R103). -/

namespace Sys2Proof.Machine

/-! ## XSTA, XSTP and XFER -/

/-- The reply code of each refusal cause (R106). -/
def StartCause.reply : StartCause → ReplyCode
  | .notLoading | .noMeasure | .noCondition | .lowHead => .state
  | .console => .console
  | .badArgument | .notEligible | .paceFixed => .range
  | .driverBusy | .tankBusy => .busy
  | .valveFault => .valve

/-- The reply of an accepted XSTA: the resolved target mass, the setpoint and the state (R109). -/
def startItems (x : Transfer) : List Item := [natItem x.targetMass, natOr x.setpoint, .xferState x.state]

/-- XSTA (R109): a start with owner LINK and starting step none. -/
def xstaMsg (args : List Byte) (s : State) : Answer :=
  match readArgs [1, 1, 1, 4, 1, 1] args with
  | some [d, tank, dir, target, paced, base] =>
    match judgeStart s { driver := d, tank := tank, direction := dir, target := target, paced := paced, base := base } with
    | .ok st =>
      let s' := acceptStart .link none st s
      done s' (startItems (s'.transfer st.driver))
    | .error cause => refuse cause.reply s [.startCause cause]
  | _ => refuse .length s

/-- XSTP (R118). -/
def xstpMsg (args : List Byte) (s : State) : Answer :=
  match readOne 1 args with
  | none => refuse .length s
  | some code =>
    if s.tracker.op ≠ .loading then refuse .state s
    else if s.console.state ≠ .auto then refuse .console s
    else
      match Driver.ofCode code with
      | some d =>
        let s' := settle s (endEvent d .stopped s)
        done s' [.xferState (s'.transfer d).state]
      | none => refuse .range s

/-- An owner, or none. -/
def ownerItem : Option Owner → Item
  | some o => .owner o
  | none => .absent

/-- An end reason, or none. -/
def reasonItem : Option EndReason → Item
  | some r => .endReason r
  | none => .absent

/-- A start record, or none. -/
def startRecItems : Option StartRec → List Item
  | some r => [natItem r.stamp, natItem r.mass, natItem r.volume, .flag r.good]
  | none => [.absent]

/-- An end record, or none. -/
def endRecItems : Option EndRec → List Item
  | some r => [natItem r.stamp, natItem r.mass, natItem r.volume, .flag r.good, .flag r.notClosed]
  | none => [.absent]

/-- A transfer record whole, in the order of R105. -/
def transferItems (x : Transfer) : List Item :=
  [.xferState x.state, ownerItem x.owner, natItem x.tank, .direction x.direction, .target x.target, natItem x.targetMass,
    .flag x.paced, natItem x.base, natOr x.setpoint] ++ startRecItems x.start ++ endRecItems x.finish ++
    [natItem x.pulses, natOr x.step, reasonItem x.reason]

/-- The states of a transfer's two valves while its record is not IDLE (R119). -/
def valveStateItems (s : State) (d : Driver) : List Item :=
  if (s.transfer d).state = .idle then []
  else [.valveState (s.valve (tankValve s d)).state, .valveState (s.valve d.lineValve).state]

/-- What XFER gives for a pump (R119). -/
def pumpStateItems (s : State) (p : Pump) : List Item :=
  [.flag (s.pumpOut p).run, natItem (s.pumpOut p).speed, .flag (s.inputs.running p), natItem (reportedRate s p),
    natOr (meteredVolume s p.driver)]

/-- The gravity head of a line's tank while a condition is published (R119); absent also where the tank of the record is no
longer, or never was, one with a gauge record (DESIGN CHOICE, log entry 46). -/
def headItem (s : State) (d : Driver) : Item :=
  match s.engine.published, s.gaugeRec (s.transfer d).tank with
  | some p, some _ => .num (gravityHead s (s.transfer d).tank p)
  | _, _ => .absent

/-- What XFER gives of a driver's outputs and figures (R119). -/
def driverItems (s : State) (d : Driver) : List Item :=
  match d.pump? with
  | some p => pumpStateItems s p
  | none => [natItem (s.gravityRec d).rate, headItem s d]

/-- XFER (R119). -/
def xferMsg (args : List Byte) (s : State) : Answer :=
  match readOne 1 args with
  | none => refuse .length s
  | some code =>
    match Driver.ofCode code with
    | some d =>
      done s
        (transferItems (s.transfer d) ++ natItem (s.transfer d).targetMass :: valveStateItems s d ++ driverItems s d)
    | none => refuse .range s

/-! ## VALV and VCLR -/

/-- The channel of a valve identity: the tank valve of a BALLAST compartment, or a line valve (Request arguments). -/
def channelOf (T : Tables) (code : Nat) : Option Nat :=
  if code < 48 then if T.isBallast code then some (T.gaugeSlot code) else none
  else if code ≤ 53 then some (code - 16)
  else none

/-- The assigned valve that an identity names (R102, check 3). -/
def namedValve (s : State) (code : Nat) : Option Nat := (channelOf s.store.tables code).filter (assigned s)

/-- The action byte CLOSE (Request arguments). -/
def closeAction : Byte := 1#8

/-- VALV's form: an identity, with or without the action; nothing for any other payload (R102). -/
def readValve : List Byte → Option (Nat × Bool)
  | [id] => some (id.toNat, false)
  | [id, act] => if act = closeAction then some (id.toNat, true) else none
  | _ => none

/-- A valve record (R96). -/
def valveItems (v : Valve) : List Item :=
  [.valveEnd v.commanded, .valveState v.state, match v.cause with | some c => .valveFault c | none => .absent,
    natItem v.countdown, .flag v.handSet]

/-- A driver, or none. -/
def driverItem : Option Driver → Item
  | some d => .driver d
  | none => .absent

/-- VALV without the action (R102). -/
def queryValve (ch : Nat) (s : State) : Answer :=
  done s
    (valveItems (s.valve ch) ++
      [.feedback (feedback s ch), natItem (s.store.tables.travel ch), natItem ch, driverItem (holderOf s ch)])

/-- VALV with CLOSE: checks 4 to 6 and the command (R102). -/
def closeValve (ch : Nat) (s : State) : Answer :=
  if s.console.state ≠ .auto then refuse .console s
  else if (holderOf s ch).isSome then refuse .busy s
  else if (s.valve ch).state = .fault then refuse .valve s
  else
    let s' := commandValve ch .closed s
    done s' (valveItems (s'.valve ch))

/-- VALV (R102). -/
def valvMsg (args : List Byte) (s : State) : Answer :=
  match readValve args with
  | none => refuse .length s
  | some (code, close) =>
    if dataValid s = false then refuseData s
    else
      match namedValve s code with
      | none => refuse .range s
      | some ch => if close then closeValve ch s else queryValve ch s

/-- The end that a feedback alone shows. -/
def Feedback.end? : Feedback → Option ValveEnd
  | .opened => some .opened
  | .closed => some .closed
  | .neither | .both => none

/-- A fault cleared by adopting an end (R103). -/
def Valve.clearFault (e : ValveEnd) (v : Valve) : Valve :=
  { v with commanded := e, state := e.standing, cause := none, handSet := false }

/-- VCLR's checks 4 to 7 and its effect (R103). -/
def clearValve (ch : Nat) (s : State) : Answer :=
  if s.console.state ≠ .auto then refuse .console s
  else if (s.valve ch).state ≠ .fault then refuse .state s
  else if (holderOf s ch).isSome then refuse .busy s
  else
    match (feedback s ch).end? with
    | some e => done (s.setValve ch ((s.valve ch).clearFault e)) [.valveEnd e]
    | none => refuse .valve s

/-- VCLR (R103). -/
def vclrMsg (args : List Byte) (s : State) : Answer :=
  match readOne 1 args with
  | none => refuse .length s
  | some code =>
    if dataValid s = false then refuseData s
    else
      match namedValve s code with
      | none => refuse .range s
      | some ch => clearValve ch s

end Sys2Proof.Machine
end

