-- ==== Sys2Proof/Machine/SequencerMessages.lean ====
section
/-! DEFINITION. The messages of the Sequencer: SQXC (R139), SQGO (R135), SQPS (R136), SQRS (R137), SQAB (R138) and SEQQ
(R145). -/

namespace Sys2Proof.Machine

/-! ## SQXC -/

/-- The states in which SQXC is taken (R139, check 2). -/
def SeqState.exchangeable : SeqState → Bool
  | .empty | .ready | .complete | .suspended => true
  | .running | .suspending | .yielded => false

/-- Where the standby program failed: the step number, or the marker HEADER (R139). -/
def ProgramFault.item : ProgramFault → Item
  | .header => .header
  | .step i => natItem i

/-- The banks are swapped whole and the Sequencer is READY (R139). -/
def swapPrograms (s : State) : State :=
  { s with seq := { s.seq with active := s.seq.standby, standby := s.seq.active, core := SeqCore.fresh .ready } }

/-- The header of a bank, in its row form. -/
def headerItem (b : ProgramBank) : Item := .raw (rowBytes b 0)

/-- SQXC (R139). -/
def sqxcMsg (args : List Byte) (s : State) : Answer :=
  if args ≠ [] then refuse .length s
  else if s.seq.core.state.exchangeable = false then refuse .busy s
  else
    match programFault s.seq.standby with
    | some f => refuse .range s [f.item]
    | none =>
      let s' := swapPrograms s
      done s' [headerItem s'.seq.active]

/-! ## SQGO, SQPS, SQRS and SQAB -/

/-- The state, pointer and wait reason that SQGO and SQRS reply with. -/
def walkItems (s : State) : List Item :=
  [.seqState s.seq.core.state, natItem s.seq.core.pointer, .waitReason s.seq.core.wait]

/-- The Sequencer runs from step 0 (R135). -/
def runFromStart (s : State) : State := walk (s.setCore (SeqCore.fresh .running))

/-- The walk of an act, with what it hands on: the end of its transfers concerns the grant alone (R172). -/
def afterWalk (s : State) : State := judgeGrant s

/-- SQGO (R135). -/
def sqgoMsg (args : List Byte) (s : State) : Answer :=
  if args ≠ [] then refuse .length s
  else if s.seq.core.state ≠ .ready ∧ s.seq.core.state ≠ .complete then refuse .state s
  else if s.tracker.op ≠ .loading then refuse .state s
  else
    let s' := runFromStart s
    done (afterWalk s') (walkItems s')

/-- SQPS in RUNNING: SUSPENDING in a start phase, SUSPENDED otherwise (R136). -/
def suspendHost (s : State) : State :=
  let c := s.seq.core
  if c.wait = .opening then s.setCore { c with state := .suspending, wait := .nothing, suspend := .host }
  else suspendSeq .host .nothing s

/-- SQPS (R136). -/
def sqpsMsg (args : List Byte) (s : State) : Answer :=
  if args ≠ [] then refuse .length s
  else
    match s.seq.core.state with
    | .running => done (suspendHost s) []
    | .suspending | .suspended => done s []
    | .yielded => refuse .console s
    | .empty | .ready | .complete => refuse .state s

/-- A suspend HOST is taken up again: a started START has its interval loaded again, any other step is judged afresh
(R137). -/
def resumeHost (s : State) : State :=
  match s.seq.core.progress with
  | some _ => walk (s.setCore { s.seq.core with interval := ticks (headInterval s.seq.active) })
  | none => resumeStep s

/-- The walk resumes by the reason it was suspended for (R137). -/
def resumeBy (why : SuspendReason) (s : State) : State :=
  match why with
  | .host | .nothing => resumeHost s
  | .stepRefused | .deadlock => walk s
  | .transferFault => moveOn s

/-- The suspend is over: the state is RUNNING with no suspend reason or detail (R137). -/
def unsuspend (w : WaitReason) (s : State) : State :=
  s.setCore { s.seq.core with state := .running, wait := w, suspend := .nothing, detail := .nothing }

/-- SQRS (R137). -/
def sqrsMsg (args : List Byte) (s : State) : Answer :=
  if args ≠ [] then refuse .length s
  else
    match s.seq.core.state with
    | .suspending => let s' := unsuspend .opening s; done s' (walkItems s')
    | .suspended => let s' := resumeBy s.seq.core.suspend (unsuspend .nothing s); done (afterWalk s') (walkItems s')
    | .yielded => refuse .console s
    | .empty | .ready | .running | .complete => refuse .state s

/-- The drivers whose PROGRAM transfers SQAB ends, in the order in which it ends them (R138; log entry 38). -/
def abortable (s : State) : List Driver :=
  drivers.filter fun d => (s.transfer d).owner == some .program && (s.transfer d).state.active

/-- The Sequencer becomes READY with the pointer at 0; the repeat count is kept (R138). -/
def readySeq (s : State) : State := s.setCore { SeqCore.fresh .ready with passes := s.seq.core.passes }

/-- SQAB (R138). -/
def sqabMsg (args : List Byte) (s : State) : Answer :=
  if args ≠ [] then refuse .length s
  else if s.console.state ≠ .auto then refuse .console s
  else if s.seq.core.state = .empty then refuse .state s
  else
    let ds := abortable s
    done (settle s (endEvents ds .aborted (readySeq s))) [natItem ds.length]

/-! ## SEQQ -/

/-- The step progress: none, or the driver and how far its transfer has gone (R122). -/
def progressItems : Option Progress → List Item
  | some p => [.driver p.driver, .flag p.entered, reasonItem p.ended, .flag p.idle]
  | none => [.absent]

/-- The Sequencer's core but its state, with the kind of the step at the pointer (R145). -/
def coreItems (b : ProgramBank) (c : SeqCore) : List Item :=
  [natItem c.pointer, natItem (stepKind b c.pointer)] ++ progressItems c.progress ++
    [.waitReason c.wait, .suspendReason c.suspend, .suspendDetail c.detail, natItem c.interval, natItem c.dwell,
      natItem c.passes]

/-- The PROGRAM transfers that are not IDLE, each with its state and starting step (R145). -/
def programItems (s : State) : List Item :=
  (busyDrivers s).flatMap fun d =>
    let x := s.transfer d
    if x.owner = some .program then [.driver d, .xferState x.state, natOr x.step] else []

/-- The saved state while YIELDED (R145). -/
def savedItems (s : State) : List Item :=
  match s.seq.saved with
  | some c => .seqState c.state :: coreItems s.seq.active c
  | none => [.absent]

/-- What SEQQ gives without an index, in the order of R145. While YIELDED the live items beside the saved state are those of log
entry 47. -/
def sequencerItems (s : State) : List Item :=
  .seqState s.seq.core.state :: savedItems s ++ coreItems s.seq.active s.seq.core ++
    natItem s.seq.stage :: headerItem s.seq.active :: programItems s

/-- SEQQ (R145). -/
def seqqMsg (args : List Byte) (s : State) : Answer :=
  match readOptional 1 args with
  | none => refuse .length s
  | some none => done s (sequencerItems s)
  | some (some i) =>
    if i ≤ 63 then done s (sequencerItems s ++ [.raw (rowBytes s.seq.active (i + 1))]) else refuse .range s

end Sys2Proof.Machine
end

