-- ==== Sys2Proof/Machine/Operation.lean ====
section
/-! DEFINITION. The loading operation and the plan: OPBG (R148), OPND (R149), PLXC (R151, R152), HSET (R165), and the
queries POUR (R167) and PHIS (R168). -/

namespace Sys2Proof.Machine

/-- The pour and hold concerned, for a POUR notice. -/
def concernedPair (s : State) : Option (Nat × Nat) := (concerned s).map fun c => (c.entry.pour, c.entry.hold)

/-! ## OPBG (R148) -/

/-- The seven arguments, in the order carried. -/
def OpParams.ofArgs : List Nat → Option OpParams
  | [ρ, draft, boom, clear, ack, gain, tide] =>
    some
      { density := ρ, maxDraft := draft, boom := boom, minClear := clear, ackTime := ack, paceGain := gain
        tide := signed32 tide }
  | _ => none

/-- The range checks of the seven arguments, in the order carried (R148). -/
def OpParams.checks (p : OpParams) : List Bool :=
  [densityOk p.density, inRange 1 40000 p.maxDraft, inRange 1 60000 p.boom, inRange 0 20000 p.minClear,
    inRange 5 120 p.ackTime, inRange 0 100 p.paceGain, tideOk p.tide]

/-- The position, from 1, of the first argument out of its range (R148). -/
def OpParams.badPosition (p : OpParams) : Option Nat := (p.checks.findIdx? fun ok => !ok).map (· + 1)

/-- A gauge record at OPBG: the density, the reference mass, the changed flag and the unexplained total (R32, R38, R40). -/
def GaugeRec.begin (ρ : Nat) (g : GaugeRec) : GaugeRec :=
  let g' := g.withDensity ρ
  { g' with refMass := g'.mass, changed := false, unexplained := 0 }

/-- The gauging unit at OPBG, and the console's snapshot masses at the new densities (R173). -/
def beginGauges (ρ : Nat) (s : State) : State :=
  let s1 := s.setGauging { s.gauge with recs := s.gauge.recs.map (Option.map (GaugeRec.begin ρ)) }
  s1.setConsole
    { s1.console with
      snapshot :=
        s1.console.snapshot.map (Tab.map (Option.map fun t => { t with mass := rdivN (t.volume * ρ) 1000 })) }

/-- The unattributed counts become 0 (R46). -/
def clearUnattributed (s : State) : State :=
  pumps.foldl (fun s p => s.setPumpMeter p { s.pumpMeter p with unattributed := 0 }) s

/-- A projection in flight is marked void (R59). -/
def Job.voided (j : Job) : Job :=
  match j.task with
  | .refresh => j
  | .projection req _ => { j with task := .projection req true }

/-- The engine at OPBG: a projection is void, its mark and result cleared, and the refresh mark set (R59, R79). -/
def beginEngine (s : State) : State :=
  setRefreshMark
    (s.setEngine { s.engine with job := s.engine.job.map Job.voided, projMark := none, result := none })

/-- The Record Keeper at OPBG: the log and the totals are emptied, the buffer kept (R194). -/
def beginRecords (s : State) : State :=
  { s with
    records :=
      { s.records with
        log := [], nextNumber := 1, full := false, discharged := Tab.replicate 48 0#48, takenUp := Tab.replicate 48 0#48 } }

/-- The tracker at OPBG, before its evaluation (R148). -/
def beginTracker (p : OpParams) (s : State) : State :=
  s.setTracker
    { s.tracker with
      op := .loading, opbgStamp := some s.time.port, opndStamp := none, density := some p.density
      state := if planLength s.tracker.active = 0 then .planDone else .evaluating
      pos := 0, exchange := false, cur := none, prevRob := s.engine.published.map fun r => r.cond.rob
      lag := 0, lagBefore := 0, standing := none, lastReasons := 0#13, ack := none
      corrections := Tab.replicate 12 0, history := [], ended := 0 }

/-- The Transfer Unit and the Sequencer at OPBG: the pace gain and the stage (R117, R141). -/
def beginGainAndStage (p : OpParams) (s : State) : State :=
  { s with xfer := { s.xfer with paceGain := p.paceGain }, seq := { s.seq with stage := 0 } }

/-- An entry into PLAN_DONE raises the POUR notice (R158), with no pour concerned and no reasons (log entry 41). -/
def announcePlanDone (s : State) : State :=
  if s.tracker.state = .planDone then raisePour .planDone none 0#13 s else s

/-- An accepted OPBG, in one act (R148). -/
def beginOperation (p : OpParams) (s : State) : State :=
  let s1 := beginTracker p (clearUnattributed (beginGauges p.density s))
  let s2 := beginRecords (beginGainAndStage p (limitsBegin p (beginEngine s1)))
  evaluate (announcePlanDone s2)

/-- OPBG (R148). -/
def opbgMsg (args : List Byte) (s : State) : Answer :=
  match (readArgs [2, 4, 4, 4, 1, 1, 4] args).bind OpParams.ofArgs with
  | none => refuse .length s
  | some p =>
    if s.tracker.op = .loading then refuse .state s
    else if dataValid s = false then refuseData s
    else
      match p.badPosition with
      | some n => refuse .range s [natItem n]
      | none =>
        let s' := beginOperation p s
        done s' [.trackerState s'.tracker.state]

/-! ## OPND (R149) -/

/-- An accepted OPND (R149, R169). -/
def endOperation (s : State) : State :=
  settleLine
    (s.setTracker
      { s.tracker with
        op := .complete, opndStamp := some s.time.port, state := .idle, lag := 0, lastReasons := 0#13, cur := none
        ack := none, exchange := false })

/-- OPND (R149). -/
def opndMsg (args : List Byte) (s : State) : Answer :=
  if args ≠ [] then refuse .length s
  else if s.tracker.op ≠ .loading then refuse .state s
  else if allIdle s = false ∨ (s.tracker.state ≠ .evaluating ∧ s.tracker.state ≠ .planDone) ∨ s.console.grantLine then
    refuse .busy s
  else
    let s' := endOperation s
    done s' [natItem s'.tracker.ended]

/-! ## The plan (R150 to R152) -/

/-- An entry's fields lie in their ranges (R150). -/
def PlanEntry.ok (e : PlanEntry) : Bool :=
  inRange 1 999 e.pour && inRange 1 12 e.hold && inRange 1 500000 e.planned && inRange 0 4000000 e.rob &&
    inRange 0 4000000 e.lagTol && inRange 0 500000 e.overTol && inRange 0 255 e.stage

/-- The index of the first entry in use that fails the plan checks, counted from `i`, with the lower entries `seen`
(R151). -/
def firstBadEntry : Nat → List Nat → List PlanEntry → Option Nat
  | _, _, [] => none
  | i, seen, e :: es => if e.ok && !seen.contains e.pour then firstBadEntry (i + 1) (e.pour :: seen) es else some i

/-- The plan checks: a bank that holds no plan fails at entry 0 (R151). -/
def planFault (b : PlanBank) : Option Nat :=
  match planEntries b with
  | [] => some 0
  | es => firstBadEntry 0 [] es

/-- Whether a pour is in progress: the current pour has started set (R153). -/
def pouring (t : Tracker) : Bool :=
  match t.cur with
  | some p => p.started
  | none => false

/-- The state that the tracker takes at an applied exchange, EVALUATING in LOADING and IDLE otherwise (R152). -/
def exchangedState (t : Tracker) : TrackerState := if t.op = .loading then .evaluating else .idle

/-- Steps 1 to 5 of R152 but the evaluation: the banks, generation, position, pending flag, permit, standing and state. -/
def swapPlans (s : State) : State :=
  let t := s.tracker
  s.setTracker
    { t with
      active := t.standby, standby := t.active, gen := (t.gen + 1) % 65536, pos := 0, exchange := false
      cur := none, ack := none, standing := none, lastReasons := 0#13, state := exchangedState t }

/-- From PERMITTED, PHLD is sent for the pour whose permit is void, with an empty reason set (R152, step 3). -/
def voidPermit (before s : State) : State :=
  match before.tracker.state, before.tracker.cur with
  | .permitted, some p =>
    issueShore (.phld p.entry.pour p.entry.hold 0#13) (raisePour .held (some (p.entry.pour, p.entry.hold)) 0#13 s)
  | _, _ => s

/-- An applied plan exchange, in one act (R152). It is applied with no pour in progress. Its POUR notice names the first entry of
the new plan and no reasons (log entry 41). -/
def applyExchange (s : State) : State :=
  let s1 := voidPermit s (swapPlans s)
  evaluate (raisePour .exchange (concernedPair s1) 0#13 s1)

/-- PLXC (R151). -/
def plxcMsg (args : List Byte) (s : State) : Answer :=
  if args ≠ [] then refuse .length s
  else if s.tracker.exchange then refuse .busy s
  else
    match planFault s.tracker.standby with
    | some i => refuse .range s [natItem i]
    | none =>
      if pouring s.tracker then done (s.setTracker { s.tracker with exchange := true }) [.applied false]
      else
        let s' := applyExchange s
        done s' [.applied true, natItem s'.tracker.gen]

/-! ## HSET (R165) -/

/-- Whether a pour is in progress into a hold. -/
def pouringInto (t : Tracker) (h : Nat) : Bool :=
  match t.cur with
  | some p => p.started && p.entry.hold == h
  | none => false

/-- A hold's correction takes a change in LOADING (R165). -/
def addCorrection (h : Nat) (change : Int) (t : Tracker) : Tracker :=
  if t.op = .loading then { t with corrections := t.corrections.set (h - 1) (t.corrections.get (h - 1) + change) } else t

/-- An accepted HSET (R165). -/
def setHold (h m : Nat) (s : State) : State :=
  let t := s.tracker
  let t' := addCorrection h ((m : Int) - t.holds.get (h - 1)) { t with holds := t.holds.set (h - 1) m }
  evaluate (setRefreshMark (s.setTracker t'))

/-- HSET (R165). -/
def hsetMsg (args : List Byte) (s : State) : Answer :=
  match readArgs [1, 4] args with
  | some [h, m] =>
    if inRange 1 12 h = false ∨ massMax < m then refuse .range s
    else if pouringInto s.tracker h then refuse .busy s
    else done (setHold h m s) [natItem (s.tracker.holds.get (h - 1)), natItem m]
  | _ => refuse .length s

/-! ## POUR and PHIS -/

/-- The fields of a plan entry, or of a pour's copy of it. -/
def PlanEntry.items (e : PlanEntry) : List Item :=
  [natItem e.pour, natItem e.hold, natItem e.planned, natItem e.rob, natItem e.lagTol, natItem e.overTol, natItem e.stage]

/-- The current pour whole, or none (R153, R167). -/
def currentItems : Option CurrentPour → List Item
  | some p =>
    .origin p.origin :: p.entry.items ++
      [.flag p.started, natItem p.startStamp, natItem p.holdAtStart, natItem p.stageAtStart, natItem p.tally, .flag p.revised,
        .reasons p.reasons, natItem p.holds, .reasons p.union]
  | none => [.absent]

/-- The projection standing, or none. -/
def standingItems : Option Standing → List Item
  | some st => .flag st.passed :: natItem st.pour :: natItem st.gen :: st.reasons.items
  | none => [.absent]

/-- The entry at the plan position, or none. -/
def positionItems (s : State) : List Item :=
  match nextEntry s with
  | some e => e.items
  | none => [.absent]

/-- What POUR gives without an index (R167). -/
def trackerItems (s : State) : List Item :=
  let t := s.tracker
  [.opState t.op, natOr t.opbgStamp, natOr t.opndStamp, natOr t.density, .trackerState t.state, natItem t.gen,
    .flag t.exchange, natItem t.pos, natItem (planLength t.active)] ++ positionItems s ++ currentItems t.cur ++
    [.reasons t.lastReasons, .num t.lag, .num t.lagBefore, natOr t.prevRob] ++ standingItems t.standing ++
    [natOr t.ack, natItem s.seq.stage] ++ t.holds.cells.map natItem ++ t.corrections.cells.map Item.num ++
    [natItem t.history.length, natItem t.ended]

/-- POUR (R167). -/
def pourMsg (args : List Byte) (s : State) : Answer :=
  match readOptional 1 args with
  | none => refuse .length s
  | some none => done s (trackerItems s)
  | some (some i) =>
    if i ≤ 95 then done s (trackerItems s ++ (planEntry s.tracker.active i).items) else refuse .range s

/-- The condition at the end of a pour, or absent. -/
def pourCondItems : Option PourCond → List Item
  | some c =>
    [natItem c.seq, natItem c.disp, natItem c.tAft, natItem c.tFwd, .num c.draft, .num c.trim, natItem c.maxSf,
      natItem c.maxSfAt, natItem c.maxBm, natItem c.maxBmAt, natItem c.rob]
  | none => [.absent]

/-- A pour record, in the order of R166. -/
def recordItems (r : PourRec) : List Item :=
  [natItem r.place, natItem r.pour, natItem r.hold, .origin r.origin, natItem r.planned, natItem r.tally,
    .flag r.origin.isUnexpected, .flag r.revised, natItem r.startStamp, natItem r.endStamp, natItem r.holds,
    .reasons r.union, natItem r.stage] ++ pourCondItems r.cond ++ [.num r.lag, intOr r.correction]

/-- The records bearing a pour number, in the order written. -/
def recordsOf (s : State) (n : Nat) : List PourRec := s.tracker.history.filter fun r => r.pour == n

/-- PHIS (R168). -/
def phisMsg (args : List Byte) (s : State) : Answer :=
  match readOne 2 args with
  | none => refuse .length s
  | some n =>
    if inRange 1 999 n = false then refuse .range s
    else
      match (recordsOf s n).getLast? with
      | some r => done s (recordItems r ++ [natItem (recordsOf s n).length])
      | none => refuse .range s

end Sys2Proof.Machine
end

