-- ==== Sys2Proof/Machine/Loader.lean ====
section
/-! DEFINITION. The loader's requests: LPST (R159), LTAL (R160), LPND (R161, R166) and LHAK (R162), and the expiry of the ack
countdown. -/

namespace Sys2Proof.Machine

/-- A loader request refused with STATE raises the POUR notice (R158), with the pour concerned and the reason set last computed
(log entry 41). -/
def refuseLoader (m : Mnem) (s : State) : Answer :=
  refuse .state (raisePour (.refused m) (concernedPair s) s.tracker.lastReasons s)

/-! ## LPST (R159) -/

/-- A pour started now: the start stamp, the hold's mass, the stage, and a tally of 0 (R159). -/
def CurrentPour.begin (s : State) (p : CurrentPour) : CurrentPour :=
  { p with
    started := true, startStamp := s.time.port, holdAtStart := s.tracker.holds.get (p.entry.hold - 1)
    stageAtStart := s.seq.stage, tally := 0 }

/-- The permitted or held pour is started: from PERMITTED the state becomes POURING, else it is kept (R159). -/
def startPour (p : CurrentPour) (s : State) : State :=
  let t := s.tracker
  let st := if t.state = .permitted then TrackerState.pouring else t.state
  let s' := s.setTracker { t with cur := some (p.begin s), state := st }
  raisePour .started (concernedPair s') p.reasons s'

/-- The entry that stands for an UNEXPECTED pour: the loader's number and hold, with planned tonnage, planned ROB and both
tolerances 0 (R153), and required stage 0 (DESIGN CHOICE, log entry 40). -/
def unexpectedEntry (pour hold : Nat) : PlanEntry :=
  { pour := pour, hold := hold, planned := 0, rob := 0, lagTol := 0, overTol := 0, stage := 0 }

/-- The pour of an unexpected start (R159). -/
def unexpectedPour (pour hold : Nat) (s : State) : CurrentPour :=
  CurrentPour.begin s
    { origin := .unexpected, entry := unexpectedEntry pour hold, started := false, startStamp := 0, holdAtStart := 0
      stageAtStart := 0, tally := 0, revised := false, reasons := 0#13, holds := 0, union := 0#13 }

/-- An UNEXPECTED pour is opened: it replaces the current pour, the standing becomes none, and PHLD is sent with the
reasons an evaluation finds (R159). -/
def openUnexpected (pour hold : Nat) (s : State) : State :=
  let p := unexpectedPour pour hold s
  let s1 := s.setTracker { s.tracker with cur := some p, standing := none, state := .holdRequested }
  let set := match concerned s1 with
    | some c => reasonSet s1 c
    | none => Reason.unexpected.bit
  let s2 := s1.setTracker { s1.tracker with lastReasons := set }
  sendHold p set (raisePour .started (some (pour, hold)) set s2)

/-- The current pour names this number and hold. -/
def CurrentPour.names (p : CurrentPour) (pour hold : Nat) : Bool := p.entry.pour == pour && p.entry.hold == hold

/-- LPST in LOADING, by the tracker state (R159). -/
def startReported (pour hold : Nat) (s : State) : Answer :=
  let ok (s' : State) : Answer := done s' [.trackerState s'.tracker.state]
  match s.tracker.cur with
  | some p =>
    if p.started then
      if p.names pour hold then ok (raisePour .started (concernedPair s) p.reasons s) else refuseLoader .lpst s
    else if p.names pour hold then ok (startPour p s)
    else ok (openUnexpected pour hold s)
  | none => ok (openUnexpected pour hold s)

/-- LPST (R159). -/
def lpstMsg (args : List Byte) (s : State) : Answer :=
  match readArgs [2, 1] args with
  | some [pour, hold] =>
    if inRange 1 999 pour = false ∨ inRange 1 12 hold = false then refuse .range s
    else if s.tracker.op ≠ .loading then refuseLoader .lpst s
    else startReported pour hold s
  | _ => refuse .length s

/-! ## Tallies (R160) -/

/-- The pour in progress that bears a number. -/
def pourOf (s : State) (pour : Nat) : Option CurrentPour :=
  match s.tracker.cur with
  | some p => if p.started ∧ p.entry.pour = pour then some p else none
  | none => none

/-- The current pour takes `f`. -/
def changePour (f : CurrentPour → CurrentPour) (s : State) : State :=
  s.setTracker { s.tracker with cur := s.tracker.cur.map f }

/-- Step 2 of R160: a rise while HELD sets the stop latch with POUR_AFTER_HOLD. -/
def latchRise (p : CurrentPour) (tally : Nat) (s : State) : State :=
  if s.tracker.state = .held ∧ p.tally < tally then setLatch .pourAfterHold p.entry.pour s else s

/-- Step 3 of R160: the tally, and the hold's mass limited to 4,000,000. -/
def storeTally (p : CurrentPour) (tally : Nat) (s : State) : State :=
  let s1 := changePour (fun q => { q with tally := tally }) s
  s1.setTracker
    { s1.tracker with holds := s1.tracker.holds.set (p.entry.hold - 1) (min massMax (p.holdAtStart + tally)) }

/-- Steps 1 to 3 of R160. -/
def takeTally (p : CurrentPour) (tally : Nat) (s : State) : State :=
  storeTally p tally
    (latchRise p tally (changePour (fun q => { q with revised := q.revised || decide (tally < p.tally) }) s))

/-- An accepted LTAL (R160). -/
def applyTally (p : CurrentPour) (tally : Nat) (s : State) : State := evaluate (setRefreshMark (takeTally p tally s))

/-- LTAL (R160). -/
def ltalMsg (args : List Byte) (s : State) : Answer :=
  match readArgs [2, 4] args with
  | some [pour, tally] =>
    if massMax < tally then refuse .range s
    else
      match pourOf s pour with
      | some p => done (applyTally p tally s) []
      | none => refuseLoader .ltal s
  | _ => refuse .length s

/-! ## LPND (R161, R166) -/

/-- A final tally of a PLAN pour above its allowance adds OVERPOUR to the union (R161, step 1). -/
def addOverpour (p : CurrentPour) : CurrentPour :=
  if p.origin ≠ .unexpected ∧ p.entry.planned + p.entry.overTol < p.tally then
    { p with union := p.union ||| Reason.overpour.bit }
  else p

/-- The condition of the record published at the LPND (R166). -/
def Published.atEnd (r : Published) : PourCond :=
  let c := r.cond
  { seq := r.seq, disp := c.disp, tAft := c.tAft, tFwd := c.tFwd, draft := c.draft, trim := c.trim, maxSf := c.maxSf
    maxSfAt := c.maxSfAt, maxBm := c.maxBm, maxBmAt := c.maxBmAt, rob := c.rob }

/-- The lag at end, with the final tally and the ROB of the published record; 0 while none is published (R161, step 3). -/
def lagAtEnd (s : State) (p : CurrentPour) : Int :=
  match s.engine.published with
  | some r => lagDuring s.tracker r.cond.rob p.tally
  | none => 0

/-- A correction, or none when it is 0 (R166). -/
def correctionOf (c : Int) : Option Int := if c = 0 then none else some c

/-- The pour record of a pour that ends now (R166). -/
def pourRecord (s : State) (p : CurrentPour) : PourRec :=
  { place := s.tracker.history.length + 1, pour := p.entry.pour, hold := p.entry.hold, origin := p.origin
    planned := p.entry.planned, tally := p.tally, revised := p.revised, startStamp := p.startStamp
    endStamp := s.time.port, holds := p.holds, union := p.union, stage := p.stageAtStart
    cond := s.engine.published.map Published.atEnd, lag := lagAtEnd s p
    correction := correctionOf (s.tracker.corrections.get (p.entry.hold - 1)) }

/-- The pour history holds at most this many records (R147). -/
def historyMax : Nat := 128

/-- Whether the pour history has room for a record (R166). -/
def historyOpen (s : State) : Bool := decide (s.tracker.history.length < historyMax)

/-- Step 4 of R161: the record, if there is room, and pours ended; the hold's correction then returns to 0 (R165). -/
def writeRecord (p : CurrentPour) (s : State) : State :=
  let t := s.tracker
  let t' := { t with ended := countTo 65535 t.ended }
  if historyOpen s then
    s.setTracker
      { t' with history := t.history ++ [pourRecord s p], corrections := t.corrections.set (p.entry.hold - 1) 0 }
  else s.setTracker t'

/-- Step 5: the previous planned ROB and the plan position of a PLAN pour; step 6: no current pour, no standing. The lag is 0
while no pour is in progress (R155). -/
def closePour (p : CurrentPour) (s : State) : State :=
  let t := s.tracker
  let t' :=
    match p.origin with
    | .plan _ => { t with prevRob := some p.entry.rob, pos := t.pos + 1 }
    | .unexpected => t
  s.setTracker { t' with cur := none, standing := none, ack := none, lag := 0 }

/-- The state between pours: EVALUATING while the plan holds a next pour, else PLAN_DONE (R161, step 8). -/
def nextState (s : State) : State :=
  s.setTracker
    { s.tracker with
      state := if s.tracker.pos < planLength s.tracker.active then .evaluating else .planDone, lastReasons := 0#13 }

/-- Step 7: a pending exchange is applied (R152). -/
def applyPending (s : State) : State := if s.tracker.exchange then applyExchange s else s

/-- Steps 2 to 4: the ack countdown is cancelled, the record written and handed to the Sequencer, whose walk is part of the
act (R131, R161; log entry 33). -/
def recordPour (p : CurrentPour) (s : State) : State :=
  hearRecord (writeRecord p (s.setTracker { s.tracker with ack := none }))

/-- An accepted LPND, in its order (R161). The POUR notice of the end stands between steps 6 and 7
(log entry 14), with the pour that ended and its reasons (log entry 41). -/
def endPour (p : CurrentPour) (tally : Nat) (s : State) : State :=
  let s1 := changePour addOverpour (takeTally p tally s)
  let p1 := s1.tracker.cur.getD p
  let s2 := nextState (closePour p1 (recordPour p1 s1))
  let s3 := raisePour (.ended (historyOpen s1)) (some (p1.entry.pour, p1.entry.hold)) p1.reasons s2
  evaluate (setRefreshMark (announcePlanDone (nextState (applyPending s3))))

/-- LPND (R161). -/
def lpndMsg (args : List Byte) (s : State) : Answer :=
  match readArgs [2, 4] args with
  | some [pour, tally] =>
    if massMax < tally then refuse .range s
    else
      match pourOf s pour with
      | some p => done (judgeGrant (endPour p tally s)) []
      | none => refuseLoader .lpnd s
  | _ => refuse .length s

/-! ## LHAK and the ack expiry (R162) -/

/-- The ack countdown ends and the state becomes HELD. -/
def becomeHeld (s : State) : State := s.setTracker { s.tracker with state := .held, ack := none }

/-- LHAK: HOLD_REQUESTED and naming the current pour, it makes the pour HELD; in any other case it changes nothing
(R162). -/
def acknowledge (pour : Nat) (s : State) : State :=
  match s.tracker.state, s.tracker.cur with
  | .holdRequested, some p => if p.entry.pour = pour then evaluate (becomeHeld s) else s
  | _, _ => s

/-- LHAK (R162). -/
def lhakMsg (args : List Byte) (s : State) : Answer :=
  match readOne 2 args with
  | none => refuse .length s
  | some pour => if inRange 1 999 pour = false then refuse .range s else done (acknowledge pour s) []

/-- The ack countdown expires in HOLD_REQUESTED: the latch is set ACK_TIMEOUT, the state becomes HELD, and the tracker
evaluates (R162). -/
def ackExpires (p : CurrentPour) (s : State) : State :=
  evaluate (becomeHeld (setLatch .ackTimeout p.entry.pour (s.setTracker { s.tracker with ack := none })))

end Sys2Proof.Machine
end

