-- ==== Sys2Proof/Machine/Reports.lean ====
section
/-! DEFINITION. The messages of the Record Keeper and of the Link Unit that change no other block: RPTB (R190), RPTG (R192),
DLOG (R193), NTEN (R202), CLKS (R205) and STAT (R206). -/

namespace Sys2Proof.Machine

/-! ## RPTB, RPTG and DLOG -/

/-- What RPTB asks for: a POUR report of a place, or one of the other two. -/
inductive ReportAsk where
  | pour (place : Nat)
  | discharge
  | final
  | unknownKind
  deriving DecidableEq, Repr

/-- RPTB's form: a kind, with a place for POUR and none for any other; a kind of no known code is then judged by the range
check (R190, Request arguments). -/
def readReport : List Byte → Option ReportAsk
  | [k] =>
    match k.toNat with
    | 0 => none
    | 1 => some .discharge
    | 2 => some .final
    | _ => some .unknownKind
  | [k, place] => if k.toNat = 0 then some (.pour place.toNat) else none
  | _ => none

/-- A report of a kind is built whole into the buffer (R190). -/
def buildReport (kind : ReportKind) (place : Option Nat) (contents : List Item) (s : State) : Answer :=
  let r : Report := { kind := kind, place := place, stamp := s.time.port, contents := contents }
  done { s with records := { s.records with report := some r } } [.reportKind kind, natItem r.pages]

/-- RPTB (R190). -/
def rptbMsg (args : List Byte) (s : State) : Answer :=
  match readReport args with
  | none => refuse .length s
  | some .unknownKind => refuse .range s
  | some (.pour place) =>
    if inRange 1 historyMax place = false then refuse .range s
    else
      match s.tracker.history[place - 1]? with
      | some r => buildReport .pour (some place) (pourContents s r) s
      | none => refuse .state s
  | some .discharge => if s.tracker.op = .idle then refuse .state s else buildReport .discharge none (dischargeContents s) s
  | some .final => if s.tracker.op ≠ .complete then refuse .state s else buildReport .final none (finalContents s) s

/-- RPTG (R192). -/
def rptgMsg (args : List Byte) (s : State) : Answer :=
  match readOne 1 args with
  | none => refuse .length s
  | some n =>
    match s.records.report with
    | none => refuse .range s
    | some r =>
      if inRange 1 r.pages n = false then refuse .range s
      else done s [.reportKind r.kind, natItem r.stamp, natItem n, natItem r.pages, .raw (r.page n)]

/-- What DLOG gives without a place (R193). -/
def logItems (s : State) : List Item :=
  [natItem s.records.log.length, .flag s.records.full, natItem s.records.nextNumber]

/-- DLOG (R193). -/
def dlogMsg (args : List Byte) (s : State) : Answer :=
  match readOptional 1 args with
  | none => refuse .length s
  | some none => done s (logItems s)
  | some (some place) =>
    match if place = 0 then none else s.records.log[place - 1]? with
    | some e =>
      done s
        (logItems s ++
          [.raw e.bytes, totalItem (s.records.discharged.get e.tank), totalItem (s.records.takenUp.get e.tank)])
    | none => refuse .range s

/-! ## NTEN and CLKS -/

/-- The eight maskable kinds, in the order of their flags (notice enables). -/
def maskable : List NoticeKind := [.valve, .transfer, .pour, .gauge, .sequence, .change, .limit, .condition]

/-- A kind leaves the pending set. -/
def clearNotice (s : State) (k : NoticeKind) : State :=
  { s with links := { s.links with notices := s.links.notices.set k.place none } }

/-- The enables are stored, and every kind they clear leaves the pending set (R202). -/
def storeEnables (e : BitVec 8) (s : State) : State :=
  (maskable.filter fun k => !k.enabled e).foldl clearNotice { s with links := { s.links with enables := e } }

/-- The kinds pending, one flag each in the order of priority (R200). -/
def pendingItems (s : State) : List Item := s.links.notices.cells.map fun d => .flag d.isSome

/-- The enables in force and the kinds pending (R202). -/
def noticeItems (s : State) : List Item := .raw (toBE s.links.enables.toNat 1) :: pendingItems s

/-- NTEN (R202). -/
def ntenMsg (args : List Byte) (s : State) : Answer :=
  match readOptional 1 args with
  | none => refuse .length s
  | some none => done s (noticeItems s)
  | some (some e) =>
    let s' := storeEnables (BitVec.ofNat 8 e) s
    done s' (noticeItems s')

/-- The port clock is set (R205). -/
def setClock (v : Nat) (s : State) : State := { s with time := { s.time with port := v } }

/-- CLKS (R205). -/
def clksMsg (args : List Byte) (s : State) : Answer :=
  match readOne 4 args with
  | none => refuse .length s
  | some v => done (setClock v s) [natItem s.time.port, natItem v]

/-! ## STAT -/

/-- The cause of the data state, or none. -/
def causeItem : Option DataCause → Item
  | some c => .dataCause c
  | none => .absent

/-- What STAT gives (R206). -/
def statItems (l : Link) (s : State) : List Item :=
  [.dataState s.store.dataState, causeItem s.store.cause] ++ faultItems s ++
    [natItem s.store.checksum.toNat, .opState s.tracker.op, .trackerState s.tracker.state, .seqState s.seq.core.state,
      .consoleState s.console.state, .flag s.console.grantLine, .flag s.limits.pourEnable, .watch s.limits.watch,
      .flag s.limits.latch, natItem (publishedSeq s), jobItem s, natItem s.time.port, .linkRate s.links.rate] ++
    noticeItems s ++ [natItem s.links.queue.length, .flag (s.link l.other).overrun]

/-- STAT (R206). -/
def statMsg (l : Link) (args : List Byte) (s : State) : Answer :=
  if args ≠ [] then refuse .length s else done s (statItems l s)

end Sys2Proof.Machine
end

