-- ==== Sys2Proof/WellFormed.lean ====
section
/-! DEFINITION. Which commands the outside can give.
A request's payload is its four-letter mnemonic and its arguments, and a frame carries at most 240 payload bytes (R195),
so a request's arguments are at most 236 bytes. A sensor-loop answer names one of the slots 0 to 31 (Identifiers). -/

namespace Sys2Proof

/-- The most argument bytes a request frame can carry: 240 less the mnemonic (R195, Frame). -/
def maxArgs : Nat := 236

/-- The argument bytes a command carries: none unless it is a request. -/
def Instr.args : Instr → List Byte
  | .hardwareReset _ _ => []
  | .verificationEnd => []
  | .frameByteReceived _ _ => []
  | .byteGapExpiry _ => []
  | .transmitFrameEnd _ => []
  | .shipNoticeSend => []
  | .shoreNoticeSend => []
  | .wsel _ args => args
  | .wput _ args => args
  | .wget _ args => args
  | .sdcm _ args => args
  | .commitComplete => []
  | .smsk _ args => args
  | .tden _ args => args
  | .tank _ args => args
  | .metr _ args => args
  | .cond _ args => args
  | .proj _ args => args
  | .fixm _ args => args
  | .lims _ args => args
  | .tide _ args => args
  | .stpr _ args => args
  | .xsta _ args => args
  | .xstp _ args => args
  | .xfer _ args => args
  | .valv _ args => args
  | .vclr _ args => args
  | .sqxc _ args => args
  | .sqgo _ args => args
  | .sqps _ args => args
  | .sqrs _ args => args
  | .sqab _ args => args
  | .seqq _ args => args
  | .opbg _ args => args
  | .opnd _ args => args
  | .plxc _ args => args
  | .pour _ args => args
  | .phis _ args => args
  | .hset _ args => args
  | .lpst _ args => args
  | .ltal _ args => args
  | .lpnd _ args => args
  | .lhak _ args => args
  | .rptb _ args => args
  | .rptg _ args => args
  | .dlog _ args => args
  | .stat _ args => args
  | .nten _ args => args
  | .clks _ args => args
  | .rstr _ args => args
  | .sensorAnswer _ => []
  | .replyWindowExpiry => []
  | .sweepCountdownExpiry => []
  | .meterPulse _ => []
  | .secondBoundary => []
  | .primingExpiry _ => []
  | .noFlowExpiry _ => []
  | .runningFeedbackFall _ => []
  | .limitInputChange _ _ _ => []
  | .valveTravelExpiry _ => []
  | .intervalExpiry => []
  | .dwellExpiry => []
  | .ackExpiry => []
  | .refreshComplete => []
  | .projectionComplete => []
  | .consoleRequestRise => []
  | .consoleRequestDrop => []
  | .runningFeedbackRise _ => []

/-- An answer that names a slot names one of the 32 (Identifiers). -/
def SensorAnswer.slotOk : SensorAnswer → Bool
  | .level slot _ => decide (slot < 32)
  | .fault slot => decide (slot < 32)
  | .garbled => true

/-- The commands that the outside of the part can bring about. -/
def Instr.wellFormed (i : Instr) : Bool :=
  decide (i.args.length ≤ maxArgs) &&
    match i with
    | .sensorAnswer a => a.slotOk
    | _ => true

end Sys2Proof
end

