-- ==== Sys2Proof/Machine/Links.lean ====
section
/-! DEFINITION. The Link Unit: RSTR (R208), the judging of a taken request (R198), the current and waiting request (R197), the
receiver (R195), the transmitter and the sending of notices (R196, R201, R203), and the bytes of a frame. -/

namespace Sys2Proof.Machine

/-! ## RSTR (R208) -/

/-- Step 1 on one link: the receiver HUNTING, a waiting request discarded with an overrun. -/
def restartLink (l : Link) (s : State) : State :=
  let x := s.link l
  s.setLink l { x with rx := .hunting, waiting := none, overrun := x.overrun || x.waiting.isSome }

/-- Step 2: the ship notice pending set is emptied. -/
def emptyNotices (s : State) : State := { s with links := { s.links with notices := Tab.replicate 10 none } }

/-- Step 3: the engine discards its job, forgets the last job kind, and sets its refresh mark (R59, R79). -/
def restartEngine (s : State) : State :=
  setRefreshMark (s.setEngine { s.engine with job := none, lastKind := none })

/-- Step 4: the sweep ends without a sweep end and a new one begins, and no table is selected. -/
def restartSweep (s : State) : State :=
  let s1 := beginSweep (stopSweep s)
  s1.setStore { s1.store with window := none }

/-- The state the Sequencer takes at RSTR: READY if the active bank holds a program, else EMPTY (R146). -/
def restartSeqState (b : ProgramBank) : SeqState := if headLength b = 0 then .empty else .ready

/-- Step 5: the Sequencer's restart values; while YIELDED its saved state takes them (R146), and
the live items too, with the state YIELDED kept (log entry 47). -/
def restartSeq (s : State) : State :=
  let fresh := SeqCore.fresh (restartSeqState s.seq.active)
  if s.seq.core.state = .yielded then
    { s with seq := { s.seq with core := SeqCore.fresh .yielded, saved := some fresh } }
  else { s with seq := { s.seq with core := fresh, saved := none } }

/-- Step 6: transfers in OPENING, PRIMING or RUNNING end with reason RESTART (R120), in the order P0 to P3, G0, G1 (DESIGN
CHOICE, log entry 38). -/
def restartTransfers (s : State) : State := endEvents drivers .restart s

/-- The restart, in its order (R208). -/
def restart (s : State) : State :=
  let s1 := emptyNotices (restartLink .shore (restartLink .ship s))
  settle s (restartTransfers (restartSeq (restartSweep (restartEngine s1))))

/-- RSTR: the reply is formed, and the restart then carried out in the same act (R208). -/
def rstrAct (l : Link) (args : List Byte) (s : State) : State :=
  if args ≠ [] then answer l .rstr (refuse .length s) else restart (answer l .rstr (done s []))

/-- SDCM: a refusal is answered; a commit taken has its reply at its completion (R17). -/
def sdcmAct (l : Link) (args : List Byte) (s : State) : State :=
  match sdcmRefusal args s with
  | some code => answer l .sdcm (refuse code s)
  | none => startCommit s

/-! ## Taking a request (R197, R198) -/

/-- A request of a link is judged and carried out by the rule of its message (R198). -/
def perform (m : Mnem) (l : Link) (args : List Byte) (s : State) : State :=
  match m with
  | .wsel => answer l m (wselMsg args s)
  | .wput => answer l m (wputMsg args s)
  | .wget => answer l m (wgetMsg args s)
  | .sdcm => sdcmAct l args s
  | .smsk => answer l m (smskMsg args s)
  | .tden => answer l m (tdenMsg args s)
  | .tank => answer l m (tankMsg args s)
  | .metr => answer l m (metrMsg args s)
  | .cond => answer l m (condMsg args s)
  | .proj => answer l m (projMsg args s)
  | .fixm => answer l m (fixmMsg args s)
  | .lims => answer l m (limsMsg args s)
  | .tide => answer l m (tideMsg args s)
  | .stpr => answer l m (stprMsg args s)
  | .xsta => answer l m (xstaMsg args s)
  | .xstp => answer l m (xstpMsg args s)
  | .xfer => answer l m (xferMsg args s)
  | .valv => answer l m (valvMsg args s)
  | .vclr => answer l m (vclrMsg args s)
  | .sqxc => answer l m (sqxcMsg args s)
  | .sqgo => answer l m (sqgoMsg args s)
  | .sqps => answer l m (sqpsMsg args s)
  | .sqrs => answer l m (sqrsMsg args s)
  | .sqab => answer l m (sqabMsg args s)
  | .seqq => answer l m (seqqMsg args s)
  | .opbg => answer l m (opbgMsg args s)
  | .opnd => answer l m (opndMsg args s)
  | .plxc => answer l m (plxcMsg args s)
  | .pour => answer l m (pourMsg args s)
  | .phis => answer l m (phisMsg args s)
  | .hset => answer l m (hsetMsg args s)
  | .lpst => answer l m (lpstMsg args s)
  | .ltal => answer l m (ltalMsg args s)
  | .lpnd => answer l m (lpndMsg args s)
  | .lhak => answer l m (lhakMsg args s)
  | .rptb => answer l m (rptbMsg args s)
  | .rptg => answer l m (rptgMsg args s)
  | .dlog => answer l m (dlogMsg args s)
  | .stat => answer l m (statMsg l args s)
  | .nten => answer l m (ntenMsg args s)
  | .clks => answer l m (clksMsg args s)
  | .rstr => rstrAct l args s

/-- The four zero bytes that stand for a mnemonic too short to be given (R198). -/
def noMnemonic : List Byte := List.replicate 4 0#8

/-- The mnemonic a reply carries: the request's first four bytes, or four zero bytes where it is shorter (R198). -/
def replyMnemonic (payload : List Byte) : List Byte := if payload.length < 4 then noMnemonic else payload.take 4

/-- The request mnemonic of a payload on a link (R198, checks 2 and 3). -/
def requestOf (l : Link) (payload : List Byte) : Option Mnem :=
  if payload.length < 4 then none else (Mnem.ofLetters (payload.take 4)).filter fun m => m.ofLink l

/-- A taken request is judged (R198): BUSY in CHECKING, UNKNOWN where it is no request of the link, else by its rule. -/
def judgeRequest (l : Link) (payload : List Byte) (s : State) : State :=
  if s.store.dataState = .checking then sendReply l (replyMnemonic payload) .busy [] s
  else
    match requestOf l payload with
    | some m => perform m l (payload.drop 4) s
    | none => sendReply l (replyMnemonic payload) .unknown [] s

/-- Whether a link takes its waiting request: no current request, the transmitter FREE, and no commit running (R197). -/
def linkFree (l : Link) (s : State) : Bool :=
  (s.link l).current.isNone && (s.link l).tx.isNone && !s.store.committing

/-- The waiting request is taken where the link is free: it becomes the current request and is acted on at once (R197). -/
def serve (l : Link) (s : State) : State :=
  match (s.link l).waiting with
  | some payload =>
    if linkFree l s then
      judgeRequest l payload (s.setLink l { s.link l with waiting := none, current := some payload })
    else s
  | none => s

/-- A request arrives: held in the waiting slot, or discarded with an overrun; and taken where the link is free (R197). -/
def requestArrives (l : Link) (payload : List Byte) (s : State) : State :=
  match (s.link l).waiting with
  | none => serve l (s.setLink l { s.link l with waiting := some payload })
  | some _ => s.setLink l { s.link l with overrun := true }

/-- The greatest payload of a frame (R195). -/
def payloadMax : Nat := 240

/-- A whole request frame arrives on a link with this mnemonic and these arguments (log entry 5). A frame of more than 240
payload bytes cannot arrive: its length byte abandons it (R195). While the reset input is held its bytes are discarded
(R207). -/
def presentRequest (l : Link) (m : Mnem) (args : List Byte) (s : State) : State :=
  if args.length ≤ maxArgs then unlessHeld (requestArrives l (m.letters ++ args)) s else s

/-! ## The receiver (R195) -/

/-- The byte that starts a frame (R195). -/
def frameStart : Byte := 0xA5#8

/-- The type byte of a request (Frame). -/
def requestType : Byte := 1#8

/-- More than this many milliseconds between two bytes of a frame abandon it (R195). -/
def gapMax : Nat := 50

/-- A link's receiver becomes `r`. -/
def State.setReceiver (s : State) (l : Link) (r : Receiver) : State := s.setLink l { s.link l with rx := r }

/-- A byte judged in HUNTING (R195). -/
def huntByte (l : Link) (b : Byte) (s : State) : State :=
  s.setReceiver l (if b = frameStart then .inFrame [] 0 else .hunting)

/-- The length byte of a frame, from the bytes after 0xA5. -/
def frameLength (got : List Byte) : Nat := fieldU got 0 1

/-- A whole frame after 0xA5 is a request whose CRC matches (R195). -/
def frameIsRequest (got : List Byte) : Bool :=
  let n := frameLength got
  fieldU got (n + 2) 2 == (crc16 (got.take (n + 2))).toNat && got.getD 1 0#8 == requestType

/-- The payload of a whole frame after 0xA5. -/
def framePayload (got : List Byte) : List Byte := (got.drop 2).take (frameLength got)

/-- The bytes of a frame after 0xA5, with the byte just received last: abandoned at a length above 240, judged when its
second CRC byte is in, collected otherwise (R195). -/
def frameByte (l : Link) (got : List Byte) (s : State) : State :=
  if payloadMax < frameLength got then s.setReceiver l .hunting
  else if got.length = frameLength got + 4 then
    let s' := s.setReceiver l .hunting
    if frameIsRequest got then requestArrives l (framePayload got) s' else s'
  else s.setReceiver l (.inFrame got 0)

/-- A byte arrives on a link's receiver that is not in reset (R195). -/
def takeByte (l : Link) (b : Byte) (s : State) : State :=
  match (s.link l).rx with
  | .hunting => huntByte l b s
  | .inFrame got gap => if gapMax < gap then huntByte l b s else frameByte l (got ++ [b]) s

/-- A byte arrives on a link's receiver (R195); while the reset input is held it is discarded (R207). -/
def receiveByte (l : Link) (b : Byte) (s : State) : State := unlessHeld (takeByte l b) s

/-- The frame in progress is abandoned (R195). -/
def abandonFrame (l : Link) (s : State) : State :=
  match (s.link l).rx with
  | .inFrame _ _ => s.setReceiver l .hunting
  | .hunting => s

/-! ## The transmitter (R196, R201, R203) -/

/-- Whether a frame is a reply. -/
def Frame.isReply : Frame → Bool
  | .reply .. => true
  | .notice _ => false
  | .shore _ => false

/-- A frame has been sent: the transmitter is FREE, a reply sent in full ends the current request, and the waiting request
is taken where the link is free (R196, R197). -/
def frameSent (l : Link) (s : State) : State :=
  match (s.link l).tx with
  | some f =>
    let x := s.link l
    serve l (s.setLink l { x with tx := none, current := if f.isReply then none else x.current })
  | none => s

/-- A notice may be sent on a link: FREE, no current and no waiting request, and no commit running (R201, R203). -/
def noticeMay (l : Link) (s : State) : Bool := linkFree l s && (s.link l).waiting.isNone

/-- The kinds in the order of priority (R200). -/
def noticeKinds : List NoticeKind :=
  [.breach, .stop, .valve, .transfer, .pour, .gauge, .sequence, .change, .limit, .condition]

/-- The pending kind of highest priority with its detail (R201). -/
def nextNotice (s : State) : Option (NoticeKind × Detail) :=
  noticeKinds.findSome? fun k => (s.links.notices.get k.place).map fun d => (k, d)

/-- The ship notice of highest priority is handed to the transmitter and leaves the set (R201). -/
def sendShipNotice (s : State) : State :=
  match nextNotice s with
  | some (k, d) =>
    if noticeMay .ship s then
      let s' := clearNotice s k
      s'.setLink .ship { s'.link .ship with tx := some (.notice d) }
    else s
  | none => s

/-- The front notice of the shore queue is handed to the transmitter and leaves the queue (R203). -/
def sendShoreNotice (s : State) : State :=
  match s.links.queue with
  | n :: rest =>
    if noticeMay .shore s then
      let s' : State := { s with links := { s.links with queue := rest } }
      s'.setLink .shore { s'.link .shore with tx := some (.shore n) }
    else s
  | [] => s

/-! ## The bytes of a frame (Frame; R196) -/

/-- A notice kind's mnemonic (R200). -/
def NoticeKind.letters : NoticeKind → List Byte
  | .breach => bytesOf [0x4E, 0x42, 0x52, 0x43] | .stop => bytesOf [0x4E, 0x53, 0x54, 0x50]
  | .valve => bytesOf [0x4E, 0x56, 0x4C, 0x56] | .transfer => bytesOf [0x4E, 0x58, 0x46, 0x52]
  | .pour => bytesOf [0x4E, 0x50, 0x4F, 0x55] | .gauge => bytesOf [0x4E, 0x47, 0x41, 0x55]
  | .sequence => bytesOf [0x4E, 0x53, 0x45, 0x51] | .change => bytesOf [0x4E, 0x43, 0x48, 0x47]
  | .limit => bytesOf [0x4E, 0x4C, 0x49, 0x4D] | .condition => bytesOf [0x4E, 0x43, 0x4E, 0x44]

/-- A shore notice's mnemonic (R158). -/
def ShoreNotice.letters : ShoreNotice → List Byte
  | .pmit .. => bytesOf [0x50, 0x4D, 0x49, 0x54]
  | .phld .. => bytesOf [0x50, 0x48, 0x4C, 0x44]
  | .pres .. => bytesOf [0x50, 0x52, 0x45, 0x53]

/-- The fields a shore notice carries (R158). -/
def ShoreNotice.items : ShoreNotice → List Item
  | .pmit pour hold allowed => [natItem pour, natItem hold, natItem allowed]
  | .phld pour hold set => [natItem pour, natItem hold, .reasons set]
  | .pres pour hold => [natItem pour, natItem hold]

/-- The reply code's number (Frame). -/
def ReplyCode.number : ReplyCode → Nat
  | .done => 0 | .unknown => 1 | .length => 2 | .range => 3 | .state => 4 | .busy => 5 | .data => 6 | .console => 7
  | .valve => 8

/-- The CRC bytes of a frame's bytes after 0xA5 (R195, R196). -/
def crcBytes (bs : List Byte) : List Byte := toBE (crc16 bs).toNat 2

/-- A frame around a type and a payload (Frame). -/
def frameAround (type : Nat) (payload : List Byte) : List Byte :=
  let body := toBE payload.length 1 ++ toBE type 1 ++ payload
  frameStart :: body ++ crcBytes body

/-- The frame of a reply (Frame). Its data's coding, where no layout is given, is that of its mnemonic (log entry 7). -/
def replyFrame (mnemonic : List Byte) (code : ReplyCode) (status : Byte) (data : List Item) : List Byte :=
  frameAround 2 (mnemonic ++ toBE code.number 1 ++ status :: itemsBytes (beNat mnemonic) 0 data)

/-- A limit flag set as items: DRAFT, TRIM and the twelve AIR_DRAFT flags. -/
def LimitFlags.items (f : LimitFlags) : List Item := .flag f.draft :: .flag f.trim :: f.air.cells.map Item.flag

/-- The event of a POUR notice (R158, R166, R203). -/
def PourEvent.items : PourEvent → List Item
  | .permit => [natItem 0]
  | .held => [natItem 1]
  | .resumed => [natItem 2]
  | .started => [natItem 3]
  | .ended recorded => [natItem 4, .flag recorded]
  | .refused m => [natItem 5, .mnemonic m]
  | .planDone => [natItem 6]
  | .exchange => [natItem 7]
  | .shoreLost n => natItem 8 :: .raw n.letters :: n.items.take 1

/-- The items of a notice's detail. -/
def Detail.items : Detail → List Item
  | .breach seq m src cp => [natItem seq, natItem m, .stressSource src, natItem cp]
  | .stop cause number => [.latchCause cause, natItem number]
  | .valve ch cause fb d => [natItem ch, .valveFault cause, .feedback fb, driverItem d]
  | .transfer d tank owner reason notClosed v₀ v₁ metered =>
    [.driver d, natItem tank, ownerItem owner, reasonItem reason, .flag notClosed, natItem v₀, natItem v₁, natOr metered]
  | .targetReached d tank owner mass => [.driver d, natItem tank, ownerItem owner, natItem mass, .targetReached]
  | .pour event st pair set =>
    event.items ++ [.trackerState st, natOr (pair.map Prod.fst), natOr (pair.map Prod.snd), .reasons set]
  | .gauge comp st fault count => [natItem comp, .gaugeState st, faultKindItem fault, natItem count]
  | .sequence st pointer kind why detail passes =>
    [.seqState st, natItem pointer, natItem kind, .suspendReason why, .suspendDetail detail, natItem passes]
  | .change comp diff => [natItem comp, .num diff]
  | .limit seq flags changed caution cautionChanged clearances =>
    natItem seq :: flags.items ++ .flag caution :: changed.items ++ .flag cautionChanged ::
      clearances.flatMap fun c => [natItem c.1, intOr c.2]
  | .condition seq => [natItem seq]

/-- The frame of a notice (Frame). -/
def noticeFrame (letters : List Byte) (items : List Item) : List Byte :=
  frameAround 3 (letters ++ itemsBytes (beNat letters) 0 items)

/-- The bytes of a frame the part sends, from 0xA5 to the last CRC byte (Frame, R196). -/
def Frame.bytes : Frame → List Byte
  | .reply mnemonic code status data => replyFrame mnemonic code status data
  | .notice d => noticeFrame d.kind.letters d.items
  | .shore n => noticeFrame n.letters n.items

end Sys2Proof.Machine
end

