-- ==== Sys2Proof/Machine/Reset.lean ====
section
/-! DEFINITION. The hardware reset (R207): every block takes the hardware-reset values of its chapter. -/

namespace Sys2Proof.Machine

/-- The link rate that the straps select; a strap is true when closed (R196). -/
def rateOf (strapA strapB : Bool) : LinkRate :=
  match strapA, strapB with
  | false, false => .baud9600
  | true, false => .baud19200
  | false, true => .baud38400
  | true, true => .baud115200

/-- Every valve record adopted from its feedback, with the hand-set flag clear (R101). -/
def adoptValves (i : Inputs) : Tab 38 Valve :=
  Tab.build 38 fun ch => Valve.shut.adopt (Feedback.ofLimits (i.openLimit.get ch) (i.closedLimit.get ch))

/-- The gauge records of the stored BALLAST rows, UNREAD (R40); the density stands at 0 until the end of verification (log
entry 15). -/
def resetRecs (T : Tables) : Tab 48 (Option GaugeRec) :=
  Tab.build 48 fun c => if T.isBallast c then some (GaugeRec.unread 0) else none

/-- The store after a hardware reset: the tables, the checksum and the fault record are kept, the data state is CHECKING,
and no table is selected (R2, R11, R15). -/
def resetStore (d : Store) : Store :=
  { d with dataState := .checking, cause := none, window := none, committing := false }

/-- Every block at its hardware-reset values. What the part keeps are the tables with their checksum and fault record, the link
rate, which is read when the reset ends, and the levels of its inputs (R2, R207). -/
def resetBlocks (s : State) : State :=
  { State.reset with
    store := resetStore s.store
    gauge := { State.reset.gauge with recs := resetRecs s.store.tables }
    xfer := { State.reset.xfer with valves := adoptValves s.inputs }
    links := { State.reset.links with rate := s.links.rate }
    inputs := s.inputs
    pending := s.pending }

/-- The reset input and the straps take levels. -/
def setResetInputs (held strapA strapB : Bool) (s : State) : State :=
  { s with inputs := { s.inputs with strapA := strapA, strapB := strapB, reset := held } }

/-- The reset ends: the link rate is read from the straps, and a request input that is raised is taken as a rise (R179,
R196, R207). -/
def endReset (s : State) : State :=
  let s' : State := { s with links := { s.links with rate := rateOf s.inputs.strapA s.inputs.strapB } }
  if s'.inputs.consoleRequest then requestRises s' else s'

/-- The hardware reset. While the reset input is held every output is off, no frame is sent and what arrives is discarded
(R207); the model gives every block its reset values from the assertion on (log entry 2). -/
def resetPart (held strapA strapB : Bool) (s : State) : State :=
  let s' := resetBlocks (setResetInputs held strapA strapB s)
  if held then s' else endReset s'

end Sys2Proof.Machine
end

