-- ==== Sys2Proof/Machine/Commands.lean ====
section
/-! DEFINITION. The meaning of every command: what each row of the opcode table does to the part. A request is the arrival of
its whole frame at a link (log entry 5). A completion or an expiry has its effect where the part has the thing that ends, and
otherwise changes nothing (log entry 6). -/

namespace Sys2Proof.Machine

/-! ## The events of the part -/

/-- The running feedback of a pump takes a level (R104). -/
def setFeedback (p : Pump) (b : Bool) (s : State) : State := { s with inputs := s.inputs.setRunning p b }

/-- A commit running ends with its reply, and a request waiting on the shore link is then taken (R17, R197). -/
def commitEnds (s : State) : State := if s.store.committing then serve .shore (completeCommit s) else s

/-- An answer within the window that names the polled slot yields the slot's reading; any other is discarded (R23). -/
def acceptAnswer (a : SensorAnswer) (s : State) : State :=
  if s.gauge.poll.isSome then
    match answerReading s.gauge.slot a with
    | some r => takeReading r s
    | none => s
  else s

/-- The priming countdown runs out (R48). -/
def primingExpires (p : Pump) (s : State) : State :=
  if (s.pumpMeter p).phase = .priming then settle s (endEvent p.driver .noFlow (phaseOff p.driver s)) else s

/-- The no-flow countdown has run out, with the end reason of R49. A pulse taken first has reloaded the countdown, and the
expiry does not happen (R50; log entry 6). -/
def flowExpires (p : Pump) (s : State) : State :=
  if (s.pumpMeter p).phase = .flowWatch ∧ (s.pumpMeter p).countdown = 0 then
    settle s (endEvent p.driver (noFlowReason s (s.transfer p.driver)) (phaseOff p.driver s))
  else s

/-- The states in which running feedback is judged: PRIMING and RUNNING (R104). -/
def XferState.pumping : XferState → Bool
  | .priming | .running => true
  | .idle | .opening | .closing | .handedOver => false

/-- A fall of the running feedback from present to absent (R104). -/
def feedbackFalls (p : Pump) (s : State) : State :=
  let s1 := setFeedback p false s
  if s.inputs.running p ∧ (s.transfer p.driver).state.pumping then settle s (endEvent p.driver .pumpTrip s1) else s1

/-- A change of a valve's limit inputs: an assigned valve is judged (R96 to R99). -/
def limitsChange (ch : Nat) (openMade closedMade : Bool) (s : State) : State :=
  let s1 := s.setLimitInputs ch openMade closedMade
  if assigned s ch then settle s (judgeLimits s s1 ch) else s1

/-- The travel countdown of a valve in travel runs out: FAULT STUCK (R98). -/
def travelExpires (ch : Nat) (s : State) : State :=
  if (s.valve ch).state.moving then settle s (valveFails ch .stuck s) else s

/-- The interval countdown of the START in hand runs out: a RUNNING Sequencer judges its leaving conditions (R128). -/
def intervalExpires (s : State) : State :=
  let s1 := s.setCore { s.seq.core with interval := 0 }
  match s.seq.core.state, s.seq.core.progress with
  | .running, some _ => judgeGrant (walk s1)
  | .suspending, some _ => s1
  | _, _ => s

/-- The dwell countdown runs out: the pointer moves on (R132). -/
def dwellExpires (s : State) : State :=
  if s.seq.core.state = .running ∧ s.seq.core.wait = .dwell then
    judgeGrant (moveOn (s.setCore { s.seq.core with dwell := 0 }))
  else s

/-- The ack countdown runs out in HOLD_REQUESTED (R162). -/
def ackRunsOut (s : State) : State :=
  match s.tracker.state, s.tracker.cur, s.tracker.ack with
  | .holdRequested, some p, some _ => ackExpires p s
  | _, _, _ => s

/-- A refresh in flight completes where its condition may be published (R69); until then it stays in flight (log entry 29). -/
def refreshEnds (s : State) : State :=
  match s.engine.job with
  | some { task := .refresh, working := [c], .. } => if publishMay s then completeRefresh c s else s
  | _ => s

/-- A projection in flight completes (R74). -/
def projectionEnds (s : State) : State :=
  match s.engine.job with
  | some { task := .projection req void, snapshot := snap, working := [a, b], pubSeq := n } =>
    completeProjection { task := .projection req void, snapshot := snap, working := [a, b], pubSeq := n } req void a b s
  | _ => s

/-- The console request input takes a level. -/
def setRequest (b : Bool) (s : State) : State := { s with inputs := { s.inputs with consoleRequest := b } }

/-- The console request rises: in AUTO it is taken, in RECONCILING it is held (R171, R177). While the reset input is held the
level alone changes, and it is taken when the reset ends (R207). -/
def consoleRises (s : State) : State :=
  match s.console.state with
  | .auto => unlessHeld requestRises (setRequest true s)
  | .requested | .granted | .reconciling => setRequest true s

/-- The console request drops: REQUESTED returns to AUTO, and GRANTED is released (R171, R174). -/
def consoleDrops (s : State) : State :=
  let s1 := setRequest false s
  match s.console.state with
  | .requested => s1.setConsole { s1.console with state := .auto }
  | .granted => releaseConsole s1
  | .auto | .reconciling => s1

/-! ## The commands, in the order of the opcode table -/

/-- HARDWARE_RESET (R207). -/
def execHardwareReset (held : Bool) (straps : Straps) (s : State) : Host.Outcome State Fault Refusal :=
  .next (resetPart held straps.a straps.b s)

/-- VERIFICATION_END (R21). -/
def execVerificationEnd (s : State) : Host.Outcome State Fault Refusal :=
  .next (unlessHeld (fun s => if s.store.dataState = .checking then endVerification s else s) s)

/-- FRAME_BYTE_RECEIVED (R195). -/
def execFrameByteReceived (link : Link) (byte : Byte) (s : State) : Host.Outcome State Fault Refusal :=
  .next (receiveByte link byte s)

/-- BYTE_GAP_EXPIRY (R195). -/
def execByteGapExpiry (link : Link) (s : State) : Host.Outcome State Fault Refusal :=
  .next (abandonFrame link s)

/-- TRANSMIT_FRAME_END (R196). -/
def execTransmitFrameEnd (link : Link) (s : State) : Host.Outcome State Fault Refusal :=
  .next (frameSent link s)

/-- SHIP_NOTICE_SEND (R201). -/
def execShipNoticeSend (s : State) : Host.Outcome State Fault Refusal :=
  .next (sendShipNotice s)

/-- SHORE_NOTICE_SEND (R203). -/
def execShoreNoticeSend (s : State) : Host.Outcome State Fault Refusal :=
  .next (sendShoreNotice s)

/-- WSEL (R12). -/
def execWsel (link : Link) (args : List Byte) (s : State) : Host.Outcome State Fault Refusal :=
  .next (presentRequest link .wsel args s)

/-- WPUT (R13). -/
def execWput (link : Link) (args : List Byte) (s : State) : Host.Outcome State Fault Refusal :=
  .next (presentRequest link .wput args s)

/-- WGET (R14). -/
def execWget (link : Link) (args : List Byte) (s : State) : Host.Outcome State Fault Refusal :=
  .next (presentRequest link .wget args s)

/-- SDCM (R17). -/
def execSdcm (link : Link) (args : List Byte) (s : State) : Host.Outcome State Fault Refusal :=
  .next (presentRequest link .sdcm args s)

/-- COMMIT_COMPLETE (R19). -/
def execCommitComplete (s : State) : Host.Outcome State Fault Refusal :=
  .next (commitEnds s)

/-- SMSK (R24). -/
def execSmsk (link : Link) (args : List Byte) (s : State) : Host.Outcome State Fault Refusal :=
  .next (presentRequest link .smsk args s)

/-- TDEN (R33). -/
def execTden (link : Link) (args : List Byte) (s : State) : Host.Outcome State Fault Refusal :=
  .next (presentRequest link .tden args s)

/-- TANK (R39). -/
def execTank (link : Link) (args : List Byte) (s : State) : Host.Outcome State Fault Refusal :=
  .next (presentRequest link .tank args s)

/-- METR (R52). -/
def execMetr (link : Link) (args : List Byte) (s : State) : Host.Outcome State Fault Refusal :=
  .next (presentRequest link .metr args s)

/-- COND (R77). -/
def execCond (link : Link) (args : List Byte) (s : State) : Host.Outcome State Fault Refusal :=
  .next (presentRequest link .cond args s)

/-- PROJ (R78). -/
def execProj (link : Link) (args : List Byte) (s : State) : Host.Outcome State Fault Refusal :=
  .next (presentRequest link .proj args s)

/-- FIXM (R76). -/
def execFixm (link : Link) (args : List Byte) (s : State) : Host.Outcome State Fault Refusal :=
  .next (presentRequest link .fixm args s)

/-- LIMS (R93). -/
def execLims (link : Link) (args : List Byte) (s : State) : Host.Outcome State Fault Refusal :=
  .next (presentRequest link .lims args s)

/-- TIDE (R82). -/
def execTide (link : Link) (args : List Byte) (s : State) : Host.Outcome State Fault Refusal :=
  .next (presentRequest link .tide args s)

/-- STPR (R91). -/
def execStpr (link : Link) (args : List Byte) (s : State) : Host.Outcome State Fault Refusal :=
  .next (presentRequest link .stpr args s)

/-- XSTA (R109). -/
def execXsta (link : Link) (args : List Byte) (s : State) : Host.Outcome State Fault Refusal :=
  .next (presentRequest link .xsta args s)

/-- XSTP (R118). -/
def execXstp (link : Link) (args : List Byte) (s : State) : Host.Outcome State Fault Refusal :=
  .next (presentRequest link .xstp args s)

/-- XFER (R119). -/
def execXfer (link : Link) (args : List Byte) (s : State) : Host.Outcome State Fault Refusal :=
  .next (presentRequest link .xfer args s)

/-- VALV (R102). -/
def execValv (link : Link) (args : List Byte) (s : State) : Host.Outcome State Fault Refusal :=
  .next (presentRequest link .valv args s)

/-- VCLR (R103). -/
def execVclr (link : Link) (args : List Byte) (s : State) : Host.Outcome State Fault Refusal :=
  .next (presentRequest link .vclr args s)

/-- SQXC (R139). -/
def execSqxc (link : Link) (args : List Byte) (s : State) : Host.Outcome State Fault Refusal :=
  .next (presentRequest link .sqxc args s)

/-- SQGO (R135). -/
def execSqgo (link : Link) (args : List Byte) (s : State) : Host.Outcome State Fault Refusal :=
  .next (presentRequest link .sqgo args s)

/-- SQPS (R136). -/
def execSqps (link : Link) (args : List Byte) (s : State) : Host.Outcome State Fault Refusal :=
  .next (presentRequest link .sqps args s)

/-- SQRS (R137). -/
def execSqrs (link : Link) (args : List Byte) (s : State) : Host.Outcome State Fault Refusal :=
  .next (presentRequest link .sqrs args s)

/-- SQAB (R138). -/
def execSqab (link : Link) (args : List Byte) (s : State) : Host.Outcome State Fault Refusal :=
  .next (presentRequest link .sqab args s)

/-- SEQQ (R145). -/
def execSeqq (link : Link) (args : List Byte) (s : State) : Host.Outcome State Fault Refusal :=
  .next (presentRequest link .seqq args s)

/-- OPBG (R148). -/
def execOpbg (link : Link) (args : List Byte) (s : State) : Host.Outcome State Fault Refusal :=
  .next (presentRequest link .opbg args s)

/-- OPND (R149). -/
def execOpnd (link : Link) (args : List Byte) (s : State) : Host.Outcome State Fault Refusal :=
  .next (presentRequest link .opnd args s)

/-- PLXC (R151). -/
def execPlxc (link : Link) (args : List Byte) (s : State) : Host.Outcome State Fault Refusal :=
  .next (presentRequest link .plxc args s)

/-- POUR (R167). -/
def execPour (link : Link) (args : List Byte) (s : State) : Host.Outcome State Fault Refusal :=
  .next (presentRequest link .pour args s)

/-- PHIS (R168). -/
def execPhis (link : Link) (args : List Byte) (s : State) : Host.Outcome State Fault Refusal :=
  .next (presentRequest link .phis args s)

/-- HSET (R165). -/
def execHset (link : Link) (args : List Byte) (s : State) : Host.Outcome State Fault Refusal :=
  .next (presentRequest link .hset args s)

/-- LPST (R159). -/
def execLpst (link : Link) (args : List Byte) (s : State) : Host.Outcome State Fault Refusal :=
  .next (presentRequest link .lpst args s)

/-- LTAL (R160). -/
def execLtal (link : Link) (args : List Byte) (s : State) : Host.Outcome State Fault Refusal :=
  .next (presentRequest link .ltal args s)

/-- LPND (R161). -/
def execLpnd (link : Link) (args : List Byte) (s : State) : Host.Outcome State Fault Refusal :=
  .next (presentRequest link .lpnd args s)

/-- LHAK (R162). -/
def execLhak (link : Link) (args : List Byte) (s : State) : Host.Outcome State Fault Refusal :=
  .next (presentRequest link .lhak args s)

/-- RPTB (R190). -/
def execRptb (link : Link) (args : List Byte) (s : State) : Host.Outcome State Fault Refusal :=
  .next (presentRequest link .rptb args s)

/-- RPTG (R192). -/
def execRptg (link : Link) (args : List Byte) (s : State) : Host.Outcome State Fault Refusal :=
  .next (presentRequest link .rptg args s)

/-- DLOG (R193). -/
def execDlog (link : Link) (args : List Byte) (s : State) : Host.Outcome State Fault Refusal :=
  .next (presentRequest link .dlog args s)

/-- STAT (R206). -/
def execStat (link : Link) (args : List Byte) (s : State) : Host.Outcome State Fault Refusal :=
  .next (presentRequest link .stat args s)

/-- NTEN (R202). -/
def execNten (link : Link) (args : List Byte) (s : State) : Host.Outcome State Fault Refusal :=
  .next (presentRequest link .nten args s)

/-- CLKS (R205). -/
def execClks (link : Link) (args : List Byte) (s : State) : Host.Outcome State Fault Refusal :=
  .next (presentRequest link .clks args s)

/-- RSTR (R208). -/
def execRstr (link : Link) (args : List Byte) (s : State) : Host.Outcome State Fault Refusal :=
  .next (presentRequest link .rstr args s)

/-- SENSOR_ANSWER (R23). -/
def execSensorAnswer (answer : SensorAnswer) (s : State) : Host.Outcome State Fault Refusal :=
  .next (acceptAnswer answer s)

/-- REPLY_WINDOW_EXPIRY (R23). -/
def execReplyWindowExpiry (s : State) : Host.Outcome State Fault Refusal :=
  .next (if s.gauge.poll.isSome then takeReading (.fault .noReply) s else s)

/-- SWEEP_COUNTDOWN_EXPIRY (R22). -/
def execSweepCountdownExpiry (s : State) : Host.Outcome State Fault Refusal :=
  .next (if s.gauge.countdown.isSome then finishSweep s else s)

/-- METER_PULSE (R42). -/
def execMeterPulse (pump : Pump) (s : State) : Host.Outcome State Fault Refusal :=
  .next (unlessHeld (fun s => settle s (takePulse pump s)) s)

/-- SECOND_BOUNDARY (R43). A command given off a tenth tick is a whole second boundary beside the time base's own, and leaves the
milliseconds as they stand (DESIGN CHOICE, log entry 43). -/
def execSecondBoundary (s : State) : Host.Outcome State Fault Refusal :=
  .next (unlessHeld secondBoundary s)

/-- PRIMING_EXPIRY (R48). -/
def execPrimingExpiry (pump : Pump) (s : State) : Host.Outcome State Fault Refusal :=
  .next (primingExpires pump s)

/-- NO_FLOW_EXPIRY (R49). -/
def execNoFlowExpiry (pump : Pump) (s : State) : Host.Outcome State Fault Refusal :=
  .next (flowExpires pump s)

/-- RUNNING_FEEDBACK_FALL (R104). -/
def execRunningFeedbackFall (pump : Pump) (s : State) : Host.Outcome State Fault Refusal :=
  .next (feedbackFalls pump s)

/-- LIMIT_INPUT_CHANGE (R97). -/
def execLimitInputChange (channel : Fin 38) (openMade closedMade : Bool) (s : State) : Host.Outcome State Fault Refusal :=
  .next (limitsChange channel.val openMade closedMade s)

/-- VALVE_TRAVEL_EXPIRY (R98). -/
def execValveTravelExpiry (channel : Fin 38) (s : State) : Host.Outcome State Fault Refusal :=
  .next (travelExpires channel.val s)

/-- INTERVAL_EXPIRY (R128). -/
def execIntervalExpiry (s : State) : Host.Outcome State Fault Refusal :=
  .next (intervalExpires s)

/-- DWELL_EXPIRY (R132). -/
def execDwellExpiry (s : State) : Host.Outcome State Fault Refusal :=
  .next (dwellExpires s)

/-- ACK_EXPIRY (R162). -/
def execAckExpiry (s : State) : Host.Outcome State Fault Refusal :=
  .next (ackRunsOut s)

/-- REFRESH_COMPLETE (R69). -/
def execRefreshComplete (s : State) : Host.Outcome State Fault Refusal :=
  .next (refreshEnds s)

/-- PROJECTION_COMPLETE (R74). -/
def execProjectionComplete (s : State) : Host.Outcome State Fault Refusal :=
  .next (projectionEnds s)

/-- CONSOLE_REQUEST_RISE (R171). -/
def execConsoleRequestRise (s : State) : Host.Outcome State Fault Refusal :=
  .next (consoleRises s)

/-- CONSOLE_REQUEST_DROP (R174). -/
def execConsoleRequestDrop (s : State) : Host.Outcome State Fault Refusal :=
  .next (consoleDrops s)

/-- RUNNING_FEEDBACK_RISE (R104). -/
def execRunningFeedbackRise (pump : Pump) (s : State) : Host.Outcome State Fault Refusal :=
  .next (setFeedback pump true s)

end Sys2Proof.Machine
end

