-- ==== Sys2Proof/Machine/Dispatch.lean ====
section
/-! DEFINITION. One arm per command: the meaning of each row of the opcode table. -/

namespace Sys2Proof.Machine

def exec (i : Instr) (s : State) : Host.Outcome State Fault Refusal :=
  match i with
  | .hardwareReset held straps => Sys2Proof.Machine.execHardwareReset held straps s
  | .verificationEnd => Sys2Proof.Machine.execVerificationEnd s
  | .frameByteReceived link byte => Sys2Proof.Machine.execFrameByteReceived link byte s
  | .byteGapExpiry link => Sys2Proof.Machine.execByteGapExpiry link s
  | .transmitFrameEnd link => Sys2Proof.Machine.execTransmitFrameEnd link s
  | .shipNoticeSend => Sys2Proof.Machine.execShipNoticeSend s
  | .shoreNoticeSend => Sys2Proof.Machine.execShoreNoticeSend s
  | .wsel link args => Sys2Proof.Machine.execWsel link args s
  | .wput link args => Sys2Proof.Machine.execWput link args s
  | .wget link args => Sys2Proof.Machine.execWget link args s
  | .sdcm link args => Sys2Proof.Machine.execSdcm link args s
  | .commitComplete => Sys2Proof.Machine.execCommitComplete s
  | .smsk link args => Sys2Proof.Machine.execSmsk link args s
  | .tden link args => Sys2Proof.Machine.execTden link args s
  | .tank link args => Sys2Proof.Machine.execTank link args s
  | .metr link args => Sys2Proof.Machine.execMetr link args s
  | .cond link args => Sys2Proof.Machine.execCond link args s
  | .proj link args => Sys2Proof.Machine.execProj link args s
  | .fixm link args => Sys2Proof.Machine.execFixm link args s
  | .lims link args => Sys2Proof.Machine.execLims link args s
  | .tide link args => Sys2Proof.Machine.execTide link args s
  | .stpr link args => Sys2Proof.Machine.execStpr link args s
  | .xsta link args => Sys2Proof.Machine.execXsta link args s
  | .xstp link args => Sys2Proof.Machine.execXstp link args s
  | .xfer link args => Sys2Proof.Machine.execXfer link args s
  | .valv link args => Sys2Proof.Machine.execValv link args s
  | .vclr link args => Sys2Proof.Machine.execVclr link args s
  | .sqxc link args => Sys2Proof.Machine.execSqxc link args s
  | .sqgo link args => Sys2Proof.Machine.execSqgo link args s
  | .sqps link args => Sys2Proof.Machine.execSqps link args s
  | .sqrs link args => Sys2Proof.Machine.execSqrs link args s
  | .sqab link args => Sys2Proof.Machine.execSqab link args s
  | .seqq link args => Sys2Proof.Machine.execSeqq link args s
  | .opbg link args => Sys2Proof.Machine.execOpbg link args s
  | .opnd link args => Sys2Proof.Machine.execOpnd link args s
  | .plxc link args => Sys2Proof.Machine.execPlxc link args s
  | .pour link args => Sys2Proof.Machine.execPour link args s
  | .phis link args => Sys2Proof.Machine.execPhis link args s
  | .hset link args => Sys2Proof.Machine.execHset link args s
  | .lpst link args => Sys2Proof.Machine.execLpst link args s
  | .ltal link args => Sys2Proof.Machine.execLtal link args s
  | .lpnd link args => Sys2Proof.Machine.execLpnd link args s
  | .lhak link args => Sys2Proof.Machine.execLhak link args s
  | .rptb link args => Sys2Proof.Machine.execRptb link args s
  | .rptg link args => Sys2Proof.Machine.execRptg link args s
  | .dlog link args => Sys2Proof.Machine.execDlog link args s
  | .stat link args => Sys2Proof.Machine.execStat link args s
  | .nten link args => Sys2Proof.Machine.execNten link args s
  | .clks link args => Sys2Proof.Machine.execClks link args s
  | .rstr link args => Sys2Proof.Machine.execRstr link args s
  | .sensorAnswer answer => Sys2Proof.Machine.execSensorAnswer answer s
  | .replyWindowExpiry => Sys2Proof.Machine.execReplyWindowExpiry s
  | .sweepCountdownExpiry => Sys2Proof.Machine.execSweepCountdownExpiry s
  | .meterPulse pump => Sys2Proof.Machine.execMeterPulse pump s
  | .secondBoundary => Sys2Proof.Machine.execSecondBoundary s
  | .primingExpiry pump => Sys2Proof.Machine.execPrimingExpiry pump s
  | .noFlowExpiry pump => Sys2Proof.Machine.execNoFlowExpiry pump s
  | .runningFeedbackFall pump => Sys2Proof.Machine.execRunningFeedbackFall pump s
  | .limitInputChange channel openMade closedMade => Sys2Proof.Machine.execLimitInputChange channel openMade closedMade s
  | .valveTravelExpiry channel => Sys2Proof.Machine.execValveTravelExpiry channel s
  | .intervalExpiry => Sys2Proof.Machine.execIntervalExpiry s
  | .dwellExpiry => Sys2Proof.Machine.execDwellExpiry s
  | .ackExpiry => Sys2Proof.Machine.execAckExpiry s
  | .refreshComplete => Sys2Proof.Machine.execRefreshComplete s
  | .projectionComplete => Sys2Proof.Machine.execProjectionComplete s
  | .consoleRequestRise => Sys2Proof.Machine.execConsoleRequestRise s
  | .consoleRequestDrop => Sys2Proof.Machine.execConsoleRequestDrop s
  | .runningFeedbackRise pump => Sys2Proof.Machine.execRunningFeedbackRise pump s

end Sys2Proof.Machine
end

