-- ==== Sys2Proof/Machine/Time.lean ====
section
/-! DEFINITION. What passes while no command waits (R204; log entries 1 and 22): one millisecond of the time base with the
windows it times, the tick of every hundredth, the second boundary of every tenth tick, and the commands that fall due. -/

namespace Sys2Proof.Machine

/-- One less of a countdown that may be off. -/
def countDown : Option Nat → Option Nat := Option.map Nat.pred

/-- One millisecond of a receiver's byte gap (R195). -/
def Receiver.wait : Receiver → Receiver
  | .hunting => .hunting
  | .inFrame got gap => .inFrame got (gap + 1)

/-- One millisecond of the windows timed in milliseconds: the byte gaps and the reply window (R204). -/
def passWindows (s : State) : State :=
  let s1 := s.setReceiver .ship s.links.ship.rx.wait
  let s2 := s1.setReceiver .shore s1.links.shore.rx.wait
  s2.setGauging { s2.gauge with poll := countDown s2.gauge.poll }

/-- One tick of a valve in travel (R97). -/
def Valve.tick (v : Valve) : Valve := if v.state.moving then { v with countdown := v.countdown - 1 } else v

/-- One tick of a pump's no-flow countdown (R47). -/
def PumpMeter.tick (m : PumpMeter) : PumpMeter := if m.phase = .off then m else { m with countdown := m.countdown - 1 }

/-- One tick of the Sequencer: the interval falls while RUNNING or SUSPENDING, the dwell while RUNNING (R128, R132). -/
def SeqCore.tick (c : SeqCore) : SeqCore :=
  match c.state with
  | .running => { c with interval := c.interval - 1, dwell := c.dwell - 1 }
  | .suspending => { c with interval := c.interval - 1 }
  | .empty | .ready | .suspended | .yielded | .complete => c

/-- The tick: every countdown of 0.1 s falls by one (R204). -/
def tick (s : State) : State :=
  let s1 : State := { s with xfer := { s.xfer with valves := s.xfer.valves.map Valve.tick } }
  let s2 := pumps.foldl (fun s p => s.setPumpMeter p (s.pumpMeter p).tick) s1
  let s3 := s2.setCore s2.seq.core.tick
  let s4 := s3.setTracker { s3.tracker with ack := countDown s3.tracker.ack }
  s4.setGauging { s4.gauge with countdown := countDown s4.gauge.countdown }

/-- The tick's period in milliseconds (R204). -/
def tickPeriod : Nat := 100

/-- The second boundary's period in milliseconds: ten ticks (R43, R204). -/
def secondPeriod : Nat := 1000

/-- The time base counts one millisecond. -/
def countMs (s : State) : State := { s with time := { s.time with ms := s.time.ms + 1 } }

/-- One millisecond of a part that is not in reset: the windows, and at its period the tick and the second boundary (R204). -/
def countTime (s : State) : State :=
  let s1 := passWindows (countMs s)
  let s2 := if s1.time.ms % tickPeriod = 0 then tick s1 else s1
  if s1.time.ms % secondPeriod = 0 then secondBoundary s2 else s2

/-- One millisecond passes. The time base counts from the end of a hardware reset (R204), so that nothing moves while the reset
input is held. -/
def passMillisecond (s : State) : State := unlessHeld countTime s

/-! ## What falls due (log entry 22) -/

/-- A frame abandoned by its gap (R195). -/
def dueGap (s : State) (l : Link) : Option Instr :=
  match (s.link l).rx with
  | .inFrame _ gap => if gapMax < gap then some (.byteGapExpiry l) else none
  | .hunting => none

/-- A reply window or a sweep countdown that has run out (R22, R23). -/
def dueSweep (s : State) : Option Instr :=
  if s.gauge.poll = some 0 then some .replyWindowExpiry
  else if s.gauge.countdown = some 0 then some .sweepCountdownExpiry
  else none

/-- The first valve in travel whose countdown has run out (R98). -/
def dueValve (s : State) : Option Instr :=
  ((List.finRange 38).find? fun ch => (s.valve ch.val).state.moving && (s.valve ch.val).countdown == 0).map
    Instr.valveTravelExpiry

/-- A pump's no-flow countdown that has run out (R48, R49). -/
def duePump (s : State) (p : Pump) : Option Instr :=
  let m := s.pumpMeter p
  if m.countdown ≠ 0 then none
  else
    match m.phase with
    | .off => none
    | .priming => some (.primingExpiry p)
    | .flowWatch => some (.noFlowExpiry p)

/-- The Sequencer's countdown that has run out (R128, R132). -/
def dueSeq (s : State) : Option Instr :=
  let c := s.seq.core
  match c.state, c.wait with
  | .running, .interval => if c.interval = 0 then some .intervalExpiry else none
  | .running, .dwell => if c.dwell = 0 then some .dwellExpiry else none
  | _, _ => none

/-- The ack countdown that has run out (R162). -/
def dueAck (s : State) : Option Instr :=
  if s.tracker.state = .holdRequested ∧ s.tracker.cur.isSome ∧ s.tracker.ack = some 0 then some .ackExpiry else none

/-- A notice that may be sent (R201, R203). -/
def dueNotice (s : State) : Option Instr :=
  if noticesPending s ∧ noticeMay .ship s then some .shipNoticeSend
  else if s.links.queue ≠ [] ∧ noticeMay .shore s then some .shoreNoticeSend
  else none

/-- The first command that the part itself owes: what has run out, then what may be sent (log entry 22). -/
def due (s : State) : Option Instr :=
  dueGap s .ship <|> dueGap s .shore <|> dueSweep s <|> dueValve s <|> duePump s .p0 <|> duePump s .p1 <|>
    duePump s .p2 <|> duePump s .p3 <|> dueSeq s <|> dueAck s <|> dueNotice s

end Sys2Proof.Machine
end

