-- ==== Sys2Proof/Machine/Step.lean ====
section
/-! DEFINITION. The step: the command at the front of the queue is taken, and while none waits the part takes what falls due,
or lets a millisecond pass (log entry 1). -/

namespace Sys2Proof.Machine

/-- What the part does while no command waits: what falls due is taken, else a millisecond passes (log entry 1). -/
def idle (s : State) : Host.Outcome State Fault Refusal :=
  match due s with
  | some c => exec c s
  | none => .next (passMillisecond s)

/-- One step: the command at the front of the queue, carried out with the queue's rest (log entry 1). -/
def step (s : State) : Host.Outcome State Fault Refusal :=
  match s.pending with
  | c :: rest => exec c { s with pending := rest }
  | [] => idle s

/-- `s` with the command that a word spells put at the front of its queue; unchanged where the word spells none, which is
every word, since the opcode table gives no row any bits (log entry 1). -/
def State.withFetchWord (s : State) (nbits w : Nat) : State :=
  match decodeTableWord nbits w with
  | some c => { s with pending := c :: s.pending }
  | none => s

end Sys2Proof.Machine
end

