-- ==== Sys2Proof/Safety.lean ====
section
/-! DEFINITION. The terms in which statements about the part are made: the request a command is, a link that takes a request,
the reply it gets, what an act does to a transfer, to a valve, to the sweep, to the tables in force and to the console, when a
start and a set of tables fail their checks, what falls due, runs of commands, and the invariants. -/

namespace Sys2Proof

/-- The request a command presents, with its link and its arguments; nothing for a command that is no request. -/
def Instr.request? : Instr → Option (Machine.Mnem × Link × List Byte)
  | .hardwareReset _ _ => none
  | .verificationEnd => none
  | .frameByteReceived _ _ => none
  | .byteGapExpiry _ => none
  | .transmitFrameEnd _ => none
  | .shipNoticeSend => none
  | .shoreNoticeSend => none
  | .wsel link args => some (.wsel, link, args)
  | .wput link args => some (.wput, link, args)
  | .wget link args => some (.wget, link, args)
  | .sdcm link args => some (.sdcm, link, args)
  | .commitComplete => none
  | .smsk link args => some (.smsk, link, args)
  | .tden link args => some (.tden, link, args)
  | .tank link args => some (.tank, link, args)
  | .metr link args => some (.metr, link, args)
  | .cond link args => some (.cond, link, args)
  | .proj link args => some (.proj, link, args)
  | .fixm link args => some (.fixm, link, args)
  | .lims link args => some (.lims, link, args)
  | .tide link args => some (.tide, link, args)
  | .stpr link args => some (.stpr, link, args)
  | .xsta link args => some (.xsta, link, args)
  | .xstp link args => some (.xstp, link, args)
  | .xfer link args => some (.xfer, link, args)
  | .valv link args => some (.valv, link, args)
  | .vclr link args => some (.vclr, link, args)
  | .sqxc link args => some (.sqxc, link, args)
  | .sqgo link args => some (.sqgo, link, args)
  | .sqps link args => some (.sqps, link, args)
  | .sqrs link args => some (.sqrs, link, args)
  | .sqab link args => some (.sqab, link, args)
  | .seqq link args => some (.seqq, link, args)
  | .opbg link args => some (.opbg, link, args)
  | .opnd link args => some (.opnd, link, args)
  | .plxc link args => some (.plxc, link, args)
  | .pour link args => some (.pour, link, args)
  | .phis link args => some (.phis, link, args)
  | .hset link args => some (.hset, link, args)
  | .lpst link args => some (.lpst, link, args)
  | .ltal link args => some (.ltal, link, args)
  | .lpnd link args => some (.lpnd, link, args)
  | .lhak link args => some (.lhak, link, args)
  | .rptb link args => some (.rptb, link, args)
  | .rptg link args => some (.rptg, link, args)
  | .dlog link args => some (.dlog, link, args)
  | .stat link args => some (.stat, link, args)
  | .nten link args => some (.nten, link, args)
  | .clks link args => some (.clks, link, args)
  | .rstr link args => some (.rstr, link, args)
  | .sensorAnswer _ => none
  | .replyWindowExpiry => none
  | .sweepCountdownExpiry => none
  | .meterPulse _ => none
  | .secondBoundary => none
  | .primingExpiry _ => none
  | .noFlowExpiry _ => none
  | .runningFeedbackFall _ => none
  | .limitInputChange _ _ _ => none
  | .valveTravelExpiry _ => none
  | .intervalExpiry => none
  | .dwellExpiry => none
  | .ackExpiry => none
  | .refreshComplete => none
  | .projectionComplete => none
  | .consoleRequestRise => none
  | .consoleRequestDrop => none
  | .runningFeedbackRise _ => none

/-- The command that presents a request of a mnemonic. -/
def Machine.Mnem.command : Machine.Mnem → Link → List Byte → Instr
  | .wsel, link, args => .wsel link args
  | .wput, link, args => .wput link args
  | .wget, link, args => .wget link args
  | .sdcm, link, args => .sdcm link args
  | .smsk, link, args => .smsk link args
  | .tden, link, args => .tden link args
  | .tank, link, args => .tank link args
  | .metr, link, args => .metr link args
  | .cond, link, args => .cond link args
  | .proj, link, args => .proj link args
  | .fixm, link, args => .fixm link args
  | .lims, link, args => .lims link args
  | .tide, link, args => .tide link args
  | .stpr, link, args => .stpr link args
  | .xsta, link, args => .xsta link args
  | .xstp, link, args => .xstp link args
  | .xfer, link, args => .xfer link args
  | .valv, link, args => .valv link args
  | .vclr, link, args => .vclr link args
  | .sqxc, link, args => .sqxc link args
  | .sqgo, link, args => .sqgo link args
  | .sqps, link, args => .sqps link args
  | .sqrs, link, args => .sqrs link args
  | .sqab, link, args => .sqab link args
  | .seqq, link, args => .seqq link args
  | .opbg, link, args => .opbg link args
  | .opnd, link, args => .opnd link args
  | .plxc, link, args => .plxc link args
  | .pour, link, args => .pour link args
  | .phis, link, args => .phis link args
  | .hset, link, args => .hset link args
  | .lpst, link, args => .lpst link args
  | .ltal, link, args => .ltal link args
  | .lpnd, link, args => .lpnd link args
  | .lhak, link, args => .lhak link args
  | .rptb, link, args => .rptb link args
  | .rptg, link, args => .rptg link args
  | .dlog, link, args => .dlog link args
  | .stat, link, args => .stat link args
  | .nten, link, args => .nten link args
  | .clks, link, args => .clks link args
  | .rstr, link, args => .rstr link args

end Sys2Proof

namespace Sys2Proof.Machine

/-! ## Requests and replies -/

/-- A link that takes a request presented to it at once: it holds no request, its transmitter is FREE, no commit runs, the data
state is not CHECKING, and the reset input is not held (R197, R198, R207). -/
abbrev Ready (l : Link) (s : State) : Prop :=
  (s.link l).waiting = none ∧ (s.link l).current = none ∧ (s.link l).tx = none ∧ s.store.committing = false ∧
    s.store.dataState ≠ .checking ∧ s.inputs.reset = false

/-- A notice may be sent on a link: the transmitter is FREE, the link has no current and no waiting request, and no commit is
running (R201, R203). -/
abbrev MaySend (l : Link) (s : State) : Prop :=
  (s.link l).tx = none ∧ (s.link l).current = none ∧ (s.link l).waiting = none ∧ s.store.committing = false

/-- The payload of a request (Frame). -/
def payloadOf (m : Mnem) (args : List Byte) : List Byte := m.letters ++ args

/-- The part with a request taken on a link: it is the current request, and nothing has been done for it yet (R197). -/
def taken (l : Link) (m : Mnem) (args : List Byte) (s : State) : State :=
  s.setLink l { s.link l with waiting := none, current := some (payloadOf m args) }

/-- The part with the reply to a request handed to its transmitter; the link's overrun indication is cleared (R198,
R199). -/
def replied (l : Link) (m : Mnem) (code : ReplyCode) (data : List Item) (s : State) : State :=
  s.setLink l { s.link l with overrun := false, tx := some (.reply m.letters code (statusByte s l) data) }

/-- A request that is taken and refused: nothing but the link changes. -/
def refused (l : Link) (m : Mnem) (code : ReplyCode) (args : List Byte) (s : State) : State :=
  replied l m code [] (taken l m args s)

/-- A request refused with DATA: the reply carries the data state and the fault record (R16). -/
def refusedData (l : Link) (m : Mnem) (args : List Byte) (s : State) : State :=
  replied l m .data (.dataState s.store.dataState :: faultItems s) (taken l m args s)

/-- Every payload of arguments that this does not hold of is refused with LENGTH on the ship link, and nothing but the link
changes. -/
def OtherFormsRefused (m : Mnem) (form : List Byte → Prop) : Prop :=
  ∀ (args : List Byte) (s : State), Ready .ship s → args.length ≤ maxArgs → ¬ form args →
    exec (m.command .ship args) s = .next (refused .ship m .length args s)

/-- On the shore link the request is answered UNKNOWN, and nothing but the link changes (R198). -/
def UnknownOnShore (m : Mnem) : Prop :=
  ∀ (args : List Byte) (s : State), Ready .shore s → args.length ≤ maxArgs →
    exec (m.command .shore args) s = .next (refused .shore m .unknown args s)

/-- The same for a request of the shore link. -/
def OtherFormsRefusedOnShore (m : Mnem) (form : List Byte → Prop) : Prop :=
  ∀ (args : List Byte) (s : State), Ready .shore s → args.length ≤ maxArgs → ¬ form args →
    exec (m.command .shore args) s = .next (refused .shore m .length args s)

/-- On the ship link the request is answered UNKNOWN, and nothing but the link changes (R198). -/
def UnknownOnShip (m : Mnem) : Prop :=
  ∀ (args : List Byte) (s : State), Ready .ship s → args.length ≤ maxArgs →
    exec (m.command .ship args) s = .next (refused .ship m .unknown args s)

/-! ## What an act hands on -/

/-- The console is AUTO or GRANTED and the Sequencer neither walks nor is suspended, so that the end of an act concerns no
other block's wait: `settle` leaves such a part as it is (R125, R170). -/
abbrev HandsNothingOn (s : State) : Prop :=
  (s.console.state = .auto ∨ s.console.state = .granted) ∧
    (s.seq.core.state = .empty ∨ s.seq.core.state = .ready ∨ s.seq.core.state = .yielded ∨ s.seq.core.state = .complete)

/-- Every transfer record is IDLE. -/
abbrev AllIdle (s : State) : Prop := ∀ d : Driver, (s.transfer d).state = .idle

/-- No transfer is OPENING or CLOSING and no assigned valve is in travel: the grant condition (R172). -/
def NothingMoves (s : State) : Prop :=
  (∀ d, (s.transfer d).state ≠ .opening ∧ (s.transfer d).state ≠ .closing) ∧
    ∀ ch < 38, assigned s ch = true → (s.valve ch).state.moving = false

/-- An entry of a plan bears a pour number: an entry before the first whose pour number is 0 (R150). -/
def PlanBears (b : PlanBank) (n : Nat) : Prop :=
  ∃ i < 96, (planEntry b i).pour = n ∧ ∀ j ≤ i, (planEntry b j).pour ≠ 0

/-- The pointer is at a WAIT_POUR step for a pour number that an entry of the plan bears (R142). -/
def AwaitsPlanned (s : State) : Prop :=
  ∃ n, stepAt s.seq.active s.seq.core.pointer = .waitPour n ∧ PlanBears s.tracker.active n

/-- The Sequencer with what the Transfer Unit hands it of driver `d`'s transfer written into its step progress, in the saved
state too, where that progress is of `d` and has not returned to IDLE (R128). While YIELDED the live progress takes it as well
(DESIGN CHOICE, log entry 47). -/
def Sequencer.told (q : Sequencer) (d : Driver) (f : Progress → Progress) : Sequencer :=
  let heard (c : SeqCore) : SeqCore :=
    { c with progress := c.progress.map fun p => if p.driver = d ∧ p.idle = false then f p else p }
  { q with core := heard q.core, saved := q.saved.map heard }

/-! ## The end of a transfer -/

/-- Both valves of a driver's transfer, its tank valve and its line valve, are CLOSED or FAULT. -/
def ValvesDone (s : State) (d : Driver) : Prop :=
  (s.valve (tankValve s d)).state.done = true ∧ (s.valve d.lineValve).state.done = true

/-- Both valves of a driver's transfer are OPEN. -/
def ValvesOpen (s : State) (d : Driver) : Prop :=
  (s.valve (tankValve s d)).state = .opened ∧ (s.valve d.lineValve).state = .opened

/-- The transfer of `d` returns to IDLE, from `s` to `t` (R115): its end record; the blend of a fill (R34); the log entry of
its end figures (R182 to R184); the TRANSFER notice; the reference mass and the base (R35, R38); and the hand-on to the
Sequencer. The driver leaves the console's closing set (R170). The metered volume of a pump that is not fitted, on which no state
that a run reaches has a transfer, is free (R10; log entry 37). -/
def ReturnsToIdle (d : Driver) (s t : State) : Prop :=
  let x := s.transfer d
  let fault (ch : Nat) : Bool := (s.valve ch).state == .fault
  let fin : EndRec :=
    { stamp := s.time.port, mass := tankMass s x.tank, volume := tankVolume s x.tank, good := gaugeGood s x.tank
      notClosed := fault (tankValve s d) || fault d.lineValve }
  let blend (g : GaugeRec) : GaugeRec :=
    match x.direction, s.tracker.density with
    | .fill, some port =>
      let v₀ := (x.start.map StartRec.volume).getD 0
      let ρ := if v₀ < g.volume then rdivN (v₀ * g.density + (g.volume - v₀) * port) g.volume else g.density
      if g.state = .good ∨ g.state = .held then { g with density := ρ, mass := rdivN (g.volume * ρ) 1000 }
      else { g with density := ρ }
    | _, _ => g
  let moved := absDiff fin.volume ((x.start.map StartRec.volume).getD 0)
  let metered := if s.store.tables.fitted d = true then rdivN (x.pulses * s.store.tables.factor d) 10000
    else if x.pulses = 0 then 0 else Config.unfittedVolume d x.pulses
  t.transfer d = { x with state := .idle, finish := some fin } ∧ (∀ e, e ≠ d → t.transfer e = s.transfer e) ∧
  (∀ c, t.gaugeRec c =
    if c = x.tank then
      (s.gaugeRec c).map fun g =>
        { blend g with
          refMass := (blend g).mass, baseMass := if d.gravity = true then g.baseMass else (blend g).mass }
    else s.gaugeRec c) ∧
  (x.start = none → t.records = s.records) ∧
  (∀ st, x.start = some st →
    t.records = s.records.enter
      { number := 0, tank := x.tank, out := x.direction == .discharge, method := .driver d, startTime := st.stamp
        endTime := s.time.port
        volume := if (st.good = true ∧ fin.good = true) ∨ d.gravity = true then moved else metered
        basis := if st.good = true ∧ fin.good = true then .gauge else if d.gravity = true then .gaugePartial else .meter
        disagree := decide (d.gravity = false ∧ (st.good = true ∧ fin.good = true) ∧
          max 50 (rdivN (metered * s.store.tables.disagree) 100) < absDiff moved metered)
        notClosed := fin.notClosed, merged := false, merges := 0, density := tankDensity t x.tank }) ∧
  (s.links.enables.getLsbD 1 = true →
    t.links.notices.get 3 = some (.transfer d x.tank x.owner x.reason fin.notClosed ((x.start.map StartRec.volume).getD 0)
      fin.volume (if d.gravity = true then none else some metered))) ∧
  (∀ k : NoticeKind, k ≠ .transfer → t.links.notices.get k.place = s.links.notices.get k.place) ∧
  t.links = { s.links with notices := t.links.notices } ∧
  t.seq = s.seq.told d (fun p => { p with idle := true }) ∧
  t.console = { s.console with closing := s.console.closing.set d false } ∧
  ((s.gaugeRec x.tank).isSome → tankDensity t x.tank = tankDensity s x.tank → t.engine = s.engine) ∧
  (tankDensity t x.tank ≠ tankDensity s x.tank → s.store.dataState = .valid → s.engine.job.isSome →
    t.engine = { s.engine with refreshMark := true }) ∧
  t.engine.published = s.engine.published ∧ t.engine.result = s.engine.result ∧ t.engine.fixed = s.engine.fixed ∧
  t.gauge = { s.gauge with recs := t.gauge.recs } ∧ t.xfer.valves = s.xfer.valves ∧
  (∀ p, t.pumpOut p = s.pumpOut p) ∧ t.xfer.paceGain = s.xfer.paceGain ∧ t.meter = s.meter ∧ t.store = s.store ∧
  t.limits = s.limits ∧ t.tracker = s.tracker ∧ t.time = s.time ∧ t.inputs = s.inputs ∧ t.pending = s.pending

/-- The transfer of `d` becomes CLOSING with a reason, from `s` to `t` (R114): a pump is stopped with its no-flow phase OFF,
both valves are commanded CLOSED, and the end is handed to the Sequencer. Nothing else changes. -/
def BeginsClosing (d : Driver) (reason : EndReason) (s t : State) : Prop :=
  t.transfer d = { s.transfer d with state := .closing, reason := some reason } ∧
  (∀ e, e ≠ d → t.transfer e = s.transfer e) ∧
  (∀ p, d.pump? = some p →
    t.pumpOut p = ⟨false, 0⟩ ∧ t.pumpMeter p = { s.pumpMeter p with phase := .off, countdown := 0 }) ∧
  (∀ p, d.pump? ≠ some p → t.pumpOut p = s.pumpOut p ∧ t.pumpMeter p = s.pumpMeter p) ∧
  (∀ ch < 38, t.valve ch =
    if ch = tankValve s d ∨ ch = d.lineValve then
      (s.valve ch).command .closed (s.store.tables.travel ch * 10) (feedback s ch)
    else s.valve ch) ∧
  t.seq = s.seq.told d (fun p => { p with ended := some reason }) ∧ t.xfer.paceGain = s.xfer.paceGain ∧
  t.meter.g0 = s.meter.g0 ∧ t.meter.g1 = s.meter.g1 ∧ t.store = s.store ∧ t.gauge = s.gauge ∧ t.engine = s.engine ∧
  t.limits = s.limits ∧ t.tracker = s.tracker ∧ t.console = s.console ∧ t.records = s.records ∧ t.links = s.links ∧
  t.time = s.time ∧ t.inputs = s.inputs ∧ t.pending = s.pending

/-- The transfer of `d` is ended with a reason, from `s` to `t` (R114, R115): it becomes CLOSING, and IDLE in the same act where
both its valves are then CLOSED or FAULT. -/
def ClosesWith (d : Driver) (reason : EndReason) (s t : State) : Prop :=
  ∃ m, BeginsClosing d reason s m ∧ (ValvesDone m d → ReturnsToIdle d m t) ∧ (¬ ValvesDone m d → t = m)

/-- The transfer of `d`, whose two valves are OPEN, goes on from OPENING, from `s` to `t` (R110, R47): a gravity transfer is
RUNNING; a pumped one is PRIMING, with the pump's run output on, its speed output at the setpoint where its speed is variable
(a fixed-speed pump's stays 0: log entry 16), and the no-flow phase PRIMING. The entry is handed to the Sequencer. Nothing
else changes. -/
def GoesOn (d : Driver) (s t : State) : Prop :=
  let T := s.store.tables
  t.transfer d = { s.transfer d with state := if d.gravity = true then .running else .priming } ∧
  (∀ e, e ≠ d → t.transfer e = s.transfer e) ∧
  (∀ p, d.pump? = some p →
    t.pumpOut p = ⟨true, if T.variable d = true then ((s.transfer d).setpoint).getD 0 else 0⟩ ∧
    t.pumpMeter p = { s.pumpMeter p with phase := .priming, countdown := T.primingTime d * 10 }) ∧
  (∀ p, d.pump? ≠ some p → t.pumpOut p = s.pumpOut p ∧ t.pumpMeter p = s.pumpMeter p) ∧
  t.seq = s.seq.told d (fun p => { p with entered := true }) ∧ t.xfer.valves = s.xfer.valves ∧
  t.xfer.paceGain = s.xfer.paceGain ∧ t.meter.g0 = s.meter.g0 ∧ t.meter.g1 = s.meter.g1 ∧ t.store = s.store ∧
  t.gauge = s.gauge ∧ t.engine = s.engine ∧ t.limits = s.limits ∧ t.tracker = s.tracker ∧ t.console = s.console ∧
  t.records = s.records ∧ t.links = s.links ∧ t.time = s.time ∧ t.inputs = s.inputs ∧ t.pending = s.pending

/-! ## The start of a transfer -/

/-- A start fails the check of R106 that has this cause. The driver, direction, target and paced flag stand in `r` as the codes of
the request arguments; G0 is code 4 and G1 code 5, and the gravity line of a tank is 1 for G0 and 2 for G1. -/
def StartFails (s : State) (r : StartReq) : StartCause → Prop
  | .notLoading => s.tracker.op ≠ .loading
  | .console => s.console.state ≠ .auto
  | .badArgument =>
    5 < r.driver ∨ s.store.tables.kind r.tank ≠ some .ballast ∨ 1 < r.direction ∨ 1 < r.paced ∨
      (4000000 < r.target ∧ r.target ≠ 4294967295) ∨ (r.direction = 1 ∧ (r.target = 4294967295 ∨ 4 ≤ r.driver)) ∨
      (r.paced = 1 ∧ 100 < r.base)
  | .notEligible =>
    (r.driver < 4 ∧ s.store.tables.eligible r.tank r.driver = false) ∨
      (4 ≤ r.driver ∧ s.store.tables.gravityLine r.tank + 3 ≠ r.driver)
  | .paceFixed => r.paced = 1 ∧ (4 ≤ r.driver ∨ ∃ d : Driver, d.code = r.driver ∧ s.store.tables.variable d = false)
  | .driverBusy => ∃ d : Driver, d.code = r.driver ∧ (s.transfer d).state ≠ .idle
  | .tankBusy => ∃ d : Driver, (s.transfer d).state ≠ .idle ∧ (s.transfer d).tank = r.tank
  | .valveFault =>
    (s.valve (s.store.tables.gaugeSlot r.tank)).state = .fault ∨
      ∃ d : Driver, d.code = r.driver ∧ (s.valve d.lineValve).state = .fault
  | .noMeasure => 4 ≤ r.driver ∧ ∃ g, s.gaugeRec r.tank = some g ∧ (g.state = .lost ∨ g.state = .masked)
  | .noCondition => 4 ≤ r.driver ∧ s.engine.published = none
  | .lowHead =>
    4 ≤ r.driver ∧ ∃ p, s.engine.published = some p ∧ gravityHead s r.tank p < s.store.tables.minHead

/-- The number of the check that refuses with a cause (R106). -/
def StartCause.check : StartCause → Nat
  | .notLoading => 1 | .console => 2 | .badArgument => 3 | .notEligible => 4 | .paceFixed => 5 | .driverBusy => 6
  | .tankBusy => 7 | .valveFault => 8 | .noMeasure => 9 | .noCondition => 10 | .lowHead => 11

/-- A start is refused with a cause: its check is the first of the eleven that fails (R106). -/
def StartRefused (s : State) (r : StartReq) (cause : StartCause) : Prop :=
  StartFails s r cause ∧ ∀ x : StartCause, x.check < cause.check → ¬ StartFails s r x

/-- A start is accepted: none of the eleven checks fails (R106). -/
def StartPasses (s : State) (r : StartReq) : Prop := ∀ cause : StartCause, ¬ StartFails s r cause

/-- The start that a driver's code and the arguments name where they pass check 3 (Request arguments). -/
def startNamed (d : Driver) (r : StartReq) : Start :=
  { driver := d, tank := r.tank, direction := if r.direction = 1 then .fill else .discharge
    target := if r.target = 4294967295 then .empty else .mass r.target, paced := r.paced == 1, base := r.base }

/-- An accepted start up to its step 7, from `s` to `t` (R108): the transfer record with the resolved target, the setpoint and the
start record, in OPENING; the base of the estimate of a tank whose content source is ESTIMATE, for a pump (R35); and both valves
commanded OPEN. Nothing else changes. -/
def BeginsOpening (owner : Owner) (step : Option Nat) (r : Start) (s t : State) : Prop :=
  let T := s.store.tables
  let d := r.driver
  (∃ m sp, t.transfer d =
      { state := .opening, owner := some owner, tank := r.tank, direction := r.direction, target := r.target, targetMass := m
        paced := r.paced, base := r.base, setpoint := sp
        start := some ⟨s.time.port, tankMass s r.tank, tankVolume s r.tank, gaugeGood s r.tank⟩, finish := none, pulses := 0
        step := step, reason := none } ∧
    (r.target = .empty → m = T.residual r.tank) ∧
    (∀ x, r.target = .mass x →
      m = if r.direction = .fill then min x (T.capacityMass r.tank (tankDensity s r.tank)) else x) ∧
    (d.gravity = true → sp = none) ∧ (d.gravity = false → r.paced = false → sp = some 100) ∧
    (d.gravity = false → r.paced = true → sp = some (min 100 (max (T.minSpeed d) r.base)))) ∧
  (∀ e, e ≠ d → t.transfer e = s.transfer e) ∧
  (∀ c, t.gaugeRec c = (s.gaugeRec c).map fun g =>
    match d.pump? with
    | some p =>
      if c = r.tank ∧ (g.state = .lost ∨ g.state = .masked) then
        { g with baseMass := g.mass, baseCount := (s.pumpMeter p).total }
      else g
    | none => g) ∧
  (∀ ch < 38, t.valve ch =
    if ch = T.gaugeSlot r.tank ∨ ch = d.lineValve then (s.valve ch).command .opened (T.travel ch * 10) (feedback s ch)
    else s.valve ch) ∧
  t.gauge = { s.gauge with recs := t.gauge.recs } ∧
  t.xfer = { s.xfer with transfers := t.xfer.transfers, valves := t.xfer.valves } ∧ t.store = s.store ∧
  t.meter = s.meter ∧ t.engine = s.engine ∧ t.limits = s.limits ∧ t.seq = s.seq ∧ t.tracker = s.tracker ∧
  t.console = s.console ∧ t.records = s.records ∧ t.links = s.links ∧ t.time = s.time ∧ t.inputs = s.inputs ∧
  t.pending = s.pending

/-- An accepted start, in one act, from `s` to `t` (R108): the transfer is OPENING, and where both its valves are then OPEN it goes
on at once (R110). -/
def StartsTransfer (owner : Owner) (step : Option Nat) (r : Start) (s t : State) : Prop :=
  ∃ w, BeginsOpening owner step r s w ∧ (ValvesOpen w r.driver → GoesOn r.driver w t) ∧
    (¬ ValvesOpen w r.driver → t = w)

/-! ## Valves -/

/-- A valve in travel arrives at its commanded end, from `s` to `t` (R97), and the arrival is handed to the transfer of which it
is: an OPENING one whose valves are both OPEN goes on (R110), a CLOSING one whose valves are both CLOSED or FAULT returns to
IDLE (R115), and any other waits. -/
def ArrivesValve (ch : Nat) (s t : State) : Prop :=
  let a := s.setValve ch
    { s.valve ch with state := (s.valve ch).commanded.standing, countdown := 0, drive := none }
  (holderOf s ch = none → t = a) ∧
  ∀ d, holderOf s ch = some d →
    let x := (s.transfer d).state
    (x = .opening → ValvesOpen a d → GoesOn d a t) ∧ (x = .closing → ValvesDone a d → ReturnsToIdle d a t) ∧
      (¬ (x = .opening ∧ ValvesOpen a d) → ¬ (x = .closing ∧ ValvesDone a d) → t = a)

/-- A valve becomes FAULT with a cause, from `s` to `t` (R98, R100): its drives are de-energised and the VALVE notice raised. The
transfer of which it is ends VALVE_FAULT where it is OPENING, PRIMING or RUNNING; a CLOSING one returns to IDLE where both its
valves are then CLOSED or FAULT; a HANDED_OVER one is not touched. -/
def FailsValve (ch : Nat) (cause : ValveFault) (s t : State) : Prop :=
  let f := raise (.valve ch cause (feedback s ch) (holderOf s ch))
    (s.setValve ch { s.valve ch with state := .fault, cause := some cause, countdown := 0, drive := none })
  (holderOf s ch = none → t = f) ∧
  ∀ d, holderOf s ch = some d →
    let x := (s.transfer d).state
    (x.active = true → ClosesWith d .valveFault f t) ∧ (x = .closing → ValvesDone f d → ReturnsToIdle d f t) ∧
      (x.active = false → ¬ (x = .closing ∧ ValvesDone f d) → t = f)

/-- The valves that an act makes assigned, from `x` to `y`, in ascending channel (R98; log entry 38): one whose feedback is BOTH
and that is not FAULT becomes FAULT SWITCH_DISAGREE, and any other stays as it is. `before` is the part before the act. -/
def GainsValves (before x y : State) : Prop :=
  ∃ f : Nat → State, f 0 = x ∧ f 38 = y ∧ ∀ ch < 38,
    let w := f ch
    let gains := assigned before ch = false ∧ assigned w ch = true ∧ feedback w ch = .both ∧ (w.valve ch).state ≠ .fault
    (gains → FailsValve ch .switchDisagree w (f (ch + 1))) ∧ (¬ gains → f (ch + 1) = w)

/-! ## The sweep -/

/-- A sweep begins, from `s` to `t` (R22, R24): the next mask becomes current, every reading is NOT POLLED, and the first polled
slot is polled with its window of 100 ms; a sweep that polls no slot starts its countdown of 1 s. Nothing else changes. -/
def BeginsSweep (s t : State) : Prop :=
  t = { s with
    gauge := { s.gauge with
      currentMask := s.gauge.nextMask, sweeping := true, slot := t.gauge.slot, poll := t.gauge.poll
      countdown := t.gauge.countdown, readings := Tab.replicate 32 .notPolled } } ∧
  (∀ n < s.store.tables.slots, polled t n = true → (∀ m < n, polled t m = false) →
    t.gauge.slot = n ∧ t.gauge.poll = some 100 ∧ t.gauge.countdown = none) ∧
  ((∀ n < s.store.tables.slots, polled t n = false) →
    t.gauge.slot = 0 ∧ t.gauge.poll = none ∧ t.gauge.countdown = some 10)

/-! ## The validation checks (R18) -/

/-- `x` lies outside `lo..hi`. -/
abbrev Outside (lo hi x : Int) : Prop := x < lo ∨ hi < x

/-- The field of `size` bytes at `offset` of row `i` of a table, unsigned (Table row forms). -/
def rowU {n k : Nat} (t : Tab n (Tab k Byte)) (i offset size : Nat) : Nat := fieldU (rowBytes t i) offset size

/-- The same field, signed. -/
def rowS {n k : Nat} (t : Tab n (Tab k Byte)) (i offset size : Nat) : Int := fieldS (rowBytes t i) offset size

/-- Row `i` of T0 fails check `n`, 1 to 13: the field of that number is outside its range (R3, R18). -/
def GeneralFails (T : Tables) (n i : Nat) : Prop :=
  let out (lo hi : Int) : Prop := Outside lo hi (rowU T.t0 0 (4 * (n - 1)) 4)
  i = 0 ∧
    match n with
    | 1 => out 5000 40000
    | 2 => out 1 32
    | 3 => out 1 15
    | 4 => out 1 50000
    | 5 => out 500 990
    | 6 => out 0 100
    | 7 => out 990 1050
    | 8 => out 1 32000
    | 9 => out 1 32000
    | 10 => out 0 10000
    | 11 => out 0 10
    | 12 => out 1 16
    | 13 => out 2 40
    | _ => False

/-- Row `i` of T1 fails check `n`, 20 to 37 or 80 to 83 (R4, R5, R18). The kinds are UNUSED 0, BALLAST 1, HOLD 2, FIXED 3 and
LIGHTSHIP 4; the gauge slot of a tank and the number of a hold stand at offset 9; a driver is not fitted unless its T6 row says
yes. -/
def CompartmentFails (T : Tables) (n i : Nat) : Prop :=
  let kind (j : Nat) : Nat := rowU T.t1 j 0 1
  let u (offset size : Nat) : Nat := rowU T.t1 i offset size
  let aft : Int := rowS T.t1 i 1 4
  let fore : Int := rowS T.t1 i 5 4
  let place (k : Nat) : Nat := ((List.range i).filter fun j => kind j = k).length
  let twice (k : Nat) : Prop := ∃ j < i, kind j = k ∧ rowU T.t1 j 9 1 = u 9 1
  let unfitted (d : Nat) : Prop := rowU T.t6 d 0 1 ≠ 1
  let capacity : Nat := rdivN (rowU T.t5 (i * 20 + (u 18 1 - 1)) 2 3 * rowU T.t0 0 24 4) 1000
  i < 48 ∧
    match n with
    | 20 => 4 < kind i
    | 21 => kind i ≠ 0 ∧ fore ≤ aft
    | 22 => kind i ≠ 0 ∧ (aft < -2000 ∨ 40000 < fore)
    | 23 => kind i = 1 ∧ rowU T.t0 0 4 4 ≤ u 9 1
    | 24 => kind i = 1 ∧ Outside aft fore (rowS T.t1 i 10 4)
    | 25 => kind i = 1 ∧ Outside 0 40000 (u 14 4)
    | 26 => kind i = 1 ∧ Outside 2 20 (u 18 1)
    | 27 => kind i = 1 ∧ 4000000 < u 19 4
    | 28 => kind i = 1 ∧ Outside 5 180 (u 23 2)
    | 29 => kind i = 1 ∧ 2 < u 25 1
    | 30 => kind i = 2 ∧ Outside 1 12 (u 9 1)
    | 31 => kind i = 2 ∧ Outside 1 60000 (u 10 4)
    | 32 => kind i = 2 ∧ Outside 1 4000000 (u 14 4)
    | 33 => kind i = 3 ∧ 4000000 < u 9 4
    | 34 => kind i = 4 ∧ 4000000 < u 9 4
    | 35 => kind i = 1 ∧ place 1 = 32
    | 36 => kind i = 2 ∧ place 2 = 12
    | 37 => kind i = 2 ∧ twice 2
    | 80 => kind i = 1 ∧ twice 1
    | 81 => kind i = 1 ∧ ∃ p < 4, (u 26 1).testBit p = true ∧ unfitted p
    | 82 => kind i = 1 ∧ ((u 25 1 = 1 ∧ unfitted 4) ∨ (u 25 1 = 2 ∧ unfitted 5))
    | 83 => kind i = 1 ∧ capacity < u 19 4
    | _ => False

/-- Row `i` of T2, below the checkpoint count, fails check `n`, 40 to 47 (R6, R18). -/
def CheckpointFails (T : Tables) (n i : Nat) : Prop :=
  let u (offset : Nat) : Nat := rowU T.t2 i offset 4
  let z (offset : Nat) : Int := rowS T.t2 i offset 4
  i < rowU T.t0 0 44 4 ∧
    match n with
    | 40 => z 0 ≤ 0 ∨ (rowU T.t0 0 0 4 : Int) ≤ z 0
    | 41 => 1 ≤ i ∧ z 0 ≤ rowS T.t2 (i - 1) 0 4
    | 42 => Outside 1 4000000 (u 4)
    | 43 => Outside 1 4000000 (u 8)
    | 44 => Outside 1 100000000 (u 12)
    | 45 => Outside 1 100000000 (u 16)
    | 46 => Outside (-1000000) 1000000 (z 20)
    | 47 => Outside (-100000000) 100000000 (z 24)
    | _ => False

/-- Row `i` of T3, below the hydrostatic row count, fails check `n`, 50 to 56 (R7, R18). -/
def HydrostaticFails (T : Tables) (n i : Nat) : Prop :=
  let u (offset : Nat) : Nat := rowU T.t3 i offset 4
  i < rowU T.t0 0 48 4 ∧
    match n with
    | 50 => Outside 1 4000000 (u 0)
    | 51 => 1 ≤ i ∧ u 0 ≤ rowU T.t3 (i - 1) 0 4
    | 52 => Outside 0 40000 (u 4)
    | 53 => 1 ≤ i ∧ u 4 < rowU T.t3 (i - 1) 4 4
    | 54 => Outside 0 (rowU T.t0 0 0 4) (rowS T.t3 i 8 4)
    | 55 => Outside 0 (rowU T.t0 0 0 4) (rowS T.t3 i 12 4)
    | 56 => Outside 1 10000000 (u 16)
    | _ => False

/-- Row `i` of T4, of a hydrostatic row and a checkpoint in use, fails check 60 or 61 (R8, R18). -/
def BuoyancyFails (T : Tables) (n i : Nat) : Prop :=
  (i / 16 < rowU T.t0 0 48 4 ∧ i % 16 < rowU T.t0 0 44 4) ∧
    match n with
    | 60 => 4000000 < rowU T.t4 i 0 3
    | 61 => Outside (-100000000) 100000000 (rowS T.t4 i 3 4)
    | _ => False

/-- Row `i` of T5, of a point in use of a BALLAST compartment, fails check `n`, 65 to 69 (R9, R18). -/
def SoundingFails (T : Tables) (n i : Nat) : Prop :=
  let points : Nat := rowU T.t1 (i / 20) 18 1
  (i / 20 < 48 ∧ rowU T.t1 (i / 20) 0 1 = 1 ∧ i % 20 < points) ∧
    match n with
    | 65 => 40000 < rowU T.t5 i 0 2
    | 66 => 1 ≤ i % 20 ∧ rowU T.t5 i 0 2 ≤ rowU T.t5 (i - 1) 0 2
    | 67 => 1000000 < rowU T.t5 i 2 3
    | 68 => 1 ≤ i % 20 ∧ rowU T.t5 i 2 3 < rowU T.t5 (i - 1) 2 3
    | 69 => i % 20 + 1 = points ∧ rowU T.t5 i 2 3 = 0
    | _ => False

/-- Row `i` of T6 fails check `n`, 70 to 76; rows 0 to 3 are the pumps (R10, R18). -/
def DriverFails (T : Tables) (n i : Nat) : Prop :=
  let u (offset size : Nat) : Nat := rowU T.t6 i offset size
  let fitted : Prop := u 0 1 = 1
  let pump : Prop := fitted ∧ i < 4
  i < 6 ∧
    match n with
    | 70 => u 0 1 ≠ 0 ∧ u 0 1 ≠ 1
    | 71 => fitted ∧ Outside 5 180 (u 1 1)
    | 72 => pump ∧ Outside 1 100000 (u 2 4)
    | 73 => pump ∧ Outside 5 120 (u 6 1)
    | 74 => pump ∧ Outside 5 120 (u 7 1)
    | 75 => pump ∧ u 8 1 = 1 ∧ Outside 20 60 (u 9 1)
    | 76 => pump ∧ Outside 1 20000 (u 10 2)
    | _ => False

/-- A row fails check `n` of the table of checks. Check 38 names no row: no LIGHTSHIP row has mass above 0 (R18). -/
def CheckFails (T : Tables) (n : Nat) : Option Nat → Prop
  | none => n = 38 ∧ ∀ c < 48, ¬ (rowU T.t1 c 0 1 = 4 ∧ 0 < rowU T.t1 c 9 4)
  | some i => GeneralFails T n i ∨ CompartmentFails T n i ∨ CheckpointFails T n i ∨ HydrostaticFails T n i ∨
      BuoyancyFails T n i ∨ SoundingFails T n i ∨ DriverFails T n i

/-- The table whose rows a check examines (R18). -/
def checkTable (n : Nat) : Nat :=
  if n ≤ 13 then 0 else if n ≤ 38 ∨ 80 ≤ n then 1 else if n ≤ 47 then 2 else if n ≤ 56 then 3 else if n ≤ 61 then 4
  else if n ≤ 69 then 5 else 6

/-- `f` records the first failure of the tables: the lowest check that a row fails, and the lowest row that fails it (R16 to
R18). -/
def FirstFailure (T : Tables) (f : FaultRecord) : Prop :=
  f.cause = .validation ∧ f.table = some (checkTable f.check) ∧ CheckFails T f.check f.row ∧
    (∀ n < f.check, ∀ row, ¬ CheckFails T n row) ∧ ∀ i j, f.row = some i → j < i → ¬ CheckFails T f.check (some j)

/-- No row fails any check (R17, R18). -/
def ChecksPass (T : Tables) : Prop := ∀ n row, ¬ CheckFails T n row

/-! ## The tables leave force -/

/-- The tables are withdrawn from force, from `s` to `t` (R15, R20, R44, R86, R96), in which the data state is no longer VALID:
the sweep ends without a sweep end; the engine's job, marks, record and result are withdrawn; the judged sequence is 0, the
figures absent and the limit flags clear, with the LIMIT notice where one was set; the pump rates are 0; and a valve that was
assigned and in travel stops and is adopted from its feedback. Beside the data store nothing else changes. -/
def WithdrawsTables (s t : State) : Prop :=
  t.gauge = { s.gauge with
    sweeping := false, slot := 0, poll := none, countdown := none, readings := Tab.replicate 32 .notPolled } ∧
  t.engine = { s.engine with job := none, refreshMark := false, projMark := none, published := none, result := none } ∧
  t.limits = { s.limits with
    judgedSeq := 0, clearances := Tab.replicate 12 none, deepest := none, trim := none, flags := LimitFlags.clear } ∧
  t.links =
    (if s.limits.flags.any = true then
      raise (limitDetail s.limits.flags s.limits.watch.cautionFlag { s with limits := t.limits }) s else s).links ∧
  (∀ p, t.pumpMeter p = { s.pumpMeter p with rate := 0 }) ∧ t.meter.g0 = s.meter.g0 ∧ t.meter.g1 = s.meter.g1 ∧
  (∀ ch < 38, t.valve ch =
    if assigned s ch = true ∧ (s.valve ch).state.moving = true then
      let (e, st, why) : ValveEnd × ValveState × Option ValveFault := match feedback s ch with
        | .opened => (.opened, .opened, none)
        | .closed => (.closed, .closed, none)
        | .neither => (.closed, .fault, some .stuck)
        | .both => (.closed, .fault, some .switchDisagree)
      { s.valve ch with commanded := e, state := st, cause := why, countdown := 0, drive := none }
    else s.valve ch) ∧
  t.xfer = { s.xfer with valves := t.xfer.valves } ∧ t.seq = s.seq ∧ t.tracker = s.tracker ∧ t.console = s.console ∧
  t.records = s.records ∧ t.time = s.time ∧ t.inputs = s.inputs ∧ t.pending = s.pending

/-! ## The grant -/

/-- The console is granted, from `s` to `t`, in one act (R172, R144): the transfers in PRIMING and RUNNING are handed over, with
their pumps' no-flow phases OFF and every output kept; the Sequencer's state is saved and it is YIELDED; the tank snapshot
is taken; and the grant line is asserted. What the Sequencer's live items hold from then on is the model's choice (log entry 47). -/
def GrantsConsole (s t : State) : Prop :=
  let taken' (d : Driver) := (s.transfer d).state = .priming ∨ (s.transfer d).state = .running
  t.console.state = .granted ∧ t.console.grantLine = true ∧ t.console.grantStamp = some s.time.port ∧
  t.console.releaseStamp = s.console.releaseStamp ∧ t.console.closing = s.console.closing ∧
  (∀ d, t.transfer d = if taken' d then { s.transfer d with state := .handedOver } else s.transfer d) ∧
  (∀ d, t.console.handed.get d = if taken' d then some (s.transfer d).tank else s.console.handed.get d) ∧
  (∀ d, t.console.reached.get d = if taken' d then false else s.console.reached.get d) ∧
  (∀ p : Pump, t.pumpOut p = s.pumpOut p ∧
    t.pumpMeter p = if taken' p.driver then { s.pumpMeter p with phase := .off, countdown := 0 } else s.pumpMeter p) ∧
  (∃ snap, t.console.snapshot = some snap ∧ ∀ c < 48, snap.get c = (s.gaugeRec c).map fun g =>
    ⟨g.mass, g.volume, g.state == .good || g.state == .held⟩) ∧
  t.seq = { s.seq with
    saved := some s.seq.core
    core := { s.seq.core with state := .yielded, wait := .nothing, suspend := .nothing, detail := .nothing } } ∧
  t.xfer.valves = s.xfer.valves ∧ t.inputs = s.inputs ∧ t.store = s.store ∧ t.gauge = s.gauge ∧ t.engine = s.engine ∧
  t.limits = s.limits ∧ t.tracker = s.tracker ∧ t.records = s.records ∧ t.links = s.links ∧ t.time = s.time ∧
  t.meter.g0 = s.meter.g0 ∧ t.meter.g1 = s.meter.g1 ∧ t.xfer.paceGain = s.xfer.paceGain ∧ t.pending = s.pending

/-! ## What falls due -/

/-- The part itself owes a command: an expiry whose time has run out, or the sending of a notice that may be sent. More than 50 ms
since the last byte of a frame (R195); a reply window of 0 ms (R23); the sweep countdown at 0 (R22); a valve in travel with its
countdown at 0 (R98); a pump's no-flow countdown at 0 in PRIMING (R48) or FLOW_WATCH (R49); a RUNNING Sequencer that waits for an
interval (R128) or a dwell (R132) at 0; the ack countdown at 0 in HOLD_REQUESTED (R162); and a notice on a link that may send
one (R201, R203). No other command is the part's own to give (log entries 1 and 21). -/
def FallsDue (s : State) : Instr → Prop
  | .byteGapExpiry l => ∃ got gap, (s.link l).rx = .inFrame got gap ∧ 50 < gap
  | .replyWindowExpiry => s.gauge.poll = some 0
  | .sweepCountdownExpiry => s.gauge.countdown = some 0
  | .valveTravelExpiry ch =>
    ((s.valve ch.val).state = .opening ∨ (s.valve ch.val).state = .closing) ∧ (s.valve ch.val).countdown = 0
  | .primingExpiry p => (s.pumpMeter p).phase = .priming ∧ (s.pumpMeter p).countdown = 0
  | .noFlowExpiry p => (s.pumpMeter p).phase = .flowWatch ∧ (s.pumpMeter p).countdown = 0
  | .intervalExpiry => s.seq.core.state = .running ∧ s.seq.core.wait = .interval ∧ s.seq.core.interval = 0
  | .dwellExpiry => s.seq.core.state = .running ∧ s.seq.core.wait = .dwell ∧ s.seq.core.dwell = 0
  | .ackExpiry => s.tracker.state = .holdRequested ∧ s.tracker.cur ≠ none ∧ s.tracker.ack = some 0
  | .shipNoticeSend => MaySend .ship s ∧ ∃ i < 10, s.links.notices.get i ≠ none
  | .shoreNoticeSend => MaySend .shore s ∧ s.links.queue ≠ []
  | .hardwareReset .. | .verificationEnd | .frameByteReceived .. | .transmitFrameEnd .. | .commitComplete | .wsel ..
  | .wput .. | .wget .. | .sdcm .. | .smsk .. | .tden .. | .tank .. | .metr .. | .cond .. | .proj .. | .fixm .. | .lims ..
  | .tide .. | .stpr .. | .xsta .. | .xstp .. | .xfer .. | .valv .. | .vclr .. | .sqxc .. | .sqgo .. | .sqps .. | .sqrs ..
  | .sqab .. | .seqq .. | .opbg .. | .opnd .. | .plxc .. | .pour .. | .phis .. | .hset .. | .lpst .. | .ltal .. | .lpnd ..
  | .lhak .. | .rptb .. | .rptg .. | .dlog .. | .stat .. | .nten .. | .clks .. | .rstr .. | .sensorAnswer .. | .meterPulse ..
  | .secondBoundary | .runningFeedbackFall .. | .limitInputChange .. | .refreshComplete | .projectionComplete
  | .consoleRequestRise | .consoleRequestDrop | .runningFeedbackRise .. => False

/-- The order in which things that fall due together are taken (DESIGN CHOICE, log entry 22). -/
def dueOrder : List Instr :=
  [.byteGapExpiry .ship, .byteGapExpiry .shore, .replyWindowExpiry, .sweepCountdownExpiry] ++
    (List.finRange 38).map Instr.valveTravelExpiry ++
    [.primingExpiry .p0, .noFlowExpiry .p0, .primingExpiry .p1, .noFlowExpiry .p1, .primingExpiry .p2, .noFlowExpiry .p2,
      .primingExpiry .p3, .noFlowExpiry .p3, .intervalExpiry, .dwellExpiry, .ackExpiry, .shipNoticeSend, .shoreNoticeSend]

/-! ## Runs of commands -/

/-- Commands carried out one after another, stopping at the first that gives no next state. -/
def runCommands : List Instr → State → Host.Outcome State Fault Refusal
  | [], s => .next s
  | c :: cs, s =>
    match exec c s with
    | .next s' => runCommands cs s'
    | .fault f => .fault f
    | .refused r => .refused r

/-- Bytes arriving one after another on a link. -/
def bytesArrive (l : Link) (bs : List Byte) : List Instr := bs.map (Instr.frameByteReceived l)

/-! ## Invariants -/

/-- The pour enable line is on exactly in LOADING with the stop latch clear (R92). -/
def LineFollows (s : State) : Prop := s.limits.pourEnable = (s.tracker.op == .loading && !s.limits.latch)

/-- Whenever the stress watch is BREACH the stop latch is set (R88). -/
def BreachLatched (s : State) : Prop := s.limits.watch = .breach → s.limits.latch = true

/-- The stop latch is set exactly while it has a cause (R80, R91). -/
def LatchHasCause (s : State) : Prop :=
  s.limits.latch = (s.limits.causes.breach || s.limits.causes.ackTimeout || s.limits.causes.pourAfterHold)

/-- The grant line is asserted exactly in GRANTED (R170), the Sequencer is YIELDED exactly from the grant to the end of
RECONCILING and then holds a saved state, and a saved state is not itself YIELDED (R144). -/
def ConsoleConsistent (s : State) : Prop :=
  s.console.grantLine = (s.console.state == .granted) ∧
    (s.seq.core.state = .yielded ↔ s.console.state = .granted ∨ s.console.state = .reconciling) ∧
    (s.seq.saved.isSome ↔ s.seq.core.state = .yielded) ∧
    ∀ c, s.seq.saved = some c → c.state ≠ .yielded

/-- The sum of the volumes of a tank's log entries in one direction. -/
def logged (s : State) (tank : Nat) (out : Bool) : Nat :=
  ((s.records.log.filter fun e => e.tank == tank && e.out == out).map LogEntry.volume).sum

/-- A tank's total in one direction (R180). -/
def total (r : Records) (tank : Nat) (out : Bool) : BitVec 48 := if out then r.discharged.get tank else r.takenUp.get tank

/-- Every tank's two totals equal the sums of its log entries (R189), where the sums fit the 48 bits of a total; what a total
holds beyond them is free (log entry 27). -/
def AccountBalances (s : State) : Prop :=
  ∀ tank < 48, ∀ out, logged s tank out < 2 ^ 48 → (total s.records tank out).toNat = logged s tank out

/-- The sizes that the spec bounds: the pour history (R147), the shore queue (R203), and an open window and its position
within its table (R11). -/
def SizesBounded (s : State) : Prop :=
  s.tracker.history.length ≤ historyMax ∧ s.links.queue.length ≤ shoreQueueMax ∧
    ∀ w, s.store.window = some w → w.first ≤ w.pos ∧ w.pos ≤ w.finish ∧ w.finish ≤ w.table.rows

end Sys2Proof.Machine
end

