-- ==== Sys2Proof/Certificates/Slice0/Obligations.lean ====
section
/-! DEFINITION. The statements about the part, for the provers. Each docstring names the rules of spec/ that it formalises, and
the log entries where a clause rests on a choice of the model. -/

open Sys2Proof Sys2Proof.Machine

/-- Log entry 1: the command at the front of the queue is carried out with the queue's rest. -/
def Obligations.StepTakesTheFrontCommand : Prop :=
  ∀ (s : State) (c : Instr) (rest : List Instr), s.pending = c :: rest → step s = exec c { s with pending := rest }

/-- With no command waiting the part carries out what has fallen due, and where nothing has it lets one millisecond pass (log
entries 1, 21 and 22: the model's choice). `FallsDue` says when each thing has: BYTE_GAP_EXPIRY on a link whose frame has a gap of
more than 50 ms (R195); REPLY_WINDOW_EXPIRY at a window of 0 ms (R23); SWEEP_COUNTDOWN_EXPIRY at a countdown of 0 (R22); a valve's
travel expiry where it is OPENING or CLOSING with its countdown at 0 (R98); PRIMING_EXPIRY and NO_FLOW_EXPIRY of a pump in PRIMING
and in FLOW_WATCH with its countdown at 0 (R47 to R49); INTERVAL_EXPIRY and DWELL_EXPIRY where the Sequencer is RUNNING with that
wait and that countdown at 0 (R128, R132); ACK_EXPIRY in HOLD_REQUESTED at an ack countdown of 0 (R162); and the sending of a notice,
where a ship kind is pending or the shore queue holds one, on a link with a FREE transmitter, no current and no waiting request and
no commit running (R201, R203). Of several the first of `dueOrder` is taken: the two gaps (ship, shore), the reply window, the sweep
countdown, the valves in ascending channel, of each pump in ascending number priming and no-flow, the interval, the dwell, the ack,
the ship notice, the shore notice (log entry 22: the model's choice). R204: a millisecond moves the time base by one, the reply window,
the gap of a frame in receipt on each link (R195), and at every hundredth the countdowns of 0.1 s: of a valve in travel (R97),
of a pump's no-flow phase (R47), of the Sequencer's step interval (R128) and dwell (R132), of the ack (R162) and of a sweep that
polls no slot (R22); at every thousandth the second boundary follows (R43); and nothing else moves. R207: while the reset input
is held nothing moves (log entry 2). -/
def Obligations.AnEmptyQueueLetsTimePass : Prop :=
  (∀ s : State, s.pending = [] →
     (∀ c before after, dueOrder = before ++ c :: after → FallsDue s c → (∀ b ∈ before, ¬ FallsDue s b) →
       step s = exec c s) ∧
     ((∀ c ∈ dueOrder, ¬ FallsDue s c) → step s = .next (passMillisecond s))) ∧
  (∀ s : State, s.inputs.reset = true → passMillisecond s = s) ∧
  (∀ s : State, s.inputs.reset = false →
     let link (x : LinkState) : LinkState := { x with
       rx := match x.rx with
         | .hunting => .hunting
         | .inFrame got gap => .inFrame got (gap + 1) }
     let valve (v : Valve) : Valve :=
       if v.state = .opening ∨ v.state = .closing then { v with countdown := v.countdown - 1 } else v
     let pump (m : PumpMeter) : PumpMeter := if m.phase = .off then m else { m with countdown := m.countdown - 1 }
     let c := s.seq.core
     let passed : State := { s with
       time := { s.time with ms := s.time.ms + 1 }
       links := { s.links with ship := link s.links.ship, shore := link s.links.shore }
       gauge := { s.gauge with poll := s.gauge.poll.map Nat.pred } }
     let ticked : State := { passed with
       gauge := { passed.gauge with countdown := s.gauge.countdown.map Nat.pred }
       xfer := { s.xfer with valves := s.xfer.valves.map valve }
       meter := { s.meter with p0 := pump s.meter.p0, p1 := pump s.meter.p1, p2 := pump s.meter.p2, p3 := pump s.meter.p3 }
       seq := { s.seq with
         core := { c with
           interval := if c.state = .running ∨ c.state = .suspending then c.interval - 1 else c.interval
           dwell := if c.state = .running then c.dwell - 1 else c.dwell } }
       tracker := { s.tracker with ack := s.tracker.ack.map Nat.pred } }
     ((s.time.ms + 1) % 100 ≠ 0 → passMillisecond s = passed) ∧
     ((s.time.ms + 1) % 100 = 0 → (s.time.ms + 1) % 1000 ≠ 0 → passMillisecond s = ticked) ∧
     ((s.time.ms + 1) % 1000 = 0 → exec .secondBoundary ticked = .next (passMillisecond s)))

/-- Every command answers a next state in every state, and none touches the queue (log entries 1 and 32: the model's
choice). What the next state is, the statements after this one say. -/
def Obligations.EveryCommandCompletesAndKeepsTheQueue : Prop :=
  ∀ (c : Instr) (s : State), ∃ t, exec c s = .next t ∧ t.pending = s.pending

/-- R197 and R198: a request that finds the waiting slot occupied is discarded with an overrun; one that finds the slot empty
waits while the link has a current request, sends, or a commit runs; and one that finds the link free is taken at once, to be
judged by the rule of its message where it is a request of the link, answered UNKNOWN where it is not, and answered BUSY in
CHECKING. A payload that no frame can carry does not arrive (log entry 5), nor does any while the reset input is held
(R207; log entry 2). -/
def Obligations.ARequestIsTakenWaitsOrIsLost : Prop :=
  ∀ (l : Link) (m : Mnem) (args : List Byte) (s : State),
    ((maxArgs < args.length ∨ s.inputs.reset = true) → exec (m.command l args) s = .next s) ∧
    (args.length ≤ maxArgs → s.inputs.reset = false →
      ((s.link l).waiting.isSome →
        exec (m.command l args) s = .next (s.setLink l { s.link l with overrun := true })) ∧
      ((s.link l).waiting = none → ((s.link l).current.isSome ∨ (s.link l).tx.isSome ∨ s.store.committing = true) →
        exec (m.command l args) s = .next (s.setLink l { s.link l with waiting := some (payloadOf m args) })) ∧
      ((s.link l).waiting = none → (s.link l).current = none → (s.link l).tx = none → s.store.committing = false →
        (s.store.dataState = .checking → exec (m.command l args) s = .next (refused l m .busy args s)) ∧
        (s.store.dataState ≠ .checking → m.ofLink l = false →
          exec (m.command l args) s = .next (refused l m .unknown args s)) ∧
        (s.store.dataState ≠ .checking → m.ofLink l = true →
          exec (m.command l args) s = .next (perform m l args (taken l m args s)))))

/-- R195 and R198: the frame of a request with a mnemonic and arguments, received byte by byte, does what its command does; a
payload shorter than four bytes is answered UNKNOWN with four zero bytes. -/
def Obligations.ARequestFrameIsItsCommand : Prop :=
  ∀ (l : Link) (s : State), (s.link l).rx = .hunting →
    (∀ (m : Mnem) (args : List Byte), args.length ≤ 236 →
      runCommands (bytesArrive l (frameAround 1 (payloadOf m args))) s = exec (m.command l args) s) ∧
    (∀ payload : List Byte, payload.length < 4 → Ready l s →
      let u := s.setLink l { s.link l with waiting := none, current := some payload }
      runCommands (bytesArrive l (frameAround 1 payload)) s =
        .next (u.setLink l
          { u.link l with overrun := false, tx := some (.reply [0#8, 0#8, 0#8, 0#8] .unknown (statusByte u l) []) }))

/-- R195: in HUNTING every byte but 0xA5 is discarded; in IN_FRAME a length byte above 240 abandons the frame, a byte short of
the whole frame is collected, and a whole frame whose CRC does not match, or that is no request, is discarded; a gap of more
than 50 ms abandons the frame. The CRC is CRC-16 with polynomial 0x1021 from 0xFFFF, most significant bit first and with no final
inversion, over the length, type and payload bytes. R196 and R197: at the end of a frame the transmitter is FREE, a reply sent in full ends the
current request, and a waiting request is taken where the link is then free. That BYTE_GAP_EXPIRY changes nothing in
HUNTING and abandons a frame whatever its gap count, that the byte which ends a long gap is judged in HUNTING, and that
TRANSMIT_FRAME_END finds nothing on a FREE transmitter, is log entry 6; R207: while the reset input is held a byte is
discarded (log entry 2). -/
def Obligations.ReceivedBytesAndSentFramesMoveTheLinks : Prop :=
  (∀ bs : List Byte,
     let shift (c : BitVec 16) : BitVec 16 := if c.msb = true then (c <<< 1) ^^^ 0x1021#16 else c <<< 1
     crc16 bs = bs.foldl (fun c b => (List.range 8).foldl (fun c _ => shift c) (c ^^^ (b.setWidth 16).shiftLeft 8)) 0xFFFF#16) ∧
  (∀ (l : Link) (b : Byte) (s : State),
     (s.inputs.reset = true → exec (.frameByteReceived l b) s = .next s) ∧
     ((s.link l).rx = .hunting →
       (s.inputs.reset = false →
         exec (.frameByteReceived l b) s =
           .next (s.setReceiver l (if b = 0xA5#8 then .inFrame [] 0 else .hunting))) ∧
       exec (.byteGapExpiry l) s = .next s) ∧
     (∀ got gap, (s.link l).rx = .inFrame got gap →
       (s.inputs.reset = false → 50 < gap →
         exec (.frameByteReceived l b) s =
           .next (s.setReceiver l (if b = 0xA5#8 then .inFrame [] 0 else .hunting))) ∧
       (s.inputs.reset = false → gap ≤ 50 →
         let frame := got ++ [b]
         let n := fieldU frame 0 1
         (240 < n → exec (.frameByteReceived l b) s = .next (s.setReceiver l .hunting)) ∧
         (n ≤ 240 → frame.length ≠ n + 4 →
           exec (.frameByteReceived l b) s = .next (s.setReceiver l (.inFrame frame 0))) ∧
         (n ≤ 240 → frame.length = n + 4 →
           (fieldU frame (n + 2) 2 ≠ (crc16 (frame.take (n + 2))).toNat ∨ frame.getD 1 0#8 ≠ 1#8) →
             exec (.frameByteReceived l b) s = .next (s.setReceiver l .hunting))) ∧
       exec (.byteGapExpiry l) s = .next (s.setReceiver l .hunting))) ∧
  (∀ (l : Link) (s : State), (s.link l).tx = none → exec (.transmitFrameEnd l) s = .next s) ∧
  (∀ (l : Link) (f : Frame) (s : State), (s.link l).tx = some f →
     let c := if f.isReply then none else (s.link l).current
     let freed := s.setLink l { s.link l with tx := none, current := c }
     ((s.link l).waiting = none → exec (.transmitFrameEnd l) s = .next freed) ∧
     ((c.isSome ∨ s.store.committing = true) → exec (.transmitFrameEnd l) s = .next freed) ∧
     (∀ payload, (s.link l).waiting = some payload → c = none → s.store.committing = false →
       exec (.transmitFrameEnd l) s =
         .next (judgeRequest l payload (s.setLink l { s.link l with tx := none, waiting := none, current := some payload }))))

/-- R201 and R203: with the transmitter FREE, no current and no waiting request on the link and no commit running,
SHIP_NOTICE_SEND sends the pending kind of highest priority, which leaves the set, and SHORE_NOTICE_SEND sends the front notice of
the shore queue, which leaves it; with nothing to send, or where any of the four does not hold, nothing changes (log entry 6). -/
def Obligations.NoticesAreSentInTheirOrder : Prop :=
  (∀ (s : State) (i : Nat) (d : Detail), i < 10 → s.links.notices.get i = some d →
    (∀ j < i, s.links.notices.get j = none) → MaySend .ship s →
    exec .shipNoticeSend s =
      .next { s with
        links := { s.links with
          notices := s.links.notices.set i none, ship := { s.links.ship with tx := some (.notice d) } } }) ∧
  (∀ (s : State) (n : ShoreNotice) (rest : List ShoreNotice), s.links.queue = n :: rest → MaySend .shore s →
    exec .shoreNoticeSend s =
      .next { s with
        links := { s.links with queue := rest, shore := { s.links.shore with tx := some (.shore n) } } }) ∧
  (∀ s : State, (¬ MaySend .ship s ∨ ∀ i < 10, s.links.notices.get i = none) →
    exec .shipNoticeSend s = .next s) ∧
  (∀ s : State, (¬ MaySend .shore s ∨ s.links.queue = []) → exec .shoreNoticeSend s = .next s)

/-- R205: CLKS sets the port clock, replies with the clock before and after, and moves nothing else; the next second boundary
raises the new value by 1. -/
def Obligations.ClksSetsThePortClock : Prop :=
  (∀ (s : State) (v : Nat), Ready .ship s → v < 4294967296 →
    let u := taken .ship .clks (toBE v 4) s
    ∃ t, exec (.clks .ship (toBE v 4)) s = .next t ∧
      t = replied .ship .clks .done [.num s.time.port, .num v] { u with time := { u.time with port := v } } ∧
      ∃ t', exec .secondBoundary t = .next t' ∧ t'.time.port = (v + 1) % 4294967296) ∧
  OtherFormsRefused .clks (fun args => args.length = 4) ∧ UnknownOnShore .clks

/-- R202: NTEN stores the enables of the eight maskable kinds, and every kind whose enable it clears leaves the pending set;
without an argument it changes nothing. The reply gives the enables in force and the kinds pending. -/
def Obligations.NtenStoresTheEnables : Prop :=
  (∀ (s : State) (e : Byte), Ready .ship s →
    let u := taken .ship .nten [e] s
    ∃ n : Tab 10 (Option Detail),
      (∀ i < 10, n.get i = if 2 ≤ i ∧ e.getLsbD (i - 2) = false then none else s.links.notices.get i) ∧
      let t : State := { u with links := { u.links with enables := e, notices := n } }
      exec (.nten .ship [e]) s =
        .next (replied .ship .nten .done (.raw [e] :: n.cells.map fun d => .flag d.isSome) t)) ∧
  (∀ s : State, Ready .ship s →
    exec (.nten .ship []) s =
      .next (replied .ship .nten .done
        (.raw [s.links.enables] :: s.links.notices.cells.map fun d => .flag d.isSome) (taken .ship .nten [] s))) ∧
  OtherFormsRefused .nten (fun args => args.length ≤ 1) ∧ UnknownOnShore .nten

/-- R24: SMSK stores a mask as the next mask, and without an argument changes nothing; the reply gives the next mask and the
current mask. The next mask becomes the current one when a sweep begins, which it does while the data is VALID (R22); the slot
reached in a sweep that polls none is log entry 44. -/
def Obligations.SmskStoresTheNextMask : Prop :=
  (∀ (s : State) (m : BitVec 32), Ready .ship s →
    let args := toBE m.toNat 4
    let u := taken .ship .smsk args s
    exec (.smsk .ship args) s =
      .next (replied .ship .smsk .done [.raw args, .raw (toBE s.gauge.currentMask.toNat 4)]
        { u with gauge := { u.gauge with nextMask := m } })) ∧
  (∀ s : State, Ready .ship s →
    exec (.smsk .ship []) s =
      .next (replied .ship .smsk .done [.raw (toBE s.gauge.nextMask.toNat 4), .raw (toBE s.gauge.currentMask.toNat 4)]
        (taken .ship .smsk [] s))) ∧
  OtherFormsRefused .smsk (fun args => args = [] ∨ args.length = 4) ∧ UnknownOnShore .smsk ∧
  (∀ s : State,
    (s.store.dataState = .valid → BeginsSweep s (beginSweep s)) ∧ (s.store.dataState ≠ .valid → beginSweep s = s))

/-- R43, R44 and R204: a second boundary computes each pump's rate from its ten bins, 0 where the pump is not fitted or the
data is not VALID, opens an empty bin in place of the oldest, and raises the port clock. Nothing else changes: the command
is a whole boundary at whatever millisecond it comes (log entry 43), and while the reset input is held it does nothing
(log entry 2). -/
def Obligations.ASecondBoundaryClosesTheBins : Prop :=
  (∀ s : State, s.inputs.reset = true → exec .secondBoundary s = .next s) ∧
  ∀ s : State, s.inputs.reset = false → ∃ t, exec .secondBoundary s = .next t ∧
    t = { s with time := { s.time with port := (s.time.port + 1) % 4294967296 }, meter := t.meter } ∧
    t.meter.g0 = s.meter.g0 ∧ t.meter.g1 = s.meter.g1 ∧
    ∀ p : Pump,
      let m := s.pumpMeter p
      ∃ bins : Tab 10 Nat, (∀ i < 9, bins.get i = m.bins.get (i + 1)) ∧ bins.get 9 = 0 ∧
        t.pumpMeter p =
          { m with
            bins := bins
            rate := if s.store.dataState = .valid ∧ s.store.tables.fitted p.driver = true then
                rdivN (m.bins.cells.sum * s.store.tables.factor p.driver * 9) 2500
              else 0 }

/-- R208 with the tables of values after resets: RSTR forms its reply and restarts the part. The links and their waiting
requests, the notices, the engine's job, the sweep, the window and the Sequencer are restarted, and each transfer in OPENING,
PRIMING or RUNNING ends with reason RESTART (R120), P0 to P3, G0, G1 in that order (log entry 38); what the end of such a
transfer does not change, and every table, record, meter, figure, valve and mask beside, is kept. The refresh mark is set
before the sweep begins (R208, steps 3 and 4); the slot and the readings outside a sweep are log entry 44. What the act hands on is
the end of RECONCILING and the grant condition (R172, R176). What the live items of a YIELDED Sequencer take is log entry
47. -/
def Obligations.RstrRestartsThePart : Prop :=
  (∀ s : State, Ready .ship s → ∃ G : Gauging,
    (s.store.dataState = .valid → BeginsSweep s { s with gauge := G }) ∧
    (s.store.dataState ≠ .valid → G = { s.gauge with
      sweeping := false, slot := 0, poll := none, countdown := none, readings := Tab.replicate 32 .notPolled }) ∧
    let fresh := SeqCore.fresh (if headLength s.seq.active = 0 then .empty else .ready)
    let u := taken .ship .rstr [] s
    let v : State := { s with
      store := { s.store with window := none }
      gauge := G
      engine := (setRefreshMark { s with engine := { s.engine with job := none, lastKind := none } }).engine
      seq := if s.seq.core.state = .yielded then { s.seq with core := SeqCore.fresh .yielded, saved := some fresh }
        else { s.seq with core := fresh, saved := none }
      links := { s.links with
        notices := Tab.replicate 10 none
        ship := ⟨.hunting, none, some (payloadOf .rstr []), false,
          some (.reply Mnem.rstr.letters .done (statusByte u .ship) [])⟩
        shore := { s.links.shore with
          rx := .hunting, waiting := none, overrun := s.links.shore.overrun || s.links.shore.waiting.isSome } } }
    let t := drivers.foldl (fun w d => endEvent d .restart w) v
    exec (.rstr .ship []) s = .next (judgeGrant (endReconciling t)) ∧
    ((s.console.state = .auto ∨ s.console.state = .granted) → exec (.rstr .ship []) s = .next t) ∧
    (∀ d : Driver, (s.transfer d).state.active = true →
      (t.transfer d).reason = some .restart ∧ ((t.transfer d).state = .closing ∨ (t.transfer d).state = .idle)) ∧
    (∀ d : Driver, (s.transfer d).state.active = false → t.transfer d = s.transfer d) ∧ (AllIdle s → t = v)) ∧
  (∀ (d : Driver) (r : EndReason) (w : State),
    ((w.transfer d).state.active = true → ClosesWith d r w (endEvent d r w)) ∧
    ((w.transfer d).state.active = false → endEvent d r w = w)) ∧
  OtherFormsRefused .rstr (fun args => args = []) ∧ UnknownOnShore .rstr

/-- R206: STAT gives the state of the whole part on either link, and changes nothing but the overrun indication of its own
link. The items stand in the order of the rule. -/
def Obligations.StatGivesTheWholePart : Prop :=
  (∀ (l : Link) (s : State), Ready l s →
    exec (.stat l []) s =
      .next (replied l .stat .done
        ([.dataState s.store.dataState, (s.store.cause.map Item.dataCause).getD .absent] ++ faultItems s ++
          [.num s.store.checksum.toNat, .opState s.tracker.op, .trackerState s.tracker.state, .seqState s.seq.core.state,
            .consoleState s.console.state, .flag s.console.grantLine, .flag s.limits.pourEnable, .watch s.limits.watch,
            .flag s.limits.latch, .num ((s.engine.published.map Published.seq).getD 0), jobItem s, .num s.time.port,
            .linkRate s.links.rate, .raw (toBE s.links.enables.toNat 1)] ++
          (s.links.notices.cells.map fun d => .flag d.isSome) ++
          [.num s.links.queue.length, .flag (s.link l.other).overrun])
        (taken l .stat [] s))) ∧
  (∀ (l : Link) (args : List Byte) (s : State), Ready l s → args.length ≤ maxArgs → args ≠ [] →
    exec (.stat l args) s = .next (refused l .stat .length args s))

/-- R207 with the tables of values after resets: HARDWARE_RESET gives every block its reset values, keeps the tables, their
checksum, the fault record and the levels of the inputs. When the input is released the straps are read, and a console
request that stands is then taken; while it is held every output is off, no frame is sent, what arrives is discarded, and no
time passes (R204). That the blocks take their reset values from the assertion on is log entry 2; density 0 of the gauge
records and FIXED masses of 0 until the end of verification are log entry 15; the cleared fields of a transfer record are
log entry 23; the source of M at reset is log entry 42; the slot and the readings outside a sweep are log entry 44, and the
countdown of a valve not in travel is log entry 45. -/
def Obligations.HardwareResetGivesEveryBlockItsValues : Prop :=
  (∀ (held a b : Bool) (s : State), ∃ t, exec (.hardwareReset held ⟨a, b⟩) s = .next t ∧
    t.store = { s.store with dataState := .checking, cause := none, window := none, committing := false } ∧
    t.meter = State.reset.meter ∧ t.engine = State.reset.engine ∧ t.limits = State.reset.limits ∧
    t.tracker = State.reset.tracker ∧ t.records = State.reset.records ∧ t.time = State.reset.time ∧
    t.xfer = { State.reset.xfer with valves := t.xfer.valves } ∧
    (∀ ch < 38, t.valve ch =
      Valve.shut.adopt (Feedback.ofLimits (s.inputs.openLimit.get ch) (s.inputs.closedLimit.get ch))) ∧
    t.gauge = { State.reset.gauge with recs := t.gauge.recs } ∧
    (∀ c < 48, t.gaugeRec c = if s.store.tables.isBallast c then some (GaugeRec.unread 0) else none) ∧
    t.links =
      { State.reset.links with
        rate := if held then s.links.rate else match a, b with
          | false, false => .baud9600 | true, false => .baud19200 | false, true => .baud38400 | true, true => .baud115200 } ∧
    t.inputs = { s.inputs with strapA := a, strapB := b, reset := held } ∧ t.pending = s.pending ∧
    ((held = true ∨ s.inputs.consoleRequest = false) → t.console = State.reset.console ∧ t.seq = State.reset.seq) ∧
    (held = false → s.inputs.consoleRequest = true →
      t.console.state = .granted ∧ t.console.grantLine = true ∧ t.seq.core.state = .yielded ∧
        t.seq.saved = some (SeqCore.fresh .empty))) ∧
  (∀ s : State, s.inputs.reset = true →
    (∀ p, exec (.meterPulse p) s = .next s) ∧ exec .secondBoundary s = .next s ∧ exec .verificationEnd s = .next s ∧
    (∀ l b, exec (.frameByteReceived l b) s = .next s) ∧ (∀ m l args, exec (Mnem.command m l args) s = .next s) ∧
    passMillisecond s = s ∧
    (s.console.state = .auto →
      exec .consoleRequestRise s = .next { s with inputs := { s.inputs with consoleRequest := true } }))

/-- R21: VERIFICATION_END in CHECKING. Where the checksum differs, or a check of R18 fails, the data becomes INVALID with the fault
record, which is that of the lowest check that a row in use fails and of the lowest row that fails it (`FirstFailure`, which spells
the failing condition of each check), and nothing else changes; where none fails (`ChecksPass`), the data becomes VALID, the fault record is emptied, the FIXED masses and
the densities of the ballast tanks take their defaults, the valves that become assigned are judged (R98), the first sweep
begins, and the refresh mark is set. That the mark is taken under the mask of that sweep is log entry 29, that the valves are taken
in ascending channel log entry 38, the countdown of a valve that becomes FAULT log entry 45, and the slot reached in a sweep
that polls none log entry 44. Outside CHECKING nothing ends (log entry 6), and nothing while the reset input is held (R207;
log entry 2). That a hand-on in YIELDED is recorded in the live step progress too is log entry 47. -/
def Obligations.VerificationEndsValidOrInvalid : Prop :=
  ∀ s : State,
    ((s.inputs.reset = true ∨ s.store.dataState ≠ .checking) → exec .verificationEnd s = .next s) ∧
    (s.inputs.reset = false → s.store.dataState = .checking →
      (∀ f : FaultRecord,
        ((s.store.tables.checksum ≠ s.store.checksum ∧ f = ⟨.corrupt, none, none, 0⟩) ∨
          (s.store.tables.checksum = s.store.checksum ∧ FirstFailure s.store.tables f)) →
        exec .verificationEnd s =
          .next { s with store := { s.store with dataState := .invalid, cause := some f.cause, fault := some f } }) ∧
      (s.store.tables.checksum = s.store.checksum → ChecksPass s.store.tables →
        ∃ (R : Tab 48 (Option GaugeRec)) (F : Tab 48 Nat) (y t : State),
          (∀ c < 48, R.get c =
            if s.store.tables.isBallast c then
              some { GaugeRec.unread s.store.tables.density with
                changed := ((s.gaugeRec c).map GaugeRec.changed).getD false
                unexplained := ((s.gaugeRec c).map GaugeRec.unexplained).getD 0 }
            else none) ∧
          (∀ c < 48, F.get c = if s.store.tables.isFixed c then s.store.tables.rowMass c else 0) ∧
          GainsValves s { s with
            store := { s.store with dataState := .valid, cause := none, fault := none }
            gauge := { s.gauge with recs := R, swept := false }, engine := { s.engine with fixed := F } } y ∧
          BeginsSweep y t ∧ exec .verificationEnd s = .next (settle s (setRefreshMark t))))

/-- R12: WSEL opens the window on a span of rows of T0 to T6, T8 or T9, in every operation state and every data state but
CHECKING; its checks refuse with LENGTH and RANGE, and a refused WSEL leaves the window as it was. -/
def Obligations.WselOpensTheWindow : Prop :=
  (∀ (s : State) (code first count : Nat), Ready .ship s → code < 256 → first < 65536 → count < 65536 →
    let args := toBE code 1 ++ toBE first 2 ++ toBE count 2
    let u := taken .ship .wsel args s
    (∀ t : TableId, TableId.ofCode code = some t → 1 ≤ count → first + count ≤ t.rows →
      exec (.wsel .ship args) s =
        .next (replied .ship .wsel .done []
          { u with store := { u.store with window := some ⟨t, first, count, first⟩ } })) ∧
    ((TableId.ofCode code = none ∨ count = 0 ∨ ∃ t, TableId.ofCode code = some t ∧ t.rows < first + count) →
      exec (.wsel .ship args) s = .next (refused .ship .wsel .range args s))) ∧
  OtherFormsRefused .wsel (fun args => args.length = 5) ∧ UnknownOnShore .wsel

/-- R13: the first of the six checks that fails refuses a WPUT, which then writes nothing and leaves the position. An
accepted WPUT stores its k rows whole at the position and after it, in the order carried, and advances the position; every
other row of every table is as it was. To T0 to T6 in INVALID or UNCOMMITTED it leaves the data UNCOMMITTED; to T8 and T9 it
does not touch the data state. R15: to T0 to T6 in VALID it leaves the data UNCOMMITTED and withdraws the tables from force:
the sweep and the job are abandoned, the figures withdrawn (R86), every pump's rate 0 in the act itself (R44; log entry 20),
and the valves in travel that lose their assignment stopped and adopted (R96). What the slot, the readings and a countdown hold
that nothing reads is log entries 44 and 45. -/
def Obligations.WputWritesItsRows : Prop :=
  (∀ (s : State) (args : List Byte), Ready .ship s → args.length ≤ maxArgs →
     let no (code : ReplyCode) := exec (.wput .ship args) s = .next (refused .ship .wput code args s)
     (s.store.window = none → no .state) ∧
     (∀ w, s.store.window = some w →
       let k := args.length / w.table.rowSize
       let whole := args.length % w.table.rowSize = 0 ∧ 1 ≤ k ∧ k ≤ w.table.perRequest
       (¬ whole → no .length) ∧
       (whole → w.first + w.count < w.pos + k → no .range) ∧
       (whole → w.pos + k ≤ w.first + w.count →
         (w.table.shipData = true → s.tracker.op = .loading → no .state) ∧
         (w.table.shipData = true → s.tracker.op ≠ .loading →
           ((∃ d : Driver, (s.transfer d).state ≠ .idle) ∨ s.console.state ≠ .auto) → no .busy) ∧
         (w.table = .t9 → s.tracker.exchange = true → no .busy)))) ∧
  (∀ (s : State) (w : Window) (args : List Byte), Ready .ship s → args.length ≤ maxArgs → s.store.window = some w →
     w.first + w.count ≤ w.table.rows →
     let k := args.length / w.table.rowSize
     args.length % w.table.rowSize = 0 → 1 ≤ k → k ≤ w.table.perRequest → w.pos + k ≤ w.first + w.count →
     (w.table.shipData = true → s.tracker.op ≠ .loading ∧ AllIdle s ∧ s.console.state = .auto) →
     (w.table = .t9 → s.tracker.exchange = false) →
     let u := taken .ship .wput args s
     ∃ t, exec (.wput .ship args) s = .next (replied .ship .wput .done [.num ((w.pos + k : Nat) : Int)] t) ∧
       t.store = { u.store with
         tables := t.store.tables, window := some { w with pos := w.pos + k }
         dataState := if w.table.shipData then .uncommitted else s.store.dataState } ∧
       (¬ (w.table.shipData = true ∧ s.store.dataState = .valid) →
         t = { u with
           store := t.store, seq := { u.seq with standby := t.seq.standby }
           tracker := { u.tracker with standby := t.tracker.standby } }) ∧
       (w.table.shipData = true → s.store.dataState = .valid → WithdrawsTables u t) ∧
       (∀ i < k, readRow t w.table (w.pos + i) = (args.drop (i * w.table.rowSize)).take w.table.rowSize) ∧
       ∀ (x : TableId) (i : Nat), ¬ (x = w.table ∧ w.pos ≤ i ∧ i < w.pos + k) → readRow t x i = readRow s x i) ∧
  UnknownOnShore .wput

/-- R14: WGET replies with the position and the k rows from it on as they are stored, and advances the position; its checks
refuse with LENGTH, STATE and RANGE. -/
def Obligations.WgetReadsRowsAndAdvances : Prop :=
  (∀ (s : State) (k : Nat), Ready .ship s → k < 256 →
    let args := toBE k 1
    let u := taken .ship .wget args s
    (s.store.window = none → exec (.wget .ship args) s = .next (refused .ship .wget .state args s)) ∧
    ∀ w, s.store.window = some w →
      ((k = 0 ∨ w.table.perRequest < k ∨ w.first + w.count < w.pos + k) →
        exec (.wget .ship args) s = .next (refused .ship .wget .range args s)) ∧
      (1 ≤ k → k ≤ w.table.perRequest → w.pos + k ≤ w.first + w.count →
        exec (.wget .ship args) s =
          .next (replied .ship .wget .done
            [.num w.pos, .raw ((List.range k).flatMap fun i => readRow s w.table (w.pos + i))]
            { u with store := { u.store with window := some { w with pos := w.pos + k } } }))) ∧
  OtherFormsRefused .wget (fun args => args.length = 1) ∧ UnknownOnShore .wget

/-- R17: SDCM is refused with LENGTH on arguments and with STATE in LOADING; otherwise it starts the commit, stays the
current request with no reply yet, and nothing else changes. R16, R18 and R20: a commit in which a check fails sets the fault
record to the lowest check that a row in use fails, with its table and the lowest row that fails it (`FirstFailure`, which spells the
failing condition of each check), and leaves the data INVALID, with the stored checksum and the rows as they were, and replies DATA with the data state
and the fault record. Where the data was not VALID nothing else changes; where it was, the tables are withdrawn from force
(R15), with every pump's rate 0 in the act itself (R44; log entry 20), and slot, readings and valve countdowns that nothing
reads as log entries 44 and 45 say. R197: a request that waits on the shore link is then served. With no commit running
nothing completes (log entry 6). -/
def Obligations.SdcmStartsACommitThatMayFail : Prop :=
  ((∀ s : State, Ready .ship s →
     let u := taken .ship .sdcm [] s
     (s.tracker.op = .loading → exec (.sdcm .ship []) s = .next (refused .ship .sdcm .state [] s)) ∧
     (s.tracker.op ≠ .loading → exec (.sdcm .ship []) s = .next { u with store := { u.store with committing := true } })) ∧
   OtherFormsRefused .sdcm (fun args => args = []) ∧ UnknownOnShore .sdcm) ∧
  (∀ s : State, s.store.committing = false → exec .commitComplete s = .next s) ∧
  (∀ (s : State) (f : FaultRecord), s.store.committing = true → FirstFailure s.store.tables f →
     let s0 : State := { s with store := { s.store with committing := false } }
     let failed : Store := { s0.store with dataState := .invalid, cause := some f.cause, fault := some f }
     let replies (w : State) : Prop := exec .commitComplete s =
       .next (serve .shore (replied .ship .sdcm .data
         [.dataState .invalid, .dataCause f.cause, natOr f.table, natOr f.row, .num f.check] w))
     (s.store.dataState ≠ .valid → replies { s0 with store := failed }) ∧
     (s.store.dataState = .valid →
       ∃ w, w.store = failed ∧ WithdrawsTables s0 w ∧ replies (settle s0 w))) ∧
  (∀ (l : Link) (w : State),
     ((w.link l).waiting = none → serve l w = w) ∧
     (∀ payload, (w.link l).waiting = some payload →
       (((w.link l).current.isSome ∨ (w.link l).tx.isSome ∨ w.store.committing = true) → serve l w = w) ∧
       ((w.link l).current = none → (w.link l).tx = none → w.store.committing = false →
         serve l w =
           judgeRequest l payload (w.setLink l { w.link l with waiting := none, current := some payload }))))

/-- R19 with R40, R75, R79, R86 and R173: a commit in which no row fails a check of R18 (`ChecksPass`, which spells the failing
condition of each check) stores the checksum, which is the CRC-32 of every byte of T0 to T6 in ascending row, reflected, with
polynomial 0x04C11DB7 from all ones and inverted at the end, makes the data VALID, empties
the fault record, restarts the condition sequence at 1, sets every gauge record UNREAD at the default density and every FIXED
mass to its default, voids the console's tank snapshot, withdraws the figures where the data was VALID, judges the valves
that become assigned (R98), begins a sweep, sets the refresh mark, and replies DONE with the checksum; a request that waits
on the shore link is then served (R197). That the mark is taken under the mask of that sweep is log entry 29, that the valves
are taken in ascending channel log entry 38, the countdown of a valve that becomes FAULT log entry 45, and the slot and the
readings outside a sweep log entry 44. That a hand-on in YIELDED is recorded in the live step progress too is log entry
47. -/
def Obligations.ACommitThatPassesPutsTheTablesInForce : Prop :=
  (∀ T : Tables,
    let shift (c : BitVec 32) : BitVec 32 := if c.getLsbD 0 = true then (c >>> 1) ^^^ 0xEDB88320#32 else c >>> 1
    let rows {n k : Nat} (t : Tab n (Tab k Byte)) : List Byte := t.cells.flatMap Tab.cells
    T.checksum = ~~~ ((rows T.t0 ++ rows T.t1 ++ rows T.t2 ++ rows T.t3 ++ rows T.t4 ++ rows T.t5 ++ rows T.t6).foldl
      (fun c b => (List.range 8).foldl (fun c _ => shift c) (c ^^^ b.setWidth 32)) 0xFFFFFFFF#32)) ∧
  ∀ s : State, s.store.committing = true → ChecksPass s.store.tables →
    let T := s.store.tables
    let was := s.store.dataState = .valid
    let s0 : State := { s with store := { s.store with committing := false } }
    let withdrawn : Limits := { s.limits with
      judgedSeq := 0, clearances := Tab.replicate 12 none, deepest := none, trim := none, flags := LimitFlags.clear }
    ∃ (R : Tab 48 (Option GaugeRec)) (F : Tab 48 Nat) (y t : State),
      (∀ c < 48, R.get c =
        if T.isBallast c then
          some { GaugeRec.unread T.density with
            changed := ((s.gaugeRec c).map GaugeRec.changed).getD false
            unexplained := ((s.gaugeRec c).map GaugeRec.unexplained).getD 0 }
        else none) ∧
      (∀ c < 48, F.get c = if T.isFixed c then T.rowMass c else 0) ∧
      GainsValves s0 { s with
        store :=
          { s.store with committing := false, checksum := T.checksum, dataState := .valid, cause := none, fault := none }
        gauge := { s.gauge with
          recs := R, swept := false, sweeping := false, slot := 0, poll := none, countdown := none
          readings := Tab.replicate 32 .notPolled }
        engine := ⟨none, none, false, none, none, 1, none, F⟩
        limits := if was then withdrawn else s.limits
        links := if was ∧ s.limits.flags.any = true then
            (raise (limitDetail s.limits.flags s.limits.watch.cautionFlag { s with limits := withdrawn }) s).links
          else s.links
        console := { s.console with snapshot := none } } y ∧
      BeginsSweep y t ∧
      exec .commitComplete s =
        .next (serve .shore (replied .ship .sdcm .done [.num T.checksum.toNat] (settle s0 (setRefreshMark t))))

/-- R33 with R32 and R173: an accepted TDEN sets the tank's density, recomputes the mass and the reference mass of a tank
that is GOOD or HELD, keeps the mass of any other, carries the density into a tank snapshot of a grant, and sets the refresh
mark; the checks refuse with LENGTH, DATA and RANGE (the place of LENGTH before them is log entry 11). That an estimated tank
keeps a mass above its capacity mass is log entry 48. -/
def Obligations.TdenSetsADensity : Prop :=
  (∀ (s : State) (c ρ : Nat) (g : GaugeRec), Ready .ship s → c < 256 → ρ < 65536 →
    let args := toBE c 1 ++ toBE ρ 2
    let u := taken .ship .tden args s
    (s.store.dataState ≠ .valid → exec (.tden .ship args) s = .next (refusedData .ship .tden args s)) ∧
    (s.store.dataState = .valid → (s.store.tables.isBallast c = false ∨ ρ < 990 ∨ 1050 < ρ) →
      exec (.tden .ship args) s = .next (refused .ship .tden .range args s)) ∧
    (s.store.dataState = .valid → s.store.tables.isBallast c = true → 990 ≤ ρ → ρ ≤ 1050 → s.gaugeRec c = some g →
      let m := rdivN (g.volume * ρ) 1000
      let g' := if g.state = .good ∨ g.state = .held then { g with density := ρ, mass := m, refMass := m }
        else { g with density := ρ }
      let v : State := { u with
        gauge := { u.gauge with recs := u.gauge.recs.set c (some g') }
        console := { u.console with
          snapshot := u.console.snapshot.map fun x =>
            x.set c ((x.get c).map fun t => { t with mass := rdivN (t.volume * ρ) 1000 }) } }
      exec (.tden .ship args) s = .next (replied .ship .tden .done [] (setRefreshMark v)))) ∧
  OtherFormsRefused .tden (fun args => args.length = 3)

/-- R22 and R23: the first answer that names the polled slot within the window yields the slot's reading, as does the
window's expiry; the sweep then polls the next slot whose flag is set in the current mask and which is a tank's, and passes
the others over. Any other answer is discarded, and no gauge record is touched. The reading of the last slot, or the expiry
of the countdown of a sweep that polls no slot, ends the sweep; with no poll outstanding an answer is discarded and an expiry
finds nothing (log entry 6). -/
def Obligations.ReadingsMoveTheSweepToItsEnd : Prop :=
  (∀ (s : State) (n : Nat), s.gauge.poll.isSome →
     s.gauge.slot < n → n < s.store.tables.slots → polled s n = true →
     (∀ m, s.gauge.slot < m → m < n → polled s m = false) →
     let slot := s.gauge.slot
     let moved (r : Reading) : State := { s with
       gauge := { s.gauge with
         readings := s.gauge.readings.set slot r, slot := n, poll := some 100, countdown := none } }
     (∀ mm ≤ 40000, exec (.sensorAnswer (.level slot mm)) s = .next (moved (.level mm))) ∧
     (∀ mm > 40000, exec (.sensorAnswer (.level slot mm)) s = .next (moved (.fault .range))) ∧
     exec (.sensorAnswer (.fault slot)) s = .next (moved (.fault .sensor)) ∧
     exec .replyWindowExpiry s = .next (moved (.fault .noReply)) ∧
     (∀ m mm, m ≠ slot → exec (.sensorAnswer (.level m mm)) s = .next s ∧ exec (.sensorAnswer (.fault m)) s = .next s) ∧
     exec (.sensorAnswer .garbled) s = .next s) ∧
  ((∀ s : State, s.gauge.poll.isSome →
     (∀ m, s.gauge.slot < m → m < s.store.tables.slots → polled s m = false) →
     let slot := s.gauge.slot
     let last (r : Reading) : State := { s with
       gauge := { s.gauge with readings := s.gauge.readings.set slot r, poll := none } }
     (∀ mm ≤ 40000, exec (.sensorAnswer (.level slot mm)) s = .next (finishSweep (last (.level mm)))) ∧
     (∀ mm > 40000, exec (.sensorAnswer (.level slot mm)) s = .next (finishSweep (last (.fault .range)))) ∧
     exec (.sensorAnswer (.fault slot)) s = .next (finishSweep (last (.fault .sensor))) ∧
     exec .replyWindowExpiry s = .next (finishSweep (last (.fault .noReply))) ∧
     (∀ m mm, m ≠ slot → exec (.sensorAnswer (.level m mm)) s = .next s ∧ exec (.sensorAnswer (.fault m)) s = .next s) ∧
     exec (.sensorAnswer .garbled) s = .next s) ∧
   (∀ s : State, s.gauge.countdown.isSome → exec .sweepCountdownExpiry s = .next (finishSweep s)) ∧
   (∀ s : State, s.gauge.countdown = none → exec .sweepCountdownExpiry s = .next s) ∧
   (∀ (s : State) (a : SensorAnswer), s.gauge.poll = none →
     exec (.sensorAnswer a) s = .next s ∧ exec .replyWindowExpiry s = .next s))

/-- R27, R28, R30, R31, R35, R36 and R38: what a sweep end's reading makes of a gauge record, for every state of the gauge, and
what it leaves: the corrected sounding is converted by the pair of points that brackets it, where the soundings rise as R9 has
them, and below and above the table takes the first point's volume and the capacity volume; a FAULT and a NOT POLLED reading
keep the soundings, the density, the reference mass and the account of unexplained change, and the base of an estimate is taken
at the entry into it alone, its count only where a pump moves the tank's water. That an estimated tank in no pumped transfer keeps
a mass above its capacity mass is log entry 48. -/
def Obligations.AGaugeRecordFollowsItsReading : Prop :=
  ∀ (s : State) (trim : Int) (c : Nat) (g : GaugeRec),
    let T := s.store.tables
    let H := T.holdCount
    (∀ x : Nat,
      let v := converted T c x
      let last := T.points c - 1
      (x < T.sounding c 0 → v = (T.volumeAt c 0, .below)) ∧
      (T.sounding c 0 ≤ x → T.sounding c last < x → v = (T.volumeAt c last, .above)) ∧
      (T.sounding c 0 ≤ x → x ≤ T.sounding c last → v.2 = .within ∧
        ((∀ k < last, T.sounding c k < T.sounding c (k + 1)) →
          ∀ lo < last, T.sounding c lo ≤ x → x ≤ T.sounding c (lo + 1) →
            (v.1 : Int) = T.volumeAt c lo +
              rdiv (((T.volumeAt c (lo + 1) : Int) - T.volumeAt c lo) * ((x : Int) - T.sounding c lo))
                (T.sounding c (lo + 1) - T.sounding c lo)))) ∧
    (∀ mm : Nat,
      let x := (max 0 ((mm : Int) - rdiv (trim * (T.centre c - T.gaugeX c)) T.lbp)).toNat
      let m := rdivN ((converted T c x).1 * g.density) 1000
      updateGauge s trim c (.level mm) g =
        { g with
          raw := mm, corrected := x, volume := (converted T c x).1, offTable := (converted T c x).2, mass := m
          state := .good, faultCount := 0, lastFault := none, neverRead := false
          refMass := if g.state = .good ∨ g.state = .held then g.refMass else m }) ∧
    (∀ k,
      let g' := updateGauge s trim c (.fault k) g
      g'.state = (if H ≤ g.faultCount + 1 then .lost else match g.state with
        | .unread => .unread | .good => .held | .held => .held | .lost => .lost | .masked => .lost) ∧
      g'.faultCount = (if g.faultCount < H then g.faultCount + 1 else g.faultCount) ∧ g'.lastFault = some k ∧
      (g'.source = .gauge ∨ pumpedOn s c = none → g'.mass = g.mass ∧ g'.volume = g.volume)) ∧
    (let g' := updateGauge s trim c .notPolled g;
      g'.state = .masked ∧ g'.faultCount = g.faultCount ∧ g'.lastFault = g.lastFault ∧
        (pumpedOn s c = none → g'.mass = g.mass ∧ g'.volume = g.volume)) ∧
    (∀ r, (r = .notPolled ∨ ∃ k, r = .fault k) →
      let g' := updateGauge s trim c r g
      g'.raw = g.raw ∧ g'.corrected = g.corrected ∧ g'.offTable = g.offTable ∧ g'.density = g.density ∧
        g'.neverRead = g.neverRead ∧ g'.refMass = g.refMass ∧ g'.changed = g.changed ∧ g'.unexplained = g.unexplained ∧
        ((g.source = .estimate ∨ g'.source = .gauge) → g'.baseMass = g.baseMass ∧ g'.baseCount = g.baseCount) ∧
        (g.source = .gauge → g'.source = .estimate → pumpedOn s c = none →
          g'.baseMass = g.mass ∧ g'.baseCount = g.baseCount)) ∧
    (∀ r d p, pumpedOn s c = some (d, p) → (r = .notPolled ∨ ∃ k, r = .fault k) →
      let g' := updateGauge s trim c r g
      g'.source = .estimate →
        let base := if g.source = .gauge then g.mass else g.baseMass
        let count := if g.source = .gauge then (s.pumpMeter p).total else g.baseCount
        let pulses := ((s.pumpMeter p).total + 4294967296 - count) % 4294967296
        let moved : Int := (rdivN (rdivN (pulses * T.factor d) 10000 * g.density) 1000 : Nat)
        let est : Int := if (s.transfer d).direction = .discharge then base - moved else base + moved
        g'.baseMass = base ∧ g'.baseCount = count ∧ g'.mass = (min (T.capacityMass c g.density : Int) (max 0 est)).toNat ∧
          g'.volume = rdivN (g'.mass * 1000) g.density)

/-- R22, R25, R29, R37, R51, R55, R112 and R173: a sweep end brings every gauge record up to date from the readings with the
published trim, judges unexplained change of the tanks that no transfer holds while the grant line is off, stamps the sweep
end, raises the GAUGE and CHANGE notices, brings the gravity rates up to date, sets the refresh mark, makes the end checks of
the transfers in hand, hands their ends on, and begins the next sweep with the next mask. The order of these acts, in which
the mark is set before the next sweep takes its mask, is log entry 12; the lowest tank is the one the GAUGE notice
names, and the highest the one whose CHANGE detail stays. That a hand-on in YIELDED is recorded in the live step progress too
is log entry 47. -/
def Obligations.ASweepEndUpdatesTheTanks : Prop :=
  (∀ s : State,
    let T := s.store.tables
    let port := s.time.port
    let trim := (s.engine.published.map fun p => p.cond.trim).getD 0
    let fresh (c : Nat) : Option GaugeRec :=
      (s.gaugeRec c).map (updateGauge s trim c (s.gauge.readings.get (T.gaugeSlot c)))
    let drift (c : Nat) : Option Int := match fresh c with
      | some g =>
        let Δ : Int := (g.mass : Int) - g.refMass
        if (g.state = .good ∨ g.state = .held) ∧ (∀ d ∈ drivers, (s.transfer d).state ≠ .idle → (s.transfer d).tank ≠ c) ∧
            s.console.grantLine = false ∧ T.drift < Δ.natAbs then some Δ else none
      | none => none
    let turned (c : Nat) : Bool := match s.gaugeRec c, fresh c with
      | some a, some b => match b.state with
        | .held | .lost | .masked => a.state != b.state
        | .good => a.state == .held || a.state == .lost || a.state == .masked
        | .unread => false
      | _, _ => false
    ∃ u : State,
      u = { s with
        gauge := { s.gauge with
          recs := u.gauge.recs, prevStamp := s.gauge.lastStamp, lastStamp := some port, swept := true }
        meter := { s.meter with g0 := u.meter.g0, g1 := u.meter.g1 }
        links := { s.links with notices := u.links.notices } } ∧
      (∀ c < 48, u.gaugeRec c = (fresh c).map fun g => match drift c with
        | some Δ => { g with changed := true, unexplained := g.unexplained + Δ, refMass := g.mass }
        | none => g) ∧
      (∀ c < 48, ∀ b, turned c = true → (∀ k < c, turned k = false) → fresh c = some b →
        u.links.notices.get 5 = if s.links.enables.getLsbD 3 then
            some (.gauge c b.state b.lastFault ((List.range 48).filter turned).length)
          else s.links.notices.get 5) ∧
      ((∀ c < 48, turned c = false) → u.links.notices.get 5 = s.links.notices.get 5) ∧
      (∀ c < 48, ∀ Δ, drift c = some Δ → (∀ k < 48, c < k → drift k = none) →
        u.links.notices.get 7 = if s.links.enables.getLsbD 5 then some (.change c Δ) else s.links.notices.get 7) ∧
      ((∀ c < 48, drift c = none) → u.links.notices.get 7 = s.links.notices.get 7) ∧
      (∀ k : NoticeKind, k ≠ .gauge → k ≠ .change → u.links.notices.get k.place = s.links.notices.get k.place) ∧
      (∀ d : Driver, d.gravity = true →
        let x := s.transfer d
        let g := s.gravityRec d
        let v := tankVolume u x.tank
        let reading := s.gauge.readings.get (T.gaugeSlot x.tank)
        let flows := x.state = .running ∨ x.state = .handedOver
        (¬ flows → u.gravityRec d = ⟨0, none⟩) ∧
        (flows → (∀ mm, reading ≠ .level mm) → u.gravityRec d = g) ∧
        (flows → ∀ mm, reading = .level mm →
          (g.baseline = none → u.gravityRec d = { g with baseline := some ⟨v, port⟩ }) ∧
          ∀ b, g.baseline = some b →
            (b.stamp < port → u.gravityRec d = ⟨rdivN ((b.volume - v) * 360) (port - b.stamp), some ⟨v, port⟩⟩) ∧
            (b.stamp = port → u.gravityRec d = g) ∧
            (port < b.stamp → u.gravityRec d = { g with baseline := some ⟨v, port⟩ }))) ∧
      finishSweep s = beginSweep (stopSweep (settle s (drivers.foldl sweepCheck (setRefreshMark u)))) ∧
      (AllIdle s → HandsNothingOn s → finishSweep s = beginSweep (stopSweep (setRefreshMark u)))) ∧
  (∀ (w : State) (d : Driver),
    let x := w.transfer d
    let t := sweepCheck w d
    let unmeasured := d.gravity = true ∧ estimated w x.tank = true
    let low := d.gravity = true ∧ headLow w x.tank = true
    let above := x.direction = .fill ∧ ∃ g, w.gaugeRec x.tank = some g ∧ g.offTable = .above
    let reached := if x.direction = .discharge then tankMass w x.tank ≤ x.targetMass else x.targetMass ≤ tankMass w x.tank
    (x.state.active = true →
      (unmeasured → ClosesWith d .noMeasure w t) ∧ (¬ unmeasured → low → ClosesWith d .headLost w t) ∧
      (¬ unmeasured → ¬ low → above → ClosesWith d .overfill w t) ∧
      (¬ unmeasured → ¬ low → ¬ above → reached → ClosesWith d .target w t) ∧
      (¬ unmeasured → ¬ low → ¬ above → ¬ reached → t = w)) ∧
    (x.state = .handedOver →
      (reached → w.console.reached.get d = false →
        t = raise (.targetReached d x.tank x.owner (tankMass w x.tank))
          { w with console := { w.console with reached := w.console.reached.set d true } }) ∧
      ((¬ reached ∨ w.console.reached.get d = true) → t = w)) ∧
    ((x.state = .idle ∨ x.state = .closing) → t = w))

/-- R42 and R111: a pulse is taken whole: the total and the open bin, the transfer's pulse count or the unattributed count,
and by the phase the countdown and the entry into RUNNING, which is handed to the Sequencer. That a transfer's pulse count
wraps at 2^32 as the pulse total does is log entry 27; while the reset input is held no pulse is counted (log entry 2). That
a hand-on in YIELDED is recorded in the live step progress too is log entry 47. -/
def Obligations.APulseIsTakenWhole : Prop :=
  ∀ (p : Pump) (s : State),
    (s.inputs.reset = true → exec (.meterPulse p) s = .next s) ∧
    (s.inputs.reset = false →
      let m := s.pumpMeter p
      let x := s.transfer p.driver
      let first := m.phase = .priming ∧ x.state = .priming
      ∃ t, exec (.meterPulse p) s = .next (settle s t) ∧
        (t.pumpMeter p).total = (m.total + 1) % 4294967296 ∧
        (t.pumpMeter p).bins = m.bins.set 9 (m.bins.get 9 + 1) ∧ (t.pumpMeter p).rate = m.rate ∧
        (t.pumpMeter p).unattributed =
          (if x.state = .idle ∧ m.unattributed < 4294967295 then m.unattributed + 1 else m.unattributed) ∧
        (t.pumpMeter p).phase = (if m.phase = .off then .off else .flowWatch) ∧
        (t.pumpMeter p).countdown =
          (if m.phase = .off then m.countdown else s.store.tables.noFlowTime p.driver * 10) ∧
        t.transfer p.driver =
          (if x.state = .idle then x
          else { x with pulses := (x.pulses + 1) % 4294967296, state := if first then .running else x.state }) ∧
        t.seq = (if first then s.seq.told p.driver (fun q => { q with entered := true }) else s.seq) ∧
        (∀ q : Pump, q ≠ p → t.pumpMeter q = s.pumpMeter q) ∧ (∀ d : Driver, d ≠ p.driver → t.transfer d = s.transfer d) ∧
        t = { s with
          meter := { t.meter with g0 := s.meter.g0, g1 := s.meter.g1 }
          xfer := { s.xfer with transfers := t.xfer.transfers }, seq := t.seq })

/-- R48, R49 and R50: the expiry of the priming countdown ends the transfer NO_FLOW, and that of the no-flow countdown ends
it STRIPPED where a discharge has its tank at or below the residual mass, and NO_FLOW otherwise; an expiry whose phase is
over, or whose countdown a pulse has loaded again, changes nothing (log entry 6). R104: a fall of the running feedback from
present to absent in PRIMING or RUNNING ends the transfer PUMP_TRIP; any other change of the feedback, and a rise in any
state, changes the input alone. Each end is then handed on. That a hand-on in YIELDED is recorded in the live step progress
too is log entry 47. -/
def Obligations.ExpiriesAndTripsEndAPumpedTransfer : Prop :=
  (∀ (p : Pump) (s : State),
     let x := s.transfer p.driver
     let m := s.pumpMeter p
     let off := s.setPumpMeter p { m with phase := .off, countdown := 0 }
     let flow := m.phase = .flowWatch ∧ m.countdown = 0
     (m.phase = .priming →
       (x.state.active = true →
         ∃ t, exec (.primingExpiry p) s = .next (settle s t) ∧ ClosesWith p.driver .noFlow s t) ∧
       (x.state.active = false → exec (.primingExpiry p) s = .next (settle s off))) ∧
     (flow →
       (x.state.active = true →
         ∃ t, exec (.noFlowExpiry p) s = .next (settle s t) ∧
           ClosesWith p.driver
             (if x.direction = .discharge ∧ tankMass s x.tank ≤ s.store.tables.residual x.tank then .stripped else .noFlow)
             s t) ∧
       (x.state.active = false → exec (.noFlowExpiry p) s = .next (settle s off))) ∧
     (m.phase ≠ .priming → exec (.primingExpiry p) s = .next s) ∧ (¬ flow → exec (.noFlowExpiry p) s = .next s)) ∧
  (∀ (p : Pump) (s : State),
     let x := (s.transfer p.driver).state
     let fallen : State := { s with inputs := s.inputs.setRunning p false }
     (s.inputs.running p = true → (x = .priming ∨ x = .running) →
       ∃ t, exec (.runningFeedbackFall p) s = .next (settle s t) ∧ ClosesWith p.driver .pumpTrip fallen t) ∧
     ((s.inputs.running p = false ∨ (x ≠ .priming ∧ x ≠ .running)) →
       exec (.runningFeedbackFall p) s = .next fallen) ∧
     exec (.runningFeedbackRise p) s = .next { s with inputs := s.inputs.setRunning p true })

/-- R118: XSTP ends a transfer in OPENING, PRIMING or RUNNING with reason STOPPED, whatever its owner, and changes nothing
for any other; the end is handed on, and the reply gives the state then (log entry 36). Its checks refuse with LENGTH, STATE,
CONSOLE and RANGE. That a hand-on in YIELDED is recorded in the live step progress too is log entry 47. -/
def Obligations.XstpStopsATransfer : Prop :=
  (∀ (s : State) (d : Driver), Ready .ship s → s.tracker.op = .loading → s.console.state = .auto →
    let args := toBE d.code 1
    let u := taken .ship .xstp args s
    ∃ t, exec (.xstp .ship args) s =
        .next (replied .ship .xstp .done [.xferState ((settle u t).transfer d).state] (settle u t)) ∧
      ((s.transfer d).state.active = true → ClosesWith d .stopped u t) ∧ ((s.transfer d).state.active = false → t = u)) ∧
  (∀ (s : State) (b : Byte), Ready .ship s →
    let no (code : ReplyCode) := exec (.xstp .ship [b]) s = .next (refused .ship .xstp code [b] s)
    (s.tracker.op ≠ .loading → no .state) ∧
    (s.tracker.op = .loading → s.console.state ≠ .auto → no .console) ∧
    (s.tracker.op = .loading → s.console.state = .auto → 5 < b.toNat → no .range)) ∧
  OtherFormsRefused .xstp (fun args => args.length = 1) ∧ UnknownOnShore .xstp

/-- R106 and R109: XSTA is refused by the first of the eleven start checks that fails, with its reply code and cause, and changes
nothing. `StartFails` spells the failing condition of each check: (1) the operation state is not LOADING; (2) the console is not
AUTO; (3) an argument is outside its codes and ranges; (4) the tank is not eligible for the pump, or has not the gravity line; (5) a
paced start of a gravity line or of a fixed-speed pump; (6) the driver's transfer is not IDLE; (7) the tank is that of a transfer
that is not IDLE; (8) the tank valve or the line valve is FAULT; and of a gravity line (9) the tank's content source is ESTIMATE,
(10) no condition is published, (11) the head is below the minimum. A payload of another form is refused with LENGTH. -/
def Obligations.XstaIsRefusedByTheFirstCheck : Prop :=
  (∀ (s : State) (d tank dir target paced base : Nat) (cause : StartCause), Ready .ship s → d < 256 → tank < 256 → dir < 256 →
    target < 4294967296 → paced < 256 → base < 256 → StartRefused s ⟨d, tank, dir, target, paced, base⟩ cause →
    let args := toBE d 1 ++ toBE tank 1 ++ toBE dir 1 ++ toBE target 4 ++ toBE paced 1 ++ toBE base 1
    let code : ReplyCode := match cause with
      | .notLoading => .state
      | .console => .console
      | .badArgument => .range
      | .notEligible => .range
      | .paceFixed => .range
      | .driverBusy => .busy
      | .tankBusy => .busy
      | .valveFault => .valve
      | .noMeasure => .state
      | .noCondition => .state
      | .lowHead => .state
    exec (.xsta .ship args) s = .next (replied .ship .xsta code [.startCause cause] (taken .ship .xsta args s))) ∧
  OtherFormsRefused .xsta (fun args => args.length = 9) ∧ UnknownOnShore .xsta

/-- R106 and R108 to R110: an XSTA none of whose eleven start checks fails (`StartPasses`: LOADING, AUTO, arguments within their codes
and ranges, an eligible driver, no pace at a fixed speed, driver and tank not busy, no valve FAULT, and for a gravity line a
measured tank, a condition and head) is accepted, whatever the state is otherwise. In one act it makes the transfer record, takes
the base of an estimate (R35), and commands both valves OPEN; where both are OPEN already the transfer goes on to PRIMING or
RUNNING, which the Sequencer hears where the START in hand is of this driver; and nothing else changes: the gauge masks, the
sweep, the Sequencer, the pacing, the other drivers' transfers and the other pumps' outputs stay (`StartsTransfer`). The reply
is DONE with the target mass, the setpoint and the state of the transfer. That a fixed-speed pump's speed output stays 0 is
log entry 16; what a command makes of a valve is spelled out with VALV (R97; log entries 28 and 45). -/
def Obligations.XstaStartsATransfer : Prop :=
  ∀ (s : State) (d : Driver) (tank dir target paced base : Nat), Ready .ship s → tank < 256 → dir < 256 →
    target < 4294967296 → paced < 256 → base < 256 → StartPasses s ⟨d.code, tank, dir, target, paced, base⟩ →
    let args := toBE d.code 1 ++ toBE tank 1 ++ toBE dir 1 ++ toBE target 4 ++ toBE paced 1 ++ toBE base 1
    ∃ t, StartsTransfer .link none
        { driver := d, tank := tank, direction := if dir = 1 then .fill else .discharge
          target := if target = 4294967295 then .empty else .mass target, paced := paced == 1, base := base }
        (taken .ship .xsta args s) t ∧
      exec (.xsta .ship args) s = .next (replied .ship .xsta .done
        [.num (t.transfer d).targetMass, natOr (t.transfer d).setpoint, .xferState (t.transfer d).state] t)

/-- R102: VALV with CLOSE closes a valve that is of no transfer and not FAULT, in AUTO; its checks refuse with DATA, RANGE,
CONSOLE, BUSY and VALVE, and any other form with LENGTH. Request arguments with R96: an identity names the tank valve of a
BALLAST compartment, whose channel is its gauge slot, or a line valve on channels 32 to 37, where the channel is assigned; no
other byte names a valve. R97 and R101: what a command to an end makes of a valve, in every state, as every command of the part
does: the commanded field takes the end and the hand-set flag is cleared; toward the other end the travel begins or reverses
with the full travel time and the drive of that end; to the same end the travel runs on; and a FAULT stays, with no drive
energised. A valve whose feedback already shows the end arrives at once (log entry 28), its countdown at 0 (log entry 45). -/
def Obligations.ValvClosesAFreeValve : Prop :=
  ((∀ (s : State) (id : Byte), Ready .ship s →
     let args : List Byte := [id, 1#8]
     let no (code : ReplyCode) := exec (.valv .ship args) s = .next (refused .ship .valv code args s)
     (s.store.dataState ≠ .valid → exec (.valv .ship args) s = .next (refusedData .ship .valv args s)) ∧
     (s.store.dataState = .valid →
       (namedValve s id.toNat = none → no .range) ∧
       ∀ ch, namedValve s id.toNat = some ch →
         (s.console.state ≠ .auto → no .console) ∧
         (s.console.state = .auto → (holderOf s ch).isSome → no .busy) ∧
         (s.console.state = .auto → holderOf s ch = none → (s.valve ch).state = .fault → no .valve) ∧
         (s.console.state = .auto → holderOf s ch = none → (s.valve ch).state ≠ .fault →
           let t := commandValve ch .closed (taken .ship .valv args s)
           exec (.valv .ship args) s = .next (replied .ship .valv .done (valveItems (t.valve ch)) t)))) ∧
   OtherFormsRefused .valv (fun args => args.length = 1 ∨ ∃ id, args = [id, 1#8]) ∧ UnknownOnShore .valv) ∧
  (∀ (s : State) (id ch : Nat), namedValve s id = some ch ↔
     s.store.dataState = .valid ∧
       ((id < 48 ∧ s.store.tables.isBallast id = true ∧ ch = s.store.tables.gaugeSlot id ∧ assigned s ch = true) ∨
         ∃ d : Driver, id = 48 + d.code ∧ ch = 32 + d.code ∧ s.store.tables.fitted d = true)) ∧
  (∀ (s : State) (ch : Nat) (e : ValveEnd),
    commandValve ch e s =
      s.setValve ch ((s.valve ch).command e (s.store.tables.travel ch * 10) (feedback s ch))) ∧
  (∀ (v : Valve) (e : ValveEnd) (n : Nat) (fb : Feedback),
    let told : Valve := { v with commanded := e, handSet := false }
    let same := (e = .opened ∧ (v.state = .opened ∨ v.state = .opening)) ∨
      (e = .closed ∧ (v.state = .closed ∨ v.state = .closing))
    let shown := (e = .opened ∧ fb = .opened) ∨ (e = .closed ∧ fb = .closed)
    ((v.state = .fault ∨ same) → v.command e n fb = told) ∧
    (v.state ≠ .fault → ¬ same → ¬ shown →
      v.command e n fb =
        { told with state := if e = .opened then .opening else .closing, countdown := n, drive := some e }) ∧
    (v.state ≠ .fault → ¬ same → shown →
      v.command e n fb =
        { told with state := if e = .opened then .opened else .closed, countdown := 0, drive := none }))

/-- R103: VCLR clears the fault of a valve of no transfer, in AUTO, by adopting the end its feedback shows; its checks refuse
with LENGTH, DATA, RANGE, CONSOLE, STATE, BUSY and VALVE in that order. -/
def Obligations.VclrAdoptsTheShownEnd : Prop :=
  (∀ (s : State) (id : Byte), Ready .ship s →
    let args : List Byte := [id]
    let u := taken .ship .vclr args s
    let no (code : ReplyCode) := exec (.vclr .ship args) s = .next (refused .ship .vclr code args s)
    (s.store.dataState ≠ .valid → exec (.vclr .ship args) s = .next (refusedData .ship .vclr args s)) ∧
    (s.store.dataState = .valid →
      (namedValve s id.toNat = none → no .range) ∧
      ∀ ch, namedValve s id.toNat = some ch →
        (s.console.state ≠ .auto → no .console) ∧
        (s.console.state = .auto → (s.valve ch).state ≠ .fault → no .state) ∧
        (s.console.state = .auto → (s.valve ch).state = .fault →
          ((holderOf s ch).isSome → no .busy) ∧
          (holderOf s ch = none →
            ((feedback s ch = .neither ∨ feedback s ch = .both) → no .valve) ∧
            (∀ e : ValveEnd, feedback s ch = e.feedback →
              exec (.vclr .ship args) s =
                .next (replied .ship .vclr .done [.valveEnd e]
                  (u.setValve ch
                    { s.valve ch with commanded := e, state := e.standing, cause := none, handSet := false }))))))) ∧
  OtherFormsRefused .vclr (fun args => args.length = 1) ∧ UnknownOnShore .vclr

/-- R97 to R100: a change of an assigned valve's limits: SWITCH_DISAGREE in every state but FAULT; arrival in travel where the
feedback shows the commanded end alone; UNCOMMANDED where the commanded limit of a standing valve breaks, but not while the
console is GRANTED; and nothing otherwise. An arrival is handed to the transfer that holds the valve, which goes on to
PRIMING or RUNNING (R110) or returns to IDLE (R115); a FAULT raises the VALVE notice and ends that transfer VALVE_FAULT
(R100). A valve that is not assigned is not supervised. R98: the travel countdown of a valve in travel runs out before the
valve arrives: FAULT STUCK; a valve not in travel is left as it is (log entry 6). The countdown of a valve that has arrived or
failed is log entry 45. That a hand-on in YIELDED is recorded in the live step progress too is log entry 47. -/
def Obligations.AValveIsJudgedByItsLimitsAndItsTime : Prop :=
  (∀ (s : State) (ch : Fin 38) (a b : Bool),
     let v := s.valve ch.val
     let s1 := s.setLimitInputs ch.val a b
     let fb := Feedback.ofLimits a b
     let e := v.commanded
     let broke := e.limitMade (s.inputs.openLimit.get ch.val) (s.inputs.closedLimit.get ch.val) = true ∧
       e.limitMade a b = false
     let out := exec (.limitInputChange ch a b) s
     let fails (cause : ValveFault) : Prop := ∃ t, out = .next (settle s t) ∧ FailsValve ch.val cause s1 t
     (assigned s ch.val = false → out = .next s1) ∧
     (assigned s ch.val = true →
       (v.state = .fault → out = .next (settle s s1)) ∧
       (v.state ≠ .fault → fb = .both → fails .switchDisagree) ∧
       (v.state.moving = true → fb = e.feedback → ∃ t, out = .next (settle s t) ∧ ArrivesValve ch.val s1 t) ∧
       (v.state.moving = true → fb ≠ .both → fb ≠ e.feedback → out = .next (settle s s1)) ∧
       ((v.state = .opened ∨ v.state = .closed) → fb ≠ .both →
         (broke → s.console.state ≠ .granted → fails .uncommanded) ∧
         ((¬ broke ∨ s.console.state = .granted) → out = .next (settle s s1))))) ∧
  (∀ (s : State) (ch : Fin 38),
     ((s.valve ch.val).state.moving = true →
       ∃ t, exec (.valveTravelExpiry ch) s = .next (settle s t) ∧ FailsValve ch.val .stuck s t) ∧
     ((s.valve ch.val).state.moving = false → exec (.valveTravelExpiry ch) s = .next s))

/-- R76: FIXM sets a FIXED compartment's mass and the refresh mark, and replies with the mass before and after; its checks
refuse with LENGTH, DATA and RANGE in that order. -/
def Obligations.FixmSetsAFixedMass : Prop :=
  (∀ (s : State) (c m : Nat), Ready .ship s → c < 256 → m < 4294967296 →
    let args := toBE c 1 ++ toBE m 4
    let u := taken .ship .fixm args s
    (s.store.dataState ≠ .valid → exec (.fixm .ship args) s = .next (refusedData .ship .fixm args s)) ∧
    (s.store.dataState = .valid → (48 ≤ c ∨ s.store.tables.kind c ≠ some .fixed ∨ 4000000 < m) →
      exec (.fixm .ship args) s = .next (refused .ship .fixm .range args s)) ∧
    (s.store.dataState = .valid → c < 48 → s.store.tables.kind c = some .fixed → m ≤ 4000000 →
      exec (.fixm .ship args) s =
        .next (replied .ship .fixm .done [.num (s.engine.fixed.get c), .num m]
          (setRefreshMark { u with engine := { u.engine with fixed := u.engine.fixed.set c m } })))) ∧
  OtherFormsRefused .fixm (fun args => args.length = 5) ∧ UnknownOnShore .fixm

/-- R69, R71, R80, R83 to R85, R87 to R89 and R92: a refresh completes: the record is published whole under the next
sequence number, and in the same act the Limits Unit judges it (the deepest draft, trim, clearances, flags, M with its
source, the stress watch by the table of R87, and on entry into BREACH a setting of the stop latch, which the pour enable
line follows and the tracker evaluates), the Pour Tracker works out its lag figures (R155), evaluates and requests a
projection (R157), the Transfer Unit paces its pumps (R117) and ends the gravity transfers whose head, the tank's bottom
height and corrected sounding less the floored draft at its centre (R107), is low (R113), and the CONDITION notice is
raised; the engine is then free for its next mark (R57). The order of the receivers is log entry 13 and that of the two
gravity lines log entry 38; which end the deepest draft names where both drafts are equal is free (log entry 8). That the
evaluation of a setting stands within the setting is log entry 9, the speed output 0 of a fixed-speed pump log entry 16, the
lag figures at every publish log entry 24, a sequence number that grows log entry 27, and the previous planned ROB set in
any operation state but IDLE log entry 34. With no refresh in flight nothing completes (log entry 6), and none before the
first sweep end or while an enabled tank is UNREAD (R19, R28, R40; log entry 29). That a hand-on in YIELDED is recorded in
the live step progress too is log entry 47. -/
def Obligations.ARefreshPublishesAndIsJudged : Prop :=
  (∀ s : State, ((∀ j, s.engine.job = some j → j.task ≠ .refresh) ∨ s.gauge.swept = false ∨
      ∃ c < 48, ∃ g, s.gaugeRec c = some g ∧ g.state = .unread ∧
        s.gauge.currentMask.getLsbD (s.store.tables.gaugeSlot c) = true) →
    exec .refreshComplete s = .next s) ∧
  (∀ (w : State) (c : Nat),
    let T := w.store.tables
    (∀ (g : GaugeRec) (p : Published), w.gaugeRec c = some g → gravityHead w c p =
      (T.bottom c : Int) + g.corrected - max 0 (p.cond.tRef - rdiv (p.cond.trim * T.centre c) T.lbp)) ∧
    (headLow w c = true ↔ ∃ p, w.engine.published = some p ∧ gravityHead w c p < T.minHead)) ∧
  (∀ (w : State) (d : Driver),
    let x := w.transfer d
    let low := ∃ p, w.engine.published = some p ∧ gravityHead w x.tank p < w.store.tables.minHead
    ((x.state = .opening ∨ x.state = .running) → low → ClosesWith d .headLost w (headCheck w d)) ∧
    (¬ ((x.state = .opening ∨ x.state = .running) ∧ low) → headCheck w d = w)) ∧
  ∀ (s : State) (j : Job) (c : Condition), s.engine.job = some j → j.task = .refresh → j.working = [c] →
    s.gauge.swept = true → s.engine.nextSeq ≠ 0 →
    (∀ c < 48, ∀ g, s.gaugeRec c = some g → g.state = .unread →
      s.gauge.currentMask.getLsbD (s.store.tables.gaugeSlot c) = false) →
    let T := s.store.tables
    let n := s.engine.nextSeq
    let port := s.time.port
    let l := s.limits
    let m := max c.maxSf c.maxBm
    let src : StressSource × Nat := if c.maxBm ≤ c.maxSf then (.sf, c.maxSfAt) else (.bm, c.maxBmAt)
    ∃ (L : Limits) (q : State),
      L = { l with
        judgedSeq := n, trim := some c.trim, deepest := L.deepest, clearances := L.clearances, m := m, mSource := src
        watch := L.watch
        flags :=
          { draft := match l.maxDraft with | some x => decide (x < max c.tAft c.tFwd) | none => false
            trim := decide ((T.trimStern : Int) < c.trim) || decide ((T.trimHead : Int) < -c.trim), air := L.flags.air } } ∧
      (∃ e, L.deepest = some (max c.tAft c.tFwd, e) ∧ (c.tFwd < c.tAft → e = .aft) ∧ (c.tAft < c.tFwd → e = .fwd)) ∧
      (∀ h, 1 ≤ h → h ≤ 12 → L.clearances.get (h - 1) =
        (match l.boom, T.rowOfHold h with
        | some boom, some row =>
          some (boom - l.tide - (T.coaming row - max 0 (c.tRef - rdiv (c.trim * T.centre row) T.lbp)))
        | _, _ => none)) ∧
      (∀ i < 12, L.flags.air.get i = (match l.minClear, L.clearances.get i with
        | some x, some cl => decide (cl < x)
        | _, _ => false)) ∧
      (1000 ≤ m → L.watch = .breach) ∧
      (m < 1000 →
        (l.watch = .normal → L.watch = if T.cautionAt ≤ m then .caution else .normal) ∧
        (l.watch = .caution → L.watch = if T.cautionAt ≤ m + T.band then .caution else .normal) ∧
        (l.watch = .breach →
          (m + T.band < T.cautionAt → L.watch = .normal) ∧
          (T.cautionAt ≤ m + T.band → L.watch = if 1000 ≤ m + T.band then .breach else .caution))) ∧
      let pub : State := { s with
        engine := { s.engine with published := some ⟨n, port, c⟩, nextSeq := n + 1, lastKind := some .refresh }, limits := L }
      let set : Limits := { L with
        latch := true, causes := { L.causes with breach := true }, lastSetting := some ⟨.breach, port, n⟩
        settings := if L.settings < 65535 then L.settings + 1 else L.settings, pourEnable := false }
      let latched := if l.watch ≠ .breach ∧ L.watch = .breach then
          evaluate (raise (.stop .breach n) (raise (.breach n m src.1 src.2) { pub with limits := set }))
        else pub
      let judged := if l.flags = L.flags ∧ l.watch.cautionFlag = L.watch.cautionFlag then latched
        else raise (limitDetail l.flags l.watch.cautionFlag latched) latched
      let k := judged.tracker
      let prev := if k.prevRob = none ∧ k.op ≠ .idle then some c.rob else k.prevRob
      let lag : Int := match prev, k.cur with
        | some r, some p =>
          if p.started then
            (c.rob : Int) - (match p.origin with
              | .plan _ => (r : Int) - rdiv (((r : Int) - p.entry.rob) * min p.tally p.entry.planned) p.entry.planned
              | .unexpected => (r : Int))
          else 0
        | _, _ => 0
      let lagged : State := { judged with
        tracker := { k with
          prevRob := prev, lag := lag, lagBefore := match prev with | some r => (c.rob : Int) - r | none => 0 } }
      let request : Option ProjReq := match concerned lagged with
        | some x =>
          if k.state = .evaluating ∧ reasonSet lagged x &&& ~~~Reason.projection.bit ≠ 0#13 then none
          else some ⟨x.entry.pour, x.entry.hold, x.entry.planned - x.tally, k.gen⟩
        | none => none
      let v := evaluate lagged
      let asked : State := if s.store.dataState = .valid ∧ request.isSome then
          { v with engine := { v.engine with projMark := request } } else v
      let speed (p : Pump) : Nat :=
        let x := s.transfer p.driver
        (min 100 (max (T.minSpeed p.driver : Int) (x.base + rdiv (lag * s.xfer.paceGain) 1000))).toNat
      let paced (p : Pump) : Prop := (s.transfer p.driver).paced = true ∧ (s.transfer p.driver).state = .running
      q = { asked with xfer := { q.xfer with valves := s.xfer.valves, paceGain := s.xfer.paceGain } } ∧
      (∀ p : Pump, (paced p →
          q.transfer p.driver = { s.transfer p.driver with setpoint := some (speed p) } ∧
          q.pumpOut p = { s.pumpOut p with speed := if T.variable p.driver = true then speed p else 0 }) ∧
        (¬ paced p → q.transfer p.driver = s.transfer p.driver ∧ q.pumpOut p = s.pumpOut p)) ∧
      (∀ d : Driver, d.gravity = true → q.transfer d = s.transfer d) ∧
      let y := settle s (raise (.condition n) (headCheck (headCheck q .g0) .g1))
      exec .refreshComplete s = .next (engineRun { y with engine := { y.engine with job := none } })

/-- R57, R58 and R60 to R68: what a job computes: the figures of a list of compartments by the tables, stage by stage, the
snapshot that a job copies when it begins, the two cases of a projection (R72), and which mark the free engine takes and
which it declines (R55, R57). That the working condition stands computed from a job's beginning is log entry 25. R72 to R74
and R157: a projection completes: its result is discarded where the generation has changed, the operation is not LOADING, or
an OPBG voided it; otherwise it replaces the kept result, with each case judged against the parameters as they now stand, and
where it is of the pour concerned it becomes the standing and the tracker evaluates. With no projection in flight nothing
completes (log entry 6). -/
def Obligations.AJobComputesItsConditionAndAProjectionIsJudged : Prop :=
  (∀ (T : Tables) (cs : List SnapComp),
    let c := conditionOf T cs
    let Δ := (cs.map SnapComp.mass).sum
    let last := T.hydroCount - 1
    let sum (f : SnapComp → Int) : Int := (cs.map f).sum
    let kindMass (k : Kind) : Nat := ((cs.filter fun y => y.kind == k).map SnapComp.mass).sum
    let holds (b : Bool) (p : SnapTank → Prop) : Prop := b = true ↔ ∃ y ∈ cs, ∃ t, y.tank = some t ∧ p t
    ∃ I : (Nat → Int) → Int,
      (Δ < T.hydroDisp 0 → (∀ q, I q = q 0) ∧ c.quality.hydroClamped = true) ∧
      (T.hydroDisp 0 ≤ Δ → T.hydroDisp last < Δ → (∀ q, I q = q last) ∧ c.quality.hydroClamped = true) ∧
      (T.hydroDisp 0 ≤ Δ → Δ ≤ T.hydroDisp last → c.quality.hydroClamped = false ∧
        ∀ k < last, (∀ j < k, T.hydroDisp (j + 1) < Δ) → Δ ≤ T.hydroDisp (k + 1) →
          ∀ q, I q = q k + rdiv ((q (k + 1) - q k) * ((Δ : Int) - T.hydroDisp k)) (T.hydroDisp (k + 1) - T.hydroDisp k)) ∧
      c.disp = Δ ∧ c.lcg = rdiv (sum fun y => y.mass * (y.aft + y.fore)) (2 * Δ) ∧
      c.draft = I (fun k => (T.hydroDraft k : Int)) ∧
      (let raw := rdiv (Δ * (I T.lcb - c.lcg)) (10 * (I fun k => (T.mtc k : Int)).toNat)
       c.trim = min 32000 (max (-32000) raw) ∧ c.quality.trimClamped = decide (c.trim ≠ raw)) ∧
      c.tRef = c.draft + rdiv (c.trim * I T.lcf) T.lbp ∧ c.tAft = c.tRef.toNat ∧ c.tFwd = (c.tRef - c.trim).toNat ∧
      c.rob = kindMass .ballast ∧ c.cargo = kindMass .hold ∧
      c.cps.length = T.cpCount ∧
      (∀ j f, c.cps[j]? = some f →
        let x := T.cpX j
        let length (y : SnapComp) : Nat := (y.fore - y.aft).toNat
        let weight := sum fun y =>
          if x ≤ y.aft then 0 else if y.fore ≤ x then y.mass else rdiv (y.mass * (x - y.aft)) (length y)
        let moment := sum fun y =>
          if x ≤ y.aft then 0 else if y.fore ≤ x then y.mass * (2 * x - y.aft - y.fore)
          else rdiv (y.mass * ((x - y.aft) * (x - y.aft))) (length y)
        f.sf = weight - (I (fun k => (T.buoyancy k j : Int)) + rdiv (T.kB j * c.trim) 1000) ∧
        f.bm = rdiv moment 2000 - (I (fun k => T.buoyancyMoment k j) + rdiv (T.kM j * c.trim) 1000) ∧
        f.sfMille = min 1999 (rdivN (1000 * f.sf.natAbs) (if 0 ≤ f.sf then T.sfPlus j else T.sfMinus j)) ∧
        f.bmMille = min 1999 (rdivN (1000 * f.bm.natAbs) (if 0 ≤ f.bm then T.bmHog j else T.bmSag j)) ∧
        f.sfMille ≤ c.maxSf ∧ f.bmMille ≤ c.maxBm ∧ (j < c.maxSfAt → f.sfMille < c.maxSf) ∧
        (j < c.maxBmAt → f.bmMille < c.maxBm) ∧ (j = c.maxSfAt → f.sfMille = c.maxSf) ∧
        (j = c.maxBmAt → f.bmMille = c.maxBm)) ∧
      (1 ≤ T.cpCount → c.maxSfAt < T.cpCount ∧ c.maxBmAt < T.cpCount) ∧
      holds c.quality.gaugeHeld (fun t => t.state = .held) ∧
      holds c.quality.estimated (fun t => t.state = .lost ∨ t.state = .masked) ∧
      holds c.quality.offTable
        (fun t => (t.state = .unread ∨ t.state = .good ∨ t.state = .held) ∧ t.offTable ≠ .within) ∧
      holds c.quality.neverRead (fun t => (t.state = .lost ∨ t.state = .masked) ∧ t.neverRead = true)) ∧
  (∀ s : State,
    let T := s.store.tables
    let comp (c : Nat) : Option SnapComp := (T.kind c).bind fun k =>
      let row (mass hold : Nat) (tank : Option SnapTank) : SnapComp := ⟨c, k, T.aft c, T.fore c, mass, hold, tank⟩
      match k with
      | .unused => none
      | .ballast => some (row (((s.gaugeRec c).map GaugeRec.mass).getD 0) 0 ((s.gaugeRec c).map fun g =>
          ⟨g.state, g.offTable, g.neverRead, s.gauge.currentMask.getLsbD (T.gaugeSlot c)⟩))
      | .hold => some (row (s.tracker.holds.get (T.holdNumber c - 1)) (T.holdNumber c) none)
      | .fixed => some (row (s.engine.fixed.get c) 0 none)
      | .lightship => some (row (T.rowMass c) 0 none)
    let comps := (List.range 48).filterMap comp
    let targets := ([Driver.p0, .p1, .p2, .p3, .g0, .g1].filter fun d => (s.transfer d).state != .idle).map fun d =>
      ((s.transfer d).tank, (s.transfer d).targetMass)
    let addCargo (req : ProjReq) (y : SnapComp) : SnapComp :=
      if y.kind = .hold ∧ y.hold = req.hold then { y with mass := y.mass + req.remaining } else y
    let atTarget (y : SnapComp) : SnapComp := match targets.find? fun t => t.1 == y.comp with
      | some t => if y.kind = .ballast then { y with mass := t.2 } else y
      | none => y
    let mark (refresh : Bool) (proj : Option ProjReq) (job : Option Job) : State :=
      { s with engine := { s.engine with refreshMark := refresh, projMark := proj, job := job } }
    let pubSeq := (s.engine.published.map Published.seq).getD 0
    let refreshJob : Job := ⟨.refresh, ⟨comps, []⟩, [conditionOf T comps], pubSeq⟩
    let projJob (req : ProjReq) : Job := ⟨.projection req false, ⟨comps, targets⟩,
      [conditionOf T (comps.map (addCargo req)), conditionOf T ((comps.map (addCargo req)).map atTarget)], pubSeq⟩
    let may := ∀ c < 48, ∀ g, s.gaugeRec c = some g → g.state = .unread → s.gauge.currentMask.getLsbD (T.gaugeSlot c) = false
    let p := s.engine.projMark
    let refreshes : Prop := (may → takeMark s = mark false p (some refreshJob)) ∧ (¬ may → takeMark s = mark false p none)
    let projects (req : ProjReq) : Prop :=
      (s.engine.published.isSome → takeMark s = mark s.engine.refreshMark none (some (projJob req))) ∧
      (s.engine.published = none → takeMark s = mark s.engine.refreshMark none none)
    (s.engine.job.isSome → takeMark s = s) ∧
    (s.engine.job = none →
      (s.engine.refreshMark = false → p = none → takeMark s = s) ∧
      (s.engine.refreshMark = true → (p = none ∨ s.engine.lastKind ≠ some .refresh) → refreshes) ∧
      (∀ req, p = some req → (s.engine.refreshMark = false ∨ s.engine.lastKind = some .refresh) → projects req)) ∧
    engineRun s = takeMark (takeMark s) ∧
    (s.store.dataState = .valid → setRefreshMark s = engineRun (mark true p s.engine.job)) ∧
    (s.store.dataState ≠ .valid → setRefreshMark s = s)) ∧
  (∀ s : State, (∀ j req void, s.engine.job = some j → j.task ≠ .projection req void) →
    exec .projectionComplete s = .next s) ∧
  ∀ (s : State) (j : Job) (req : ProjReq) (void : Bool) (a b : Condition),
    s.engine.job = some j → j.task = .projection req void → j.working = [a, b] →
    let T := s.store.tables
    let free (w : State) : State := engineRun { w with engine := { w.engine with job := none } }
    let ended : State := { s with engine := { s.engine with lastKind := some .projection } }
    let clearance (x : Condition) : Option Int := match s.limits.boom, T.rowOfHold req.hold with
      | some boom, some row =>
        some (boom - s.limits.tide - (T.coaming row - max 0 (x.tRef - rdiv (x.trim * T.centre row) T.lbp)))
      | _, _ => none
    let failed (x : Condition) : ProjReasons :=
      { stress := decide (1000 ≤ x.maxSf ∨ 1000 ≤ x.maxBm)
        draft := (match s.limits.maxDraft with | some d => decide (d < max x.tAft x.tFwd) | none => false)
        trim := decide ((T.trimStern : Int) < x.trim ∨ (T.trimHead : Int) < -x.trim)
        airDraft := (match s.limits.minClear, clearance x with | some m, some v => decide (v < m) | _, _ => false) }
    let case (x : Condition) : CaseResult :=
      ⟨x.maxSf, x.maxSfAt, x.maxBm, x.maxBmAt, max x.tAft x.tFwd, x.trim, clearance x, x.quality, failed x⟩
    let r : ProjResult := ⟨req, j.pubSeq, s.time.port, case a, case b, (failed a).union (failed b)⟩
    let kept : State := { ended with engine := { ended.engine with result := some r } }
    let off := req.gen ≠ s.tracker.gen ∨ s.tracker.op ≠ .loading ∨ void = true
    (off → exec .projectionComplete s = .next (free ended)) ∧
    (¬ off → (∀ k, concerned s = some k → k.entry.pour ≠ req.pour) →
      exec .projectionComplete s = .next (free kept)) ∧
    (¬ off → ∀ k, concerned s = some k → k.entry.pour = req.pour →
      exec .projectionComplete s =
        .next (free (evaluate { kept with
          tracker := { kept.tracker with standing := some ⟨r.reasons.empty, req.pour, req.gen, r.reasons⟩ } })))

/-- R82: TIDE stores the height and replies with the height before and after; with the boom height set and a condition judged
it recomputes the clearances and the AIR_DRAFT flags alone, raises LIMIT on a change, and hands the TIDE to the Pour Tracker,
which evaluates; its checks refuse with LENGTH and RANGE. -/
def Obligations.TideRecomputesTheClearances : Prop :=
  (∀ (s : State) (h : Int), Ready .ship s → -2147483648 ≤ h → h < 2147483648 →
    let args := toBEInt h 4
    let u := taken .ship .tide args s
    ((h < -5000 ∨ 20000 < h) → exec (.tide .ship args) s = .next (refused .ship .tide .range args s)) ∧
    (-5000 ≤ h → h ≤ 20000 → (s.limits.boom = none ∨ s.limits.judgedSeq = 0) →
      exec (.tide .ship args) s =
        .next (replied .ship .tide .done [.num s.limits.tide, .num h] { u with limits := { u.limits with tide := h } })) ∧
    (-5000 ≤ h → h ≤ 20000 → ∀ boom, s.limits.boom = some boom → s.limits.judgedSeq ≠ 0 →
      ∃ (cl : Tab 12 (Option Int)) (air : Tab 12 Bool),
        (∀ k, 1 ≤ k → k ≤ 12 → cl.get (k - 1) =
          (match s.engine.published, s.store.tables.rowOfHold k with
          | some p, some row =>
            some (boom - h - (s.store.tables.coaming row -
              max 0 (p.cond.tRef - rdiv (p.cond.trim * s.store.tables.centre row) s.store.tables.lbp)))
          | _, _ => none)) ∧
        (∀ i < 12, air.get i = (match s.limits.minClear, cl.get i with
          | some x, some v => decide (v < x)
          | _, _ => false)) ∧
        let w : State := { u with
          limits := { u.limits with tide := h, clearances := cl, flags := { u.limits.flags with air := air } } }
        exec (.tide .ship args) s =
          .next (replied .ship .tide .done [.num s.limits.tide, .num h]
            (evaluate (if s.limits.flags = w.limits.flags then w
              else raise (limitDetail s.limits.flags w.limits.watch.cautionFlag w) w))))) ∧
  OtherFormsRefused .tide (fun args => args.length = 4) ∧ UnknownOnShore .tide

/-- R91: STPR outside BREACH clears the latch and its causes, replies with the causes it cleared, turns the line by R92, and
hands the release to the Pour Tracker, which evaluates; with the latch clear it changes nothing; in BREACH it is refused with
STATE, and with arguments it is refused with LENGTH. -/
def Obligations.StprClearsTheLatch : Prop :=
  (∀ s : State, Ready .ship s →
    let u := taken .ship .stpr [] s
    let c := s.limits.causes
    let items : List Item := [.flag c.breach, .flag c.ackTimeout, .flag c.pourAfterHold]
    (s.limits.watch = .breach → exec (.stpr .ship []) s = .next (refused .ship .stpr .state [] s)) ∧
    (s.limits.watch ≠ .breach → s.limits.latch = false →
      exec (.stpr .ship []) s = .next (replied .ship .stpr .done items u)) ∧
    (s.limits.watch ≠ .breach → s.limits.latch = true →
      exec (.stpr .ship []) s =
        .next (replied .ship .stpr .done items
          (evaluate { u with
            limits := { u.limits with
              latch := false, causes := ⟨false, false, false⟩, pourEnable := s.tracker.op == .loading } })))) ∧
  OtherFormsRefused .stpr (fun args => args = []) ∧ UnknownOnShore .stpr

/-- R139 and R140: SQXC is refused while the Sequencer runs, suspends or is yielded, and by the first program check that
fails, a header field or the lowest step; otherwise the banks are swapped whole and the Sequencer is READY at step 0.
That a START step's base is checked whatever its paced flag is log entry 17. -/
def Obligations.SqxcExchangesThePrograms : Prop :=
  (∀ s : State, Ready .ship s →
    let u := taken .ship .sqxc [] s
    let b := s.seq.standby
    let q := s.seq.core.state
    let open' := q = .empty ∨ q = .ready ∨ q = .complete ∨ q = .suspended
    let header := headMode b ≤ 1 ∧ 1 ≤ headLimit b ∧ headExit b ≤ 1 ∧ headInterval b ≤ 600 ∧ 1 ≤ headLength b ∧
      headLength b ≤ 64
    (¬ open' → exec (.sqxc .ship []) s = .next (refused .ship .sqxc .busy [] s)) ∧
    (open' → ¬ header → exec (.sqxc .ship []) s = .next (replied .ship .sqxc .range [.header] u)) ∧
    (open' → header →
      (∀ i < headLength b, (∀ j < i, (stepAt b j).ok = true) → (stepAt b i).ok = false →
        exec (.sqxc .ship []) s = .next (replied .ship .sqxc .range [.num i] u)) ∧
      ((∀ i < headLength b, (stepAt b i).ok = true) →
        exec (.sqxc .ship []) s =
          .next (replied .ship .sqxc .done [.raw (rowBytes b 0)]
            { u with seq := { u.seq with active := b, standby := s.seq.active, core := SeqCore.fresh .ready } })))) ∧
  (∀ d tank dir target p base a : Nat,
    (Step.start d tank dir target p base a).ok = true ↔
      d ≤ 5 ∧ tank ≤ 47 ∧ dir ≤ 1 ∧ (target ≤ 4000000 ∨ target = 4294967295) ∧ p ≤ 1 ∧ base ≤ 100 ∧ a ≤ 1 ∧
        ¬ (dir = 1 ∧ (target = 4294967295 ∨ 4 ≤ d))) ∧
  (∀ n : Nat,
    ((Step.stop n).ok = true ↔ n ≤ 5) ∧ ((Step.await n).ok = true ↔ n ≤ 6) ∧
    ((Step.waitPour n).ok = true ↔ 1 ≤ n ∧ n ≤ 999) ∧ ((Step.mark n).ok = true ↔ n ≤ 255) ∧
    ((Step.dwell n).ok = true ↔ 1 ≤ n ∧ n ≤ 65535) ∧ Step.finish.ok = true ∧ (Step.unknown n).ok = false) ∧
  OtherFormsRefused .sqxc (fun args => args = []) ∧ UnknownOnShore .sqxc

/-- R135, R128 and R132: SQGO runs the program from step 0, after its checks of LENGTH and STATE; the expiry of the interval
countdown has a RUNNING Sequencer judge the START in hand, and the expiry of the dwell countdown moves the pointer on; an
expiry that finds nothing to expire changes nothing (log entry 6). R127, R128, R130, R131 and R136: what the Sequencer does
with what an act hands on (log entry 30): a START that waits for a driver or a tank is presented again at a return that
concerns it, a START or an AWAIT in hand is judged again, SUSPENDING becomes SUSPENDED at the end of the start phase, a
SUSPENDED of reason HOST takes TRANSFER_FAULT at the awaited transfer's own return, and a WAIT_POUR is left at its record. The
walk takes steps in one act until one waits or ends it (R126; its bound is log entry 18). -/
def Obligations.SqgoAndTheCountdownsMoveThePointer : Prop :=
  (∀ s : State, Ready .ship s →
    let u := taken .ship .sqgo [] s
    let q := s.seq.core.state
    let w := walk { u with seq := { u.seq with core := SeqCore.fresh .running } }
    ((¬ (q = .ready ∨ q = .complete) ∨ s.tracker.op ≠ .loading) →
      exec (.sqgo .ship []) s = .next (refused .ship .sqgo .state [] s)) ∧
    ((q = .ready ∨ q = .complete) → s.tracker.op = .loading →
      exec (.sqgo .ship []) s =
        .next (replied .ship .sqgo .done
          [.seqState w.seq.core.state, .num w.seq.core.pointer, .waitReason w.seq.core.wait] (judgeGrant w)))) ∧
  OtherFormsRefused .sqgo (fun args => args = []) ∧ UnknownOnShore .sqgo ∧
  (∀ s : State,
    let q := s.seq.core.state
    let expired : State := { s with seq := { s.seq with core := { s.seq.core with interval := 0 } } }
    let moved := nextStep { s with seq := { s.seq with core := { s.seq.core with dwell := 0, wait := .nothing } } }
    (q = .running → s.seq.core.progress.isSome → exec .intervalExpiry s = .next (judgeGrant (walk expired))) ∧
    (q = .suspending → s.seq.core.progress.isSome → exec .intervalExpiry s = .next expired) ∧
    ((s.seq.core.progress = none ∨ (q ≠ .running ∧ q ≠ .suspending)) → exec .intervalExpiry s = .next s) ∧
    (q = .running → s.seq.core.wait = .dwell →
      exec .dwellExpiry s = .next (judgeGrant (if moved.2 then walk moved.1 else moved.1))) ∧
    ((q ≠ .running ∨ s.seq.core.wait ≠ .dwell) → exec .dwellExpiry s = .next s)) ∧
  (∀ s : State,
    let step (n : Nat) (w : State) : State := if (takeStep w).2 then walkSteps n (takeStep w).1 else (takeStep w).1
    walk s = walkSteps 16448 { s with seq := { s.seq with core := { s.seq.core with wait := .nothing } } } ∧
    walkSteps 0 s = s ∧ ∀ n, walkSteps (n + 1) s = step n s) ∧
  (∀ before s : State,
    let c := s.seq.core
    let heard := sequencerHears before s
    let awaited : Prop := ∃ d tank dir g p b, stepAt s.seq.active c.pointer = .start d tank dir g p b 1
    let bad (p : Progress) (r : EndReason) : Prop := p.ended = some r ∧ r ≠ .target ∧ r ≠ .stripped
    let suspended (why : SuspendReason) (x : SuspendDetail) : State :=
      { s with seq := { s.seq with
        core := { c with state := .suspended, wait := .nothing, suspend := why, detail := x } } }
    let faulted (r : EndReason) : State :=
      raise (.sequence .suspended c.pointer (stepKind s.seq.active c.pointer) .transferFault (.ended r) c.passes)
        (suspended .transferFault (.ended r))
    let own : Prop := (before.seq.core.progress.map Progress.idle = some false) ∧ c.progress.map Progress.idle = some true
    settle before s = judgeGrant (endReconciling heard) ∧ (HandsNothingOn s → settle before s = s) ∧
    (c.state = .running →
      ((c.wait = .opening ∨ c.wait = .interval ∨ c.wait = .transfer) → heard = walk s) ∧
      ((c.wait = .driver ∨ c.wait = .tank) →
        ∀ code tank dir g p b a, stepAt s.seq.active c.pointer = .start code tank dir g p b a →
          let returns := ∃ d : Driver, (before.transfer d).state ≠ .idle ∧ (s.transfer d).state = .idle ∧
            (d.code = code ∨ (s.transfer d).tank = tank)
          (returns → heard = walk s) ∧ (¬ returns → heard = s)) ∧
      ((c.wait = .nothing ∨ c.wait = .pour ∨ c.wait = .dwell) → heard = s)) ∧
    (c.state = .suspending →
      (c.progress = none → heard = s) ∧
      ∀ p, c.progress = some p →
        let left := p.entered = true ∨ p.ended.isSome
        (¬ left → heard = s) ∧ (left → ∀ r, awaited → bad p r → heard = faulted r) ∧
        (left → (awaited → ∀ r, ¬ bad p r) → heard = suspended .host .nothing)) ∧
    (c.state = .suspended →
      (c.suspend ≠ .host → heard = s) ∧
      (c.suspend = .host → ∀ p, c.progress = some p →
        (∀ r, own → awaited → bad p r → heard = faulted r) ∧ (¬ (own ∧ awaited ∧ ∃ r, bad p r) → heard = s)) ∧
      (c.progress = none → heard = s)) ∧
    ((c.state = .empty ∨ c.state = .ready ∨ c.state = .yielded ∨ c.state = .complete) → heard = s)) ∧
  (∀ s : State,
    let c := s.seq.core
    (∀ n, stepAt s.seq.active c.pointer = .waitPour n → c.state = .running → c.wait = .pour →
      ((∃ x ∈ s.tracker.history, x.pour = n) → hearRecord s = walk s) ∧
      ((∀ x ∈ s.tracker.history, x.pour ≠ n) → hearRecord s = s)) ∧
    ((c.state ≠ .running ∨ c.wait ≠ .pour) → hearRecord s = s))

/-- R127 to R133, R140 and R142: what the pointer does at a step of each kind, at a START whose start was accepted, and at
the end of a pass. A START is judged by the eleven start checks of R106 and begun as XSTA begins a transfer (R108), with owner
PROGRAM and this step. The second part of what `takeStep` and `nextStep` give says whether the walk goes on in the same act. That
MARK has the tracker evaluate at every MARK is log entry 35; that progress, interval and dwell are cleared at a step's end
and at COMPLETE is log entry 36; that exit-when-targets reads the stored rows also while the data is not VALID, and mass 0
without a gauge record, is log entry 39; that a step of no known kind is not taken is log entry 19. -/
def Obligations.TheWalkTakesEachStepByItsKind : Prop :=
  ∀ s : State,
    let c := s.seq.core
    let b := s.seq.active
    let core (x : SeqCore) (v : State) : State := { v with seq := { v.seq with core := x } }
    let waits (w : WaitReason) (v : State) : State := core { v.seq.core with wait := w } v
    let noticed (v : State) : State :=
      raise (.sequence v.seq.core.state v.seq.core.pointer (stepKind b v.seq.core.pointer) v.seq.core.suspend
        v.seq.core.detail v.seq.core.passes) v
    let suspended (why : SuspendReason) (x : SuspendDetail) : State :=
      noticed (core { c with state := .suspended, wait := .nothing, suspend := why, detail := x } s)
    let completed (n : Nat) : State :=
      noticed (core
        { c with state := .complete, progress := none, interval := 0, dwell := 0, wait := .nothing, passes := n } s)
    let passes := if c.passes < 255 then c.passes + 1 else c.passes
    let atTargets : Prop := ∀ i < headLength b, ∀ d tank dir g p base a, stepAt b i = .start d tank dir g p base a →
      let m := tankMass s tank
      let T := s.store.tables
      T.isBallast tank = true ∧
        ((dir = 0 ∧ ((g = 4294967295 ∧ m ≤ T.residual tank) ∨ (g ≤ 4000000 ∧ (m ≤ g ∨ m ≤ T.residual tank)))) ∨
          (dir = 1 ∧ g ≤ 4000000 ∧ min g (T.capacityMass tank (tankDensity s tank)) ≤ m))
    (∀ d tank dir target p base a, stepAt b c.pointer = .start d tank dir target p base a → c.progress = none →
      let r : StartReq := ⟨d, tank, dir, target, p, base⟩
      (StartRefused s r .driverBusy → takeStep s = (waits .driver s, false)) ∧
      (StartRefused s r .tankBusy → takeStep s = (waits .tank s, false)) ∧
      (∀ x, x ≠ .driverBusy → x ≠ .tankBusy → StartRefused s r x →
        takeStep s = (suspended .stepRefused (.refused x), false)) ∧
      (∀ e : Driver, e.code = d → StartPasses s r → ∃ v, StartsTransfer .program (some c.pointer) (startNamed e r) s v ∧
        let begun (entered : Bool) : State := core
          { v.seq.core with progress := some ⟨e, entered, none, false⟩, interval := headInterval b * 10 } v
        ((v.transfer e).state = .opening → takeStep s = (waits .opening (begun false), false)) ∧
        ((v.transfer e).state ≠ .opening →
          (headInterval b ≠ 0 → takeStep s = (waits .interval (begun true), false)) ∧
          (headInterval b = 0 → a = 1 → takeStep s = (waits .transfer (begun true), false)) ∧
          (headInterval b = 0 → a ≠ 1 → takeStep s = nextStep (begun true))))) ∧
    (∀ d tank dir target p base a pr, stepAt b c.pointer = .start d tank dir target p base a → c.progress = some pr →
      let left := pr.entered = true ∨ pr.ended.isSome
      let bad (r : EndReason) : Prop := a = 1 ∧ pr.idle = true ∧ pr.ended = some r ∧ r ≠ .target ∧ r ≠ .stripped
      (∀ r, bad r → takeStep s = (suspended .transferFault (.ended r), false)) ∧
      ((∀ r, ¬ bad r) →
        (¬ left → takeStep s = (waits .opening s, false)) ∧
        (left → c.interval ≠ 0 → takeStep s = (waits .interval s, false)) ∧
        (left → c.interval = 0 → a = 1 → pr.idle = false → takeStep s = (waits .transfer s, false)) ∧
        (left → c.interval = 0 → (a ≠ 1 ∨ pr.idle = true) → takeStep s = nextStep s))) ∧
    (∀ d : Driver, stepAt b c.pointer = .stop d.code → takeStep s = nextStep (endEvent d .stopped s)) ∧
    (∀ v, stepAt b c.pointer = .mark v → takeStep s = nextStep (evaluate { s with seq := { s.seq with stage := v } })) ∧
    (stepAt b c.pointer = .finish → takeStep s = (completed passes, false)) ∧
    (∀ t, stepAt b c.pointer = .dwell t → takeStep s = (core { c with dwell := t * 10, wait := .dwell } s, false)) ∧
    (∀ d : Driver, stepAt b c.pointer = .await d.code →
      takeStep s = if (s.transfer d).state = .idle then nextStep s else (waits .transfer s, false)) ∧
    (stepAt b c.pointer = .await 6 →
      ((∀ d, (s.transfer d).owner = some .program → (s.transfer d).state = .idle) → takeStep s = nextStep s) ∧
      ((∃ d, (s.transfer d).owner = some .program ∧ (s.transfer d).state ≠ .idle) →
        takeStep s = (waits .transfer s, false))) ∧
    (∀ n, stepAt b c.pointer = .waitPour n →
      ((∃ x ∈ s.tracker.history, x.pour = n) → takeStep s = nextStep s) ∧
      ((∀ x ∈ s.tracker.history, x.pour ≠ n) →
        let held := ∃ x, concerned s = some x ∧ x.started = false ∧ hasReason s.tracker.lastReasons .stage = true
        (¬ (held ∧ PlanBears s.tracker.active n) → takeStep s = (waits .pour s, false)) ∧
        (held → PlanBears s.tracker.active n → c.state = .running →
          takeStep s = (suspended .deadlock .nothing, false)))) ∧
    (∀ k, stepAt b c.pointer = .unknown k → takeStep s = (s, false)) ∧
    (c.pointer + 1 < headLength b →
      nextStep s = (core { c with pointer := c.pointer + 1, progress := none, interval := 0, dwell := 0 } s, true)) ∧
    (headLength b ≤ c.pointer + 1 →
      ((headMode b = 0 ∨ passes = headLimit b ∨ (headExit b = 1 ∧ atTargets)) →
        nextStep s = (completed passes, false)) ∧
      (headMode b ≠ 0 → passes ≠ headLimit b → (headExit b ≠ 1 ∨ ¬ atTargets) →
        nextStep s =
          (core { c with pointer := 0, progress := none, interval := 0, dwell := 0, passes := passes } s, true)))

/-- R136 to R138: SQPS suspends the walk, or makes it SUSPENDING in a start phase; SQRS resumes it by the reason it was
suspended for; SQAB ends every PROGRAM transfer in OPENING, PRIMING or RUNNING with reason ABORTED and makes the Sequencer
READY, one after another in the order of the drivers (log entry 38), each as R114 gives; nothing else changes. In YIELDED the
first two are refused with CONSOLE, and SQAB while the console is not in AUTO. That a hand-on in YIELDED is recorded in the
live step progress too is log entry 47. -/
def Obligations.TheHostSuspendsResumesAndAborts : Prop :=
  (∀ s : State, Ready .ship s →
    let c := s.seq.core
    let core (x : SeqCore) (v : State) : State := { v with seq := { v.seq with core := x } }
    let idle := c.state = .empty ∨ c.state = .ready ∨ c.state = .complete
    let u := taken .ship .sqps [] s
    let v := taken .ship .sqrs [] s
    let ps (t : State) := exec (.sqps .ship []) s = .next (replied .ship .sqps .done [] t)
    let rs (w : State) :=
      exec (.sqrs .ship []) s =
        .next (replied .ship .sqrs .done
          [.seqState w.seq.core.state, .num w.seq.core.pointer, .waitReason w.seq.core.wait] (judgeGrant w))
    let resumed := core { c with state := .running, wait := .nothing, suspend := .nothing, detail := .nothing } v
    let next := nextStep resumed
    (c.state = .running → c.wait = .opening →
      ps (core { c with state := .suspending, wait := .nothing, suspend := .host } u)) ∧
    (c.state = .running → c.wait ≠ .opening →
      ps (core { c with state := .suspended, wait := .nothing, suspend := .host, detail := .nothing } u)) ∧
    ((c.state = .suspending ∨ c.state = .suspended) → ps u) ∧
    (c.state = .yielded →
      exec (.sqps .ship []) s = .next (refused .ship .sqps .console [] s) ∧
      exec (.sqrs .ship []) s = .next (refused .ship .sqrs .console [] s)) ∧
    (idle → exec (.sqps .ship []) s = .next (refused .ship .sqps .state [] s)) ∧
    ((idle ∨ c.state = .running) → exec (.sqrs .ship []) s = .next (refused .ship .sqrs .state [] s)) ∧
    (c.state = .suspending →
      exec (.sqrs .ship []) s =
        .next (replied .ship .sqrs .done [.seqState .running, .num c.pointer, .waitReason .opening]
          (core { c with state := .running, wait := .opening, suspend := .nothing, detail := .nothing } v))) ∧
    (c.state = .suspended →
      (c.suspend = .transferFault → rs (if next.2 then walk next.1 else next.1)) ∧
      ((c.suspend = .stepRefused ∨ c.suspend = .deadlock) → rs (walk resumed)) ∧
      (c.suspend = .host →
        (c.progress.isSome →
          rs (walk (core { resumed.seq.core with interval := headInterval s.seq.active * 10 } resumed))) ∧
        (c.progress = none →
          ((∀ t, stepAt s.seq.active c.pointer ≠ .dwell t) → rs (walk resumed)) ∧
          (∀ t, stepAt s.seq.active c.pointer = .dwell t →
            (c.dwell ≠ 0 → rs (core { resumed.seq.core with wait := .dwell } resumed)) ∧
            (c.dwell = 0 → rs (if next.2 then walk next.1 else next.1))))))) ∧
  (∀ s : State, Ready .ship s →
    let ours (d : Driver) : Prop := (s.transfer d).owner = some .program ∧ (s.transfer d).state.active = true
    (s.console.state ≠ .auto → exec (.sqab .ship []) s = .next (refused .ship .sqab .console [] s)) ∧
    (s.console.state = .auto → s.seq.core.state = .empty →
      exec (.sqab .ship []) s = .next (refused .ship .sqab .state [] s)) ∧
    (s.console.state = .auto → s.seq.core.state ≠ .empty →
      let u := taken .ship .sqab [] s
      let ready : State := { u with seq := { u.seq with core := { SeqCore.fresh .ready with passes := s.seq.core.passes } } }
      ∃ t, exec (.sqab .ship []) s =
          .next (replied .ship .sqab .done [.num ((drivers.countP fun d => decide (ours d) : Nat) : Int)] t) ∧
        (∃ f : Nat → State, f 0 = ready ∧ f 6 = t ∧ ∀ i d, drivers[i]? = some d →
          (ours d → ClosesWith d .aborted (f i) (f (i + 1))) ∧ (¬ ours d → f (i + 1) = f i)) ∧
        t.gauge = { s.gauge with recs := t.gauge.recs } ∧ t.links = { u.links with notices := t.links.notices } ∧
        t.engine.published = s.engine.published ∧ t.engine.result = s.engine.result ∧ t.engine.fixed = s.engine.fixed ∧
        ((∀ d, ¬ ours d) → t = ready) ∧
        (∀ d, ours d → (t.transfer d).reason = some .aborted ∧
          ((t.transfer d).state = .closing ∨ (t.transfer d).state = .idle)) ∧
        (∀ d, ¬ ours d → t.transfer d = s.transfer d) ∧
        t.seq.core = { SeqCore.fresh .ready with passes := s.seq.core.passes } ∧ t.seq.active = s.seq.active ∧
        t.seq.standby = s.seq.standby ∧ t.seq.stage = s.seq.stage ∧ t.store = s.store ∧ t.limits = s.limits ∧
        t.tracker = s.tracker ∧ t.console.state = .auto ∧ t.time = s.time ∧ t.inputs = s.inputs)) ∧
  OtherFormsRefused .sqps (fun args => args = []) ∧ UnknownOnShore .sqps ∧ OtherFormsRefused .sqrs (fun args => args = []) ∧
  UnknownOnShore .sqrs ∧ OtherFormsRefused .sqab (fun args => args = []) ∧ UnknownOnShore .sqab

/-- R148 with R32, R38, R40, R46, R59, R94, R117, R141, R173 and R194: OPBG begins a loading operation in one act, in every
block; its checks refuse with LENGTH, STATE, DATA and RANGE, the last with the position of the first argument out of its
range. R94: a change of the DRAFT flag or an AIR_DRAFT flag raises the LIMIT notice. R158: an entry into PLAN_DONE raises the POUR
notice, with no pour and no reasons (log entry 41). R142: where the evaluation that ends the act finds STAGE, a Sequencer that
waits for a pour of the plan is suspended with DEADLOCK. That an estimated tank keeps a mass above its capacity mass is log
entry 48. -/
def Obligations.OpbgBeginsALoadingOperation : Prop :=
  (∀ (s : State) (ρ draft boom clear ack gain : Nat) (tide : Int), Ready .ship s → ρ < 65536 → draft < 4294967296 →
    boom < 4294967296 → clear < 4294967296 → ack < 256 → gain < 256 → -2147483648 ≤ tide → tide < 2147483648 →
    let args :=
      toBE ρ 2 ++ toBE draft 4 ++ toBE boom 4 ++ toBE clear 4 ++ toBE ack 1 ++ toBE gain 1 ++ toBEInt tide 4
    let ok : List Bool :=
      [decide (990 ≤ ρ ∧ ρ ≤ 1050), decide (1 ≤ draft ∧ draft ≤ 40000), decide (1 ≤ boom ∧ boom ≤ 60000),
        decide (clear ≤ 20000), decide (5 ≤ ack ∧ ack ≤ 120), decide (gain ≤ 100), decide (-5000 ≤ tide ∧ tide ≤ 20000)]
    let density (g : GaugeRec) : GaugeRec :=
      if g.state = .good ∨ g.state = .held then { g with density := ρ, mass := rdivN (g.volume * ρ) 1000 }
      else { g with density := ρ }
    let breach := s.limits.watch == .breach
    (s.tracker.op = .loading → exec (.opbg .ship args) s = .next (refused .ship .opbg .state args s)) ∧
    (s.tracker.op ≠ .loading → s.store.dataState ≠ .valid →
      exec (.opbg .ship args) s = .next (refusedData .ship .opbg args s)) ∧
    (s.tracker.op ≠ .loading → s.store.dataState = .valid →
      (∀ i, (∀ j < i, ok[j]? = some true) → ok[i]? = some false →
        exec (.opbg .ship args) s = .next (replied .ship .opbg .range [.num ((i + 1 : Nat) : Int)] (taken .ship .opbg args s))) ∧
      ((∀ x ∈ ok, x = true) →
        ∃ t, exec (.opbg .ship args) s = .next (replied .ship .opbg .done [.trackerState t.tracker.state] t) ∧
          t.tracker = { s.tracker with
            op := .loading, opbgStamp := some s.time.port, opndStamp := none, density := some ρ
            state := if planLength s.tracker.active = 0 then .planDone else .evaluating
            pos := 0, exchange := false, cur := none, prevRob := s.engine.published.map fun p => p.cond.rob
            lag := 0, lagBefore := 0, standing := none, ack := none, corrections := Tab.replicate 12 0, history := []
            ended := 0, lastReasons := match concerned t with | some c => reasonSet t c | none => 0#13 } ∧
          (∀ c < 48, t.gaugeRec c = (s.gaugeRec c).map fun g =>
            { density g with refMass := (density g).mass, changed := false, unexplained := 0 }) ∧
          (∀ p : Pump, t.pumpMeter p = { s.pumpMeter p with unattributed := 0 }) ∧
          t.gauge = { s.gauge with recs := t.gauge.recs } ∧ t.meter.g0 = s.meter.g0 ∧ t.meter.g1 = s.meter.g1 ∧
          t.engine = (setRefreshMark { taken .ship .opbg args s with
            gauge := t.gauge
            engine := { s.engine with
              job := s.engine.job.map fun j => { j with
                task := match j.task with | .refresh => .refresh | .projection r _ => .projection r true }
              projMark := none, result := none } }).engine ∧
          t.limits.maxDraft = some draft ∧ t.limits.boom = some boom ∧ t.limits.minClear = some clear ∧
          t.limits.ackTime = ack ∧ t.limits.tide = tide ∧ t.limits.latch = breach ∧ t.limits.causes = ⟨breach, false, false⟩ ∧
          t.limits.settings = 0 ∧ t.limits.lastSetting = none ∧ t.limits.pourEnable = !breach ∧
          t.limits.watch = s.limits.watch ∧ t.limits.judgedSeq = s.limits.judgedSeq ∧ t.limits.deepest = s.limits.deepest ∧
          t.limits.trim = s.limits.trim ∧ t.limits.m = s.limits.m ∧ t.limits.mSource = s.limits.mSource ∧
          t.limits.flags.trim = s.limits.flags.trim ∧
          (s.limits.judgedSeq = 0 → t.limits.flags = s.limits.flags ∧ t.limits.clearances = s.limits.clearances) ∧
          (s.limits.judgedSeq ≠ 0 →
            (∀ k, 1 ≤ k → k ≤ 12 → t.limits.clearances.get (k - 1) =
              (match s.engine.published, s.store.tables.rowOfHold k with
              | some p, some row =>
                some (boom - tide - (s.store.tables.coaming row -
                  max 0 (p.cond.tRef - rdiv (p.cond.trim * s.store.tables.centre row) s.store.tables.lbp)))
              | _, _ => none)) ∧
            (∀ i < 12, t.limits.flags.air.get i =
              (match t.limits.clearances.get i with | some v => decide (v < clear) | none => false)) ∧
            t.limits.flags.draft =
              (match s.limits.deepest with | some d => decide (draft < d.1) | none => s.limits.flags.draft)) ∧
          t.xfer = { s.xfer with paceGain := gain } ∧
          (let dead := s.seq.core.state = .running ∧ s.seq.core.wait = .pour ∧ AwaitsPlanned s ∧
              hasReason t.tracker.lastReasons .stage = true
           let q : Sequencer := { s.seq with
              stage := 0
              core := { s.seq.core with state := .suspended, wait := .nothing, suspend := .deadlock, detail := .nothing } }
           (dead → t.seq = q ∧ (s.links.enables.getLsbD 4 = true →
              t.links.notices.get 6 = some (.sequence .suspended q.core.pointer (stepKind q.active q.core.pointer)
                .deadlock .nothing q.core.passes))) ∧
           (¬ dead → t.seq = { s.seq with stage := 0 }) ∧
           ((¬ dead ∨ s.links.enables.getLsbD 4 = false) → t.links.notices.get 6 = s.links.notices.get 6)) ∧
          (let old := s.limits.flags
           let new := t.limits.flags
           let changed : LimitFlags := ⟨old.draft != new.draft, false, Tab.build 12 fun i => old.air.get i != new.air.get i⟩
           let airChanged := ((List.range 12).filter fun i => old.air.get i != new.air.get i).map fun i =>
             (i + 1, t.limits.clearances.get i)
           (old ≠ new → s.links.enables.getLsbD 6 = true → t.links.notices.get 8 =
             some (.limit s.limits.judgedSeq new changed (s.limits.watch != .normal) false airChanged)) ∧
           ((old = new ∨ s.links.enables.getLsbD 6 = false) → t.links.notices.get 8 = s.links.notices.get 8)) ∧
          (planLength s.tracker.active = 0 → s.links.enables.getLsbD 2 = true →
            t.links.notices.get 4 = some (.pour .planDone .planDone none 0#13)) ∧
          ((planLength s.tracker.active ≠ 0 ∨ s.links.enables.getLsbD 2 = false) →
            t.links.notices.get 4 = s.links.notices.get 4) ∧
          (∀ k : NoticeKind, k ≠ .pour → k ≠ .limit → k ≠ .sequence →
            t.links.notices.get k.place = s.links.notices.get k.place) ∧
          t.records = { s.records with
            log := [], nextNumber := 1, full := false, discharged := Tab.replicate 48 0#48
            takenUp := Tab.replicate 48 0#48 } ∧
          t.console = { s.console with
            snapshot := s.console.snapshot.map fun snap =>
              snap.map (Option.map fun x => { x with mass := rdivN (x.volume * ρ) 1000 }) } ∧
          t.links = { (taken .ship .opbg args s).links with notices := t.links.notices } ∧ t.store = s.store ∧
          t.time = s.time ∧ t.inputs = s.inputs ∧ t.pending = s.pending))) ∧
  OtherFormsRefused .opbg (fun args => args.length = 20) ∧ UnknownOnShore .opbg

/-- R149 and R169: OPND ends the loading operation; it is refused with STATE outside LOADING, and with BUSY while a transfer
is not IDLE, a pour is permitted, under way or held, or the grant line is on. -/
def Obligations.OpndEndsTheLoadingOperation : Prop :=
  (∀ s : State, Ready .ship s →
    let u := taken .ship .opnd [] s
    let free := AllIdle s ∧ (s.tracker.state = .evaluating ∨ s.tracker.state = .planDone) ∧ s.console.grantLine = false
    (s.tracker.op ≠ .loading → exec (.opnd .ship []) s = .next (refused .ship .opnd .state [] s)) ∧
    (s.tracker.op = .loading → ¬ free → exec (.opnd .ship []) s = .next (refused .ship .opnd .busy [] s)) ∧
    (s.tracker.op = .loading → free →
      exec (.opnd .ship []) s =
        .next (replied .ship .opnd .done [.num s.tracker.ended]
          { u with
            tracker := { u.tracker with
              op := .complete, opndStamp := some s.time.port, state := .idle, lag := 0, lastReasons := 0#13, cur := none
              ack := none, exchange := false }
            limits := { u.limits with pourEnable := false } }))) ∧
  OtherFormsRefused .opnd (fun args => args = []) ∧ UnknownOnShore .opnd

/-- R151 and R152: PLXC is refused with BUSY while an exchange is pending, and with RANGE and the index of the first entry
that fails the plan checks; with a pour in progress the exchange becomes pending; otherwise it is applied at once, with a
PHLD for a permit that it makes void, the POUR notice, and an evaluation. That HELD stands before EXCHANGE is log entry
14, and the pour and the reasons that the EXCHANGE notice carries log entry 41. -/
def Obligations.PlxcExchangesThePlans : Prop :=
  (∀ s : State, Ready .ship s →
    let u := taken .ship .plxc [] s
    let es := planEntries s.tracker.standby
    let good (i : Nat) (e : PlanEntry) : Prop :=
      (1 ≤ e.pour ∧ e.pour ≤ 999 ∧ 1 ≤ e.hold ∧ e.hold ≤ 12 ∧ 1 ≤ e.planned ∧ e.planned ≤ 500000 ∧ e.rob ≤ 4000000 ∧
        e.lagTol ≤ 4000000 ∧ e.overTol ≤ 500000 ∧ e.stage ≤ 255) ∧
      ∀ j < i, ∀ x, es[j]? = some x → x.pour ≠ e.pour
    let swapped : State := { u with
      tracker := { u.tracker with
        active := s.tracker.standby, standby := s.tracker.active, gen := (s.tracker.gen + 1) % 65536, pos := 0
        exchange := false, cur := none, ack := none, standing := none, lastReasons := 0#13
        state := if s.tracker.op = .loading then .evaluating else .idle } }
    let pair := (concerned swapped).map fun c => (c.entry.pour, c.entry.hold)
    let applied (x : State) : Prop :=
      exec (.plxc .ship []) s =
        .next (replied .ship .plxc .done [.applied true, .num ((s.tracker.gen + 1) % 65536 : Nat)]
          (evaluate (raise (.pour .exchange x.tracker.state pair 0#13) x)))
    (s.tracker.exchange = true → exec (.plxc .ship []) s = .next (refused .ship .plxc .busy [] s)) ∧
    (s.tracker.exchange = false →
      (es = [] → exec (.plxc .ship []) s = .next (replied .ship .plxc .range [.num 0] u)) ∧
      (∀ i e, es[i]? = some e → (∀ j < i, ∀ x, es[j]? = some x → good j x) → ¬ good i e →
        exec (.plxc .ship []) s = .next (replied .ship .plxc .range [.num i] u)) ∧
      (es ≠ [] → (∀ i e, es[i]? = some e → good i e) →
        (∀ p, s.tracker.cur = some p → p.started = true →
          exec (.plxc .ship []) s =
            .next (replied .ship .plxc .done [.applied false] { u with tracker := { u.tracker with exchange := true } })) ∧
        ((∀ p, s.tracker.cur = some p → p.started = false) →
          (s.tracker.state ≠ .permitted → applied swapped) ∧
          (∀ p, s.tracker.state = .permitted → s.tracker.cur = some p →
            let n := p.entry
            applied (issueShore (.phld n.pour n.hold 0#13)
              (raise (.pour .held swapped.tracker.state (some (n.pour, n.hold)) 0#13) swapped))))))) ∧
  OtherFormsRefused .plxc (fun args => args = []) ∧ UnknownOnShore .plxc

/-- R165: HSET sets one hold's mass and the refresh mark, adds the signed change to the hold's correction in LOADING, and has
the tracker evaluate; it is refused with RANGE, and with BUSY while a pour is in progress into that hold. -/
def Obligations.HsetSetsAHoldMass : Prop :=
  (∀ (s : State) (h m : Nat), Ready .ship s → h < 256 → m < 4294967296 →
    let args := toBE h 1 ++ toBE m 4
    let u := taken .ship .hset args s
    let t := s.tracker
    let busy := ∃ p, t.cur = some p ∧ p.started = true ∧ p.entry.hold = h
    let before := t.holds.get (h - 1)
    ((h = 0 ∨ 12 < h ∨ 4000000 < m) → exec (.hset .ship args) s = .next (refused .ship .hset .range args s)) ∧
    (1 ≤ h → h ≤ 12 → m ≤ 4000000 →
      (busy → exec (.hset .ship args) s = .next (refused .ship .hset .busy args s)) ∧
      (¬ busy →
        exec (.hset .ship args) s =
          .next (replied .ship .hset .done [.num before, .num m]
            (evaluate (setRefreshMark { u with
              tracker := { t with
                holds := t.holds.set (h - 1) m
                corrections := if t.op = .loading then
                    t.corrections.set (h - 1) (t.corrections.get (h - 1) + ((m : Int) - before))
                  else t.corrections } })))))) ∧
  OtherFormsRefused .hset (fun args => args.length = 5) ∧ UnknownOnShore .hset

/-- R159: LPST starts the permitted or held pour that it names, repeats DONE for one already started, is refused with STATE
outside LOADING and for another pour while one is in progress, and otherwise opens an UNEXPECTED pour, which replaces the
current pour and is held at once for the reasons of the pour as opened (R154), with PHLD queued and the POUR notice, which
shows SHORE_LOST where the queue was full (R203). A refusal with STATE raises the POUR notice (R158). The order of the
notices is log entry 14, the pour and the reasons of a refusal's notice and of SHORE_LOST log entry 41, and the required
stage 0 of an UNEXPECTED pour log entry 40. -/
def Obligations.LpstStartsAPourOrOpensAnUnexpectedOne : Prop :=
  (∀ (s : State) (pour hold : Nat), Ready .shore s → pour < 65536 → hold < 256 →
    let args := toBE pour 2 ++ toBE hold 1
    let u := taken .shore .lpst args s
    let inRange := 1 ≤ pour ∧ pour ≤ 999 ∧ 1 ≤ hold ∧ hold ≤ 12
    let pair := (concerned s).map fun c => (c.entry.pour, c.entry.hold)
    let state' : Prop := exec (.lpst .shore args) s =
      .next (replied .shore .lpst .state [] (raise (.pour (.refused .lpst) s.tracker.state pair s.tracker.lastReasons) u))
    let atHold := s.tracker.holds.get (hold - 1)
    (¬ inRange → exec (.lpst .shore args) s = .next (refused .shore .lpst .range args s)) ∧
    (inRange → s.tracker.op ≠ .loading → state') ∧
    (inRange → s.tracker.op = .loading →
      (∀ p, s.tracker.cur = some p → p.started = true →
        ((p.entry.pour ≠ pour ∨ p.entry.hold ≠ hold) → state') ∧
        (p.entry.pour = pour → p.entry.hold = hold →
          exec (.lpst .shore args) s =
            .next (replied .shore .lpst .done [.trackerState s.tracker.state]
              (raise (.pour .started s.tracker.state pair p.reasons) u)))) ∧
      (∀ p, s.tracker.cur = some p → p.started = false → p.entry.pour = pour → p.entry.hold = hold →
        let st := if s.tracker.state = .permitted then .pouring else s.tracker.state
        let v : State := { u with
          tracker := { u.tracker with
            state := st
            cur := some { p with
              started := true, startStamp := s.time.port, holdAtStart := atHold, stageAtStart := s.seq.stage, tally := 0 } } }
        let pair' := (concerned v).map fun c => (c.entry.pour, c.entry.hold)
        exec (.lpst .shore args) s =
          .next (replied .shore .lpst .done [.trackerState st] (raise (.pour .started st pair' p.reasons) v))) ∧
      ((∀ p, s.tracker.cur = some p → p.started = false ∧ (p.entry.pour ≠ pour ∨ p.entry.hold ≠ hold)) →
        let entry : PlanEntry := ⟨pour, hold, 0, 0, 0, 0, 0⟩
        let opened : State := { u with
          tracker := { u.tracker with
            cur := some
              { origin := .unexpected, entry := entry, started := true, startStamp := s.time.port, holdAtStart := atHold
                stageAtStart := s.seq.stage, tally := 0, revised := false, reasons := 0#13, holds := 0, union := 0#13 }
            standing := none, state := .holdRequested } }
        let set := reasonSet opened ⟨entry, true, true, 0⟩
        let notice : Detail := match s.links.queue with
          | oldest :: _ => if s.links.queue.length < 16 then .pour .held .holdRequested (some (pour, hold)) set
            else .pour (.shoreLost oldest) .holdRequested none 0#13
          | [] => .pour .held .holdRequested (some (pour, hold)) set
        concerned opened = some ⟨entry, true, true, 0⟩ ∧ hasReason set .unexpected = true ∧
        exec (.lpst .shore args) s =
          .next (replied .shore .lpst .done [.trackerState .holdRequested] { u with
            tracker := { s.tracker with
              cur := some
                { origin := .unexpected, entry := entry, started := true, startStamp := s.time.port
                  holdAtStart := atHold, stageAtStart := s.seq.stage, tally := 0, revised := false, reasons := set
                  holds := 1, union := set }
              standing := none, state := .holdRequested, lastReasons := set, ack := some (s.limits.ackTime * 10) }
            links := { u.links with
              queue := (if s.links.queue.length < 16 then s.links.queue else s.links.queue.tail) ++ [.phld pour hold set]
              notices := if s.links.enables.getLsbD 2 = true then s.links.notices.set 4 (some notice)
                else s.links.notices } })))) ∧
  OtherFormsRefusedOnShore .lpst (fun args => args.length = 3) ∧ UnknownOnShip .lpst

/-- R160: LTAL takes a cumulative tally of the pour in progress: a fall sets TALLY_REVISED, a rise while HELD sets the stop
latch with cause POUR_AFTER_HOLD, the hold's mass follows, the refresh mark is set, and the tracker evaluates; it is refused
with RANGE, and with STATE and the POUR notice unless that pour is in progress. The pour and the reasons of that
notice are log entry 41. -/
def Obligations.LtalTakesATally : Prop :=
  (∀ (s : State) (pour tally : Nat), Ready .shore s → pour < 65536 → tally < 4294967296 →
    let args := toBE pour 2 ++ toBE tally 4
    let u := taken .shore .ltal args s
    let pair := (concerned s).map fun c => (c.entry.pour, c.entry.hold)
    (4000000 < tally → exec (.ltal .shore args) s = .next (refused .shore .ltal .range args s)) ∧
    (tally ≤ 4000000 → (∀ p, s.tracker.cur = some p → p.started = false ∨ p.entry.pour ≠ pour) →
      exec (.ltal .shore args) s =
        .next (replied .shore .ltal .state []
          (raise (.pour (.refused .ltal) s.tracker.state pair s.tracker.lastReasons) u))) ∧
    (∀ p, tally ≤ 4000000 → s.tracker.cur = some p → p.started = true → p.entry.pour = pour →
      let revised : State := { u with
        tracker := { u.tracker with cur := some { p with revised := p.revised || decide (tally < p.tally) } } }
      let v := if s.tracker.state = .held ∧ p.tally < tally then setLatch .pourAfterHold pour revised else revised
      let w : State := { v with
        tracker := { v.tracker with
          cur := v.tracker.cur.map fun x => { x with tally := tally }
          holds := v.tracker.holds.set (p.entry.hold - 1) (min 4000000 (p.holdAtStart + tally)) } }
      exec (.ltal .shore args) s = .next (replied .shore .ltal .done [] (evaluate (setRefreshMark w))))) ∧
  OtherFormsRefusedOnShore .ltal (fun args => args.length = 6) ∧ UnknownOnShip .ltal

/-- R161, R155 and R166: LPND ends the pour in progress, in its order: the tally is taken as LTAL takes it, a tally above the
allowance adds OVERPOUR to the union, the record is written while the history has room and handed to the Sequencer, whose walk
is part of the act (log entry 33), pours ended rises, a PLAN pour moves the plan position and sets the previous planned ROB, a
pending exchange is applied, and the tracker goes on to EVALUATING or PLAN_DONE. It is refused as LTAL is. The lag is 0 from
LPND on (log entry 24), a correction is kept where the history is full (log entry 36), and the order and the contents of the
POUR notices are log entries 14 and 41. -/
def Obligations.LpndEndsThePour : Prop :=
  (∀ (s : State) (pour tally : Nat), Ready .shore s → pour < 65536 → tally < 4294967296 →
    let args := toBE pour 2 ++ toBE tally 4
    let pair := (concerned s).map fun c => (c.entry.pour, c.entry.hold)
    (4000000 < tally → exec (.lpnd .shore args) s = .next (refused .shore .lpnd .range args s)) ∧
    (tally ≤ 4000000 → (∀ p, s.tracker.cur = some p → p.started = false ∨ p.entry.pour ≠ pour) →
      exec (.lpnd .shore args) s =
        .next (replied .shore .lpnd .state []
          (raise (.pour (.refused .lpnd) s.tracker.state pair s.tracker.lastReasons) (taken .shore .lpnd args s)))) ∧
    (∀ p, tally ≤ 4000000 → s.tracker.cur = some p → p.started = true → p.entry.pour = pour →
      let u := taken .shore .lpnd args s
      let h := p.entry.hold - 1
      let planned := p.origin ≠ .unexpected
      let revised : State := { u with
        tracker := { u.tracker with cur := some { p with revised := p.revised || decide (tally < p.tally) } } }
      let v := if s.tracker.state = .held ∧ p.tally < tally then setLatch .pourAfterHold pour revised else revised
      let x : CurrentPour := { v.tracker.cur.getD p with tally := tally }
      let q : CurrentPour := if planned ∧ p.entry.planned + p.entry.overTol < tally then
          { x with union := x.union ||| Reason.overpour.bit } else x
      let k : Tracker := { v.tracker with
        cur := some q, holds := v.tracker.holds.set h (min 4000000 (p.holdAtStart + tally)), ack := none }
      let room := k.history.length < 128
      let r : PourRec :=
        { place := k.history.length + 1, pour := pour, hold := p.entry.hold, origin := p.origin, planned := p.entry.planned
          tally := tally, revised := q.revised, startStamp := p.startStamp, endStamp := s.time.port, holds := q.holds
          union := q.union, stage := p.stageAtStart, cond := s.engine.published.map Published.atEnd
          lag := match s.engine.published with | some c => lagDuring k c.cond.rob tally | none => 0
          correction := if k.corrections.get h = 0 then none else some (k.corrections.get h) }
      let w := hearRecord { v with
        tracker := { k with
          history := if room then k.history ++ [r] else k.history
          corrections := if room then k.corrections.set h 0 else k.corrections
          ended := if k.ended < 65535 then k.ended + 1 else k.ended } }
      let between (y : State) : State := { y with
        tracker := { y.tracker with
          state := if y.tracker.pos < planLength y.tracker.active then .evaluating else .planDone, lastReasons := 0#13 } }
      let closed := between { w with
        tracker := { w.tracker with
          cur := none, standing := none, ack := none, lag := 0
          prevRob := if planned then some p.entry.rob else w.tracker.prevRob
          pos := if planned then w.tracker.pos + 1 else w.tracker.pos } }
      let ended := raise (.pour (.ended (decide room)) closed.tracker.state (some (pour, p.entry.hold)) q.reasons) closed
      let swapped : State := { ended with
        tracker := { ended.tracker with
          active := ended.tracker.standby, standby := ended.tracker.active, gen := (ended.tracker.gen + 1) % 65536, pos := 0
          exchange := false, cur := none, ack := none, standing := none, lastReasons := 0#13
          state := if ended.tracker.op = .loading then .evaluating else .idle } }
      let pair' := (concerned swapped).map fun c => (c.entry.pour, c.entry.hold)
      let next := between (if ended.tracker.exchange = true then
          evaluate (raise (.pour .exchange swapped.tracker.state pair' 0#13) swapped) else ended)
      let told := if next.tracker.state = .planDone then raise (.pour .planDone .planDone none 0#13) next else next
      exec (.lpnd .shore args) s = .next (replied .shore .lpnd .done [] (judgeGrant (evaluate (setRefreshMark told))))) ∧
    (∀ p, tally ≤ 4000000 → s.tracker.cur = some p → p.started = true → p.entry.pour = pour →
      ¬ (s.tracker.state = .held ∧ p.tally < tally) → s.tracker.op = .loading → HandsNothingOn s →
      let old := s.tracker
      let h := p.entry.hold - 1
      let over' := p.origin ≠ .unexpected ∧ p.entry.planned + p.entry.overTol < tally
      let r : PourRec :=
        { place := old.history.length + 1, pour := pour, hold := p.entry.hold, origin := p.origin
          planned := p.entry.planned, tally := tally, revised := p.revised || decide (tally < p.tally)
          startStamp := p.startStamp, endStamp := s.time.port, holds := p.holds
          union := if over' then p.union ||| Reason.overpour.bit else p.union
          stage := p.stageAtStart, cond := s.engine.published.map Published.atEnd
          lag := match s.engine.published with | some x => lagDuring old x.cond.rob tally | none => 0
          correction := if old.corrections.get h = 0 then none else some (old.corrections.get h) }
      let room := old.history.length < 128
      let planned := p.origin ≠ .unexpected
      let bank := if old.exchange then old.standby else old.active
      let pos := if old.exchange then 0 else if planned then old.pos + 1 else old.pos
      ∃ t set, exec (.lpnd .shore args) s = .next (replied .shore .lpnd .done [] t) ∧
        t.tracker =
          { old with
            state := if pos < planLength bank then .evaluating else .planDone
            active := bank, standby := if old.exchange then old.active else old.standby
            gen := if old.exchange then (old.gen + 1) % 65536 else old.gen, exchange := false
            pos := pos, prevRob := if planned then some p.entry.rob else old.prevRob
            cur := none, standing := none, ack := none, lag := 0, lastReasons := set
            holds := old.holds.set h (min 4000000 (p.holdAtStart + tally))
            corrections := if room then old.corrections.set h 0 else old.corrections
            history := if room then old.history ++ [r] else old.history
            ended := if old.ended < 65535 then old.ended + 1 else old.ended } ∧
        t.limits = s.limits ∧ t.xfer = s.xfer ∧ t.seq = s.seq ∧ t.console = s.console ∧ t.records = s.records ∧
        t.store = s.store ∧ t.gauge = s.gauge ∧ t.meter = s.meter ∧ t.links.queue = s.links.queue ∧ t.time = s.time ∧
        t.inputs = s.inputs)) ∧
  OtherFormsRefusedOnShore .lpnd (fun args => args.length = 6) ∧ UnknownOnShip .lpnd

/-- R162: LHAK that names the pour held in HOLD_REQUESTED cancels the ack countdown, makes the pour HELD and has the tracker
evaluate, and in any other case changes nothing; the expiry of the ack countdown sets the stop latch with cause ACK_TIMEOUT
and makes the pour HELD, and without a countdown in HOLD_REQUESTED changes nothing (log entry 6). R89 and R92: what a setting of
the latch does, for every cause: the latch, the cause among the causes, the last setting with its stamp and its sequence or pour
number, the count, which holds at 65,535, the line off, the STOP notice, which no enable masks, and the evaluation, which stands
within the setting (log entry 9). -/
def Obligations.LhakAndTheAckExpiryMakeAPourHeld : Prop :=
  (∀ (s : State) (pour : Nat), Ready .shore s → pour < 65536 →
    let args := toBE pour 2
    let u := taken .shore .lhak args s
    let names := s.tracker.state = .holdRequested ∧ ∃ p, s.tracker.cur = some p ∧ p.entry.pour = pour
    ((pour = 0 ∨ 999 < pour) → exec (.lhak .shore args) s = .next (refused .shore .lhak .range args s)) ∧
    (1 ≤ pour → pour ≤ 999 →
      (names →
        exec (.lhak .shore args) s =
          .next (replied .shore .lhak .done []
            (evaluate { u with tracker := { u.tracker with state := .held, ack := none } }))) ∧
      (¬ names → exec (.lhak .shore args) s = .next (replied .shore .lhak .done [] u)))) ∧
  OtherFormsRefusedOnShore .lhak (fun args => args.length = 2) ∧ UnknownOnShip .lhak ∧
  (∀ (s : State),
    (∀ p, s.tracker.state = .holdRequested → s.tracker.cur = some p → s.tracker.ack.isSome →
      let v := setLatch .ackTimeout p.entry.pour { s with tracker := { s.tracker with ack := none } }
      exec .ackExpiry s = .next (evaluate { v with tracker := { v.tracker with state := .held, ack := none } })) ∧
    ((s.tracker.state ≠ .holdRequested ∨ s.tracker.cur = none ∨ s.tracker.ack = none) → exec .ackExpiry s = .next s)) ∧
  (∀ (s : State) (cause : LatchCause) (n : Nat),
    let l := s.limits
    let c := l.causes
    let set : State := { s with
      limits := { l with
        latch := true
        causes := match cause with
          | .breach => { c with breach := true }
          | .ackTimeout => { c with ackTimeout := true }
          | .pourAfterHold => { c with pourAfterHold := true }
        lastSetting := some ⟨cause, s.time.port, n⟩
        settings := if l.settings < 65535 then l.settings + 1 else l.settings
        pourEnable := false }
      links := { s.links with notices := s.links.notices.set NoticeKind.stop.place (some (.stop cause n)) } }
    setLatch cause n s = evaluate set)

/-- R156, R158 and R142: an evaluation stores the reason set of the pour concerned and acts by the tracker state: a permit,
a hold, a resumption, or the current reasons alone. The POUR notice is raised before the shore notice is queued, so that a
SHORE_LOST stands after it (log entry 14). Where the pour is not started and STAGE is among the reasons, a Sequencer that is
RUNNING and waits for a pour that an entry of the plan bears is then suspended with DEADLOCK. Until it is started a
permitted pour holds 0 in the figures of its start (log entry 40). -/
def Obligations.AnEvaluationActsByTheTrackerState : Prop :=
  (∀ s : State, (concerned s = none → evaluate s = s) ∧ (awaitsPlanned s = true ↔ AwaitsPlanned s)) ∧
  ∀ (s : State) (c : Concerned), concerned s = some c →
    let r := reasonSet s c
    let dead (v : State) : State :=
      if c.started = false ∧ hasReason r .stage = true ∧ awaitsPlanned s = true ∧ v.seq.core.state = .running ∧
          v.seq.core.wait = .pour then
        raise (.sequence .suspended v.seq.core.pointer (stepKind v.seq.active v.seq.core.pointer) .deadlock .nothing
            v.seq.core.passes)
          { v with seq := { v.seq with
            core := { v.seq.core with state := .suspended, wait := .nothing, suspend := .deadlock, detail := .nothing } } }
      else v
    let noted : State := { s with tracker := { s.tracker with lastReasons := r } }
    let moved (st : TrackerState) (q : CurrentPour) : State := { noted with
      tracker := { noted.tracker with state := st, cur := some q } }
    let notified (e : PourEvent) (q : CurrentPour) (set : Reasons) (n : ShoreNotice) (v : State) : State :=
      issueShore n (raise (.pour e v.tracker.state (some (q.entry.pour, q.entry.hold)) set) v)
    let permits (q : CurrentPour) : Prop :=
      evaluate s = dead (notified .permit q 0#13 (.pmit q.entry.pour q.entry.hold (q.entry.planned + q.entry.overTol))
        (moved .permitted { q with reasons := 0#13 }))
    let follows (q : CurrentPour) : Prop :=
      evaluate s = dead (moved s.tracker.state { q with reasons := r, union := q.union ||| r })
    let passed := ∃ st, s.tracker.standing = some st ∧ st.passed = true ∧ st.pour = c.entry.pour ∧ st.gen = s.tracker.gen
    (s.tracker.state = .evaluating →
      (r = 0#13 ∧ passed →
        permits
          { origin := .plan s.tracker.pos, entry := c.entry, started := false, startStamp := 0, holdAtStart := 0
            stageAtStart := 0, tally := 0, revised := false, reasons := 0#13, holds := 0, union := 0#13 }) ∧
      (¬ (r = 0#13 ∧ passed) → evaluate s = dead noted)) ∧
    ∀ p, s.tracker.cur = some p →
      ((s.tracker.state = .permitted ∨ s.tracker.state = .pouring) →
        (r = 0#13 → evaluate s = dead noted) ∧
        (r ≠ 0#13 →
          let q := { p with
            reasons := r, holds := if p.holds < 65535 then p.holds + 1 else p.holds, union := p.union ||| r }
          let v := moved .holdRequested q
          evaluate s = dead (notified .held q r (.phld p.entry.pour p.entry.hold r)
            { v with tracker := { v.tracker with ack := some (s.limits.ackTime * 10) } }))) ∧
      (s.tracker.state = .holdRequested → follows p) ∧
      (s.tracker.state = .held →
        (r = 0#13 → p.started = true →
          evaluate s =
            dead (notified .resumed p 0#13 (.pres p.entry.pour p.entry.hold) (moved .pouring { p with reasons := 0#13 }))) ∧
        (r = 0#13 → p.started = false → passed → permits p) ∧
        (r = 0#13 → p.started = false → ¬ passed → follows p) ∧ (r ≠ 0#13 → follows p))

/-- R154: when each reason is in the reason set of the pour concerned. -/
def Obligations.EachReasonHoldsByItsRule : Prop :=
  ∀ (s : State) (c : Concerned),
    let has (r : Reason) : Prop := hasReason (reasonSet s c) r = true
    let published : Prop := s.engine.published.isSome
    let T := s.store.tables
    let standing (f : Standing → Bool) : Prop :=
      ∃ x, s.tracker.standing = some x ∧ x.pour = c.entry.pour ∧ x.gen = s.tracker.gen ∧ f x = true
    let remaining := c.entry.planned - c.tally
    (has .noCondition ↔ ¬ published) ∧
    (has .stage ↔ c.started = false ∧ s.seq.stage < c.entry.stage) ∧
    (has .breach ↔ s.limits.watch = .breach) ∧
    (has .stopLatch ↔ s.limits.latch = true) ∧
    (has .lag ↔ published ∧ (c.entry.lagTol : Int) < (if c.started then s.tracker.lag else s.tracker.lagBefore)) ∧
    (has .holdMass ↔ ∃ row, T.rowOfHold c.entry.hold = some row ∧
      T.maxHold row < s.tracker.holds.get (c.entry.hold - 1) + remaining) ∧
    (has .historyFull ↔ c.started = false ∧ 128 ≤ s.tracker.history.length) ∧
    (has .projection ↔ standing fun x => !x.passed) ∧
    (has .airDraft ↔ (published ∧ ∃ x ∈ s.limits.flags.air.cells, x = true) ∨ standing fun x => x.reasons.airDraft) ∧
    (has .draft ↔ (published ∧ s.limits.flags.draft = true) ∨ standing fun x => x.reasons.draft) ∧
    (has .trim ↔ (published ∧ s.limits.flags.trim = true) ∨ standing fun x => x.reasons.trim) ∧
    (has .overpour ↔ c.started = true ∧ c.unexpected = false ∧ c.entry.planned + c.entry.overTol < c.tally) ∧
    (has .unexpected ↔ c.unexpected = true)

/-- R171, R172, R144 and R177: a rise of the console request in AUTO makes the state REQUESTED, and where no transfer is
OPENING or CLOSING and no assigned valve is in travel the console is granted in the same act; in any other state the rise
changes the input alone, and while the reset input is held it changes the input alone too (R207; log entry 2). In REQUESTED
the grant is given at the first act that leaves the condition true. That the live step progress, countdowns and repeat count
stay as at the grant, and that the live suspend detail is none, is the model's choice (log entry 47). -/
def Obligations.AConsoleRequestIsGrantedWhenNothingMoves : Prop :=
  (∀ s : State,
    let raised : State := { s with inputs := { s.inputs with consoleRequest := true } }
    let requested : State := { raised with console := { s.console with state := .requested } }
    ((s.console.state ≠ .auto ∨ s.inputs.reset = true) → exec .consoleRequestRise s = .next raised) ∧
    (s.console.state = .auto → s.inputs.reset = false →
      exec .consoleRequestRise s = .next (judgeGrant requested) ∧
      (¬ NothingMoves s → exec .consoleRequestRise s = .next requested) ∧
      (NothingMoves s → ∃ t, exec .consoleRequestRise s = .next t ∧ GrantsConsole requested t))) ∧
  (∀ w : State,
    ((w.console.state ≠ .requested ∨ ¬ NothingMoves w) → judgeGrant w = w) ∧
    (w.console.state = .requested → NothingMoves w → GrantsConsole w (judgeGrant w)))

/-- R171 and R174 to R177 with R144: a drop of the console request in REQUESTED restores AUTO; in GRANTED it releases the
console: the assigned valves are adopted from their feedback, in ascending channel; each handed-over transfer is
resumed where its valves show OPEN and its pump runs, and is ended otherwise; the water moved by hand is accounted for and the
reference masses set; and with nothing closing RECONCILING ends in the same act. Where a transfer still closes, RECONCILING
ends at the arrival of the last closing valve. Its end gives the Sequencer its saved state back, a RUNNING one judging its step
afresh, and then takes a request that stands (log entry 10). That the countdown of a valve adopted at the take-back, and of the
closing valve that arrives, is 0 is the model's choice (log entry 45). That an end or a return of a transfer in YIELDED is
recorded in the live step progress too is the model's choice (log entry 47). -/
def Obligations.AConsoleDropTakesBackThePart : Prop :=
  (∀ s : State,
    let dropped : State := { s with inputs := { s.inputs with consoleRequest := false } }
    let T := s.store.tables
    let handed (d : Driver) : Prop := (s.console.handed.get d).isSome
    let shown (ch : Nat) : Prop := feedback s ch = .opened ∧ (s.valve ch).state ≠ .fault
    let open' (d : Driver) : Prop := shown (tankValve s d) ∧ shown d.lineValve ∧ ∀ p, d.pump? = some p → s.inputs.running p = true
    let dry (d : Driver) : Prop := d.gravity = true ∧ estimated s (s.transfer d).tank = true
    let fresh (ch : Nat) (why : ValveFault) : Prop := ch < 38 ∧ assigned s ch = true ∧ (s.valve ch).state ≠ .fault ∧
      ((feedback s ch = .neither ∧ why = .stuck) ∨ (feedback s ch = .both ∧ why = .switchDisagree))
    let resumed (d : Driver) (w : State) : State :=
      let y := w.setTransfer d { w.transfer d with state := .running }
      let z : State := { y with console := { y.console with reached := y.console.reached.set d false } }
      match d.pump? with
      | some p => z.setPumpMeter p { z.pumpMeter p with phase := .flowWatch, countdown := T.noFlowTime d * 10 }
      | none => z
    let ends (d : Driver) (r : EndReason) (w w' : State) : Prop := ∃ x, ClosesWith d r w x ∧
      w' = if (x.transfer d).state = .closing then
          { x with console := { x.console with closing := x.console.closing.set d true } } else x
    let account (w : State) : State := { w with
      gauge := { w.gauge with recs := w.gauge.recs.map (Option.map fun g => { g with refMass := g.mass }) }
      records := match s.console.snapshot with
        | some snap => (List.range 48).foldl (fun k c => match snap.get c, w.gaugeRec c with
          | some x, some g =>
            let Δ : Int := (g.mass : Int) - x.mass
            if (∀ d ∈ drivers, s.console.handed.get d ≠ some c) ∧ x.usable = true ∧ (g.state = .good ∨ g.state = .held) ∧
                T.drift < Δ.natAbs then
              k.enter
                { number := 0, tank := c, out := decide (Δ < 0), method := .hand, startTime := s.console.grantStamp.getD 0
                  endTime := s.time.port, volume := rdivN (Δ.natAbs * 1000) g.density, basis := .mass, disagree := false
                  notClosed := false, merged := false, merges := 0, density := g.density }
            else k
          | _, _ => k) w.records
        | none => w.records }
    (s.console.state = .requested →
      exec .consoleRequestDrop s = .next { dropped with console := { s.console with state := .auto } }) ∧
    ((s.console.state = .auto ∨ s.console.state = .reconciling) → exec .consoleRequestDrop s = .next dropped) ∧
    (s.console.state = .granted → ∃ (V : Tab 38 Valve) (N : Tab 10 (Option Detail)) (f : Nat → State),
      (∀ ch < 38, V.get ch =
        if assigned s ch = true ∧ (s.valve ch).state ≠ .fault then
          let (e, st, why) : ValveEnd × ValveState × Option ValveFault := match feedback s ch with
            | .opened => (.opened, .opened, none)
            | .closed => (.closed, .closed, none)
            | .neither => (.closed, .fault, some .stuck)
            | .both => (.closed, .fault, some .switchDisagree)
          { s.valve ch with
            commanded := e, state := st, cause := why, countdown := 0, drive := none
            handSet := (s.valve ch).handSet || (s.valve ch).commanded != e }
        else s.valve ch) ∧
      (∀ k : NoticeKind, k ≠ .valve → N.get k.place = s.links.notices.get k.place) ∧
      (∀ ch why, s.links.enables.getLsbD 0 = true → fresh ch why → (∀ n x, ch < n → ¬ fresh n x) →
        N.get 2 = some (.valve ch why (feedback s ch) (holderOf s ch))) ∧
      ((s.links.enables.getLsbD 0 = false ∨ ∀ n x, ¬ fresh n x) → N.get 2 = s.links.notices.get 2) ∧
      f 0 = { dropped with
        console := { s.console with grantLine := false, releaseStamp := some s.time.port, state := .reconciling }
        xfer := { s.xfer with valves := V }, links := { s.links with notices := N } } ∧
      (∀ i d, drivers[i]? = some d →
        (¬ handed d → f (i + 1) = f i) ∧ (handed d → open' d → ¬ dry d → f (i + 1) = resumed d (f i)) ∧
        (handed d → open' d → dry d → ends d .noMeasure (f i) (f (i + 1))) ∧
        (handed d → ¬ open' d → ends d .changedByHand (f i) (f (i + 1)))) ∧
      exec .consoleRequestDrop s = .next (endReconciling (account (f 6))))) ∧
  (∀ w : State,
    let closes := ∃ d, w.console.closing.get d = true
    let auto : State := { w with
      console := { w.console with
        state := .auto, snapshot := none, handed := SixOf.all none, reached := SixOf.all false, closing := SixOf.all false } }
    let requested (v : State) : State :=
      if v.inputs.consoleRequest = true then judgeGrant { v with console := { v.console with state := .requested } } else v
    let back (c : SeqCore) : State := { auto with seq := { w.seq with core := c, saved := none } }
    ((w.console.state ≠ .reconciling ∨ closes) → endReconciling w = w) ∧
    (w.console.state = .reconciling → ¬ closes →
      (w.seq.saved = none → endReconciling w = requested auto) ∧
      ∀ c, w.seq.saved = some c →
        (c.state ≠ .running → endReconciling w = requested (back c)) ∧
        (c.state = .running → endReconciling w = requested (resumeStep (back c))))) ∧
  (∀ w : State,
    let core (x : SeqCore) : State := { w with seq := { w.seq with core := x } }
    let next := nextStep (core { w.seq.core with wait := .nothing })
    (∀ t, stepAt w.seq.active w.seq.core.pointer = .dwell t →
      (w.seq.core.dwell = 0 → resumeStep w = if next.2 then walk next.1 else next.1) ∧
      (w.seq.core.dwell ≠ 0 → resumeStep w = core { w.seq.core with wait := .dwell })) ∧
    ((∀ t, stepAt w.seq.active w.seq.core.pointer ≠ .dwell t) → resumeStep w = walk w)) ∧
  (∀ (s : State) (ch : Fin 38) (d : Driver), assigned s ch.val = true → (s.valve ch.val).state = .closing →
    (s.valve ch.val).commanded = .closed → holderOf s ch.val = some d → (s.transfer d).state = .closing →
    s.seq.core.state = .yielded →
    let a := (s.setLimitInputs ch.val false true).setValve ch.val
      { s.valve ch.val with state := .closed, countdown := 0, drive := none }
    ValvesDone a d →
    ∃ t, ReturnsToIdle d a t ∧ exec (.limitInputChange ch false true) s = .next (judgeGrant (endReconciling t)))

/-- R190 to R192: RPTB builds the report of a kind whole into the buffer, with its stamp, its items in the order of R191;
its checks refuse with LENGTH, RANGE and STATE. RPTG then gives any page of the report and changes nothing. The coding of
the items that no layout fixes is free, within 12 bytes an item, so that every report fits within 16 pages (log entry 7).
The four bytes of a correction that is absent are 0 (log entry 49); a volume, a BM, a sequence number or a correction beyond
its field is free (log entries 27 and 50). -/
def Obligations.ReportsAreBuiltAndFetchedByPage : Prop :=
  (∀ (s : State), Ready .ship s →
    let u (args : List Byte) := taken .ship .rptb args s
    let no (args : List Byte) (code : ReplyCode) := exec (.rptb .ship args) s = .next (refused .ship .rptb code args s)
    let builds (args : List Byte) (r : Report) : Prop :=
      exec (.rptb .ship args) s =
        .next (replied .ship .rptb .done [.reportKind r.kind, .num r.pages]
          { u args with records := { s.records with report := some r } })
    let now := s.time.port
    let k := s.records
    let outs := (k.discharged.cells.map BitVec.toNat).sum
    let ins := (k.takenUp.cells.map BitVec.toNat).sum
    let moved (c : Nat) : Int := ((s.gaugeRec c).map GaugeRec.unexplained).getD 0
    let changed (c : Nat) : Bool := ((s.gaugeRec c).map GaugeRec.changed).getD false
    let block (c : Nat) : List Item :=
      if 0 < (k.discharged.get c).toNat ∨ 0 < (k.takenUp.get c).toNat ∨ moved c ≠ 0 ∨ changed c = true then
        [.num c, .num (k.discharged.get c).toNat, .num (k.takenUp.get c).toNat, .num (moved c), .flag (changed c)]
      else []
    let loose (p : Pump) : Nat :=
      if s.store.dataState = .valid ∧ s.store.tables.fitted p.driver = true then
        rdivN ((s.pumpMeter p).unattributed * s.store.tables.factor p.driver) 10000
      else 0
    let discharge : List Item :=
      [.num now, .opState s.tracker.op, natOr s.tracker.opbgStamp, .num k.log.length, .flag k.full,
          .num ((k.nextNumber - 1 : Nat) : Int), .num outs, .num ins] ++ (List.range 48).flatMap block ++
        [.num (loose .p0), .num (loose .p1), .num (loose .p2), .num (loose .p3)]
    let final : List Item :=
      [.num now, natOr s.tracker.opbgStamp, natOr s.tracker.opndStamp, .num s.tracker.ended,
        .num s.tracker.history.length, .num (s.tracker.holds.cells.sum : Nat),
        (match s.engine.published with | some p => .raw p.bytes | none => .absent),
        .num outs, .num ins, .num ((List.range 48).map moved).sum, .num ((s.tracker.history.map PourRec.holds).sum : Nat),
        .num s.limits.settings, .num k.log.length, .flag k.full]
    (∀ place : Byte,
      ((place.toNat = 0 ∨ 128 < place.toNat) → no [0#8, place] .range) ∧
      (1 ≤ place.toNat → place.toNat ≤ 128 →
        (s.tracker.history.length < place.toNat → no [0#8, place] .state) ∧
        (∀ r, s.tracker.history[place.toNat - 1]? = some r →
          builds [0#8, place] ⟨.pour, some place.toNat, now, [.raw (toBE now 4 ++ r.bytes)]⟩))) ∧
    (s.tracker.op = .idle → no [1#8] .state) ∧
    (s.tracker.op ≠ .idle → builds [1#8] ⟨.discharge, none, now, discharge⟩) ∧
    (s.tracker.op ≠ .complete → no [2#8] .state) ∧
    (s.tracker.op = .complete → builds [2#8] ⟨.final, none, now, final⟩) ∧
    (∀ k : Byte, 2 < k.toNat → no [k] .range)) ∧
  OtherFormsRefused .rptb (fun args => (∃ k : Byte, k ≠ 0#8 ∧ args = [k]) ∨ ∃ place, args = [0#8, place]) ∧
  UnknownOnShore .rptb ∧
  (∀ (s : State) (n : Byte), Ready .ship s →
    ((s.records.report = none ∨ ∃ r, s.records.report = some r ∧ (n.toNat = 0 ∨ r.pages < n.toNat)) →
      exec (.rptg .ship [n]) s = .next (refused .ship .rptg .range [n] s)) ∧
    (∀ r, s.records.report = some r → 1 ≤ n.toNat → n.toNat ≤ r.pages →
      let page := (r.bytes.drop (200 * (n.toNat - 1))).take 200
      exec (.rptg .ship [n]) s =
        .next (replied .ship .rptg .done
          [.reportKind r.kind, .num r.stamp, .num n.toNat, .num r.pages, .raw page] (taken .ship .rptg [n] s)) ∧
      (n.toNat < r.pages → page.length = 200) ∧ 1 ≤ page.length)) ∧
  OtherFormsRefused .rptg (fun args => args.length = 1) ∧ UnknownOnShore .rptg ∧
  (∀ s : State,
    (∀ (place : Nat) (r : PourRec), s.tracker.history[place]? = some r →
      (Report.mk .pour (some (place + 1)) s.time.port [.raw (toBE s.time.port 4 ++ r.bytes)]).pages ≤ 16) ∧
    (Report.mk .discharge none s.time.port (dischargeContents s)).pages ≤ 16 ∧
    ((∀ p, s.engine.published = some p → p.cond.cps.length ≤ 16) →
      (Report.mk .final none s.time.port (finalContents s)).pages ≤ 16))

/-- R182 to R188: what entering a candidate does to the log and the totals, and the candidate that the end of a transfer forms:
a CLOSING transfer whose valves are both CLOSED or FAULT returns to IDLE with its entry (R115). A total holds 48 bits; beyond
them it is free (log entry 27), as is the metered volume of a pump not fitted (log entry 37). That an estimated tank whose density a blend lowers keeps a mass above its capacity mass is log
entry 48. That a hand-on in YIELDED is recorded in the live step progress too is log entry 47. -/
def Obligations.TheLogEntersItsCandidates : Prop :=
  (∀ (k : Records) (c : LogEntry),
    let same (e : LogEntry) : Prop := e.tank = c.tank ∧ e.out = c.out
    let t := k.enter c
    let merged (mixed : Bool) (e : LogEntry) : LogEntry :=
      { e with
        volume := e.volume + c.volume, endTime := max e.endTime c.endTime
        density := rdivN (e.volume * e.density + c.volume * c.density) (e.volume + c.volume)
        disagree := e.disagree || c.disagree, notClosed := e.notClosed || c.notClosed, basis := e.basis.join c.basis
        merged := true, merges := if e.merges < 255 then e.merges + 1 else e.merges
        method := if mixed then .mixed else e.method }
    let appended (l : List LogEntry) : Prop :=
      t.log = l ++ [{ c with number := k.nextNumber }] ∧
      t.nextNumber = (if k.nextNumber < 4294967295 then k.nextNumber + 1 else k.nextNumber)
    (c.volume = 0 → t = k) ∧
    (c.volume ≠ 0 → t.report = k.report ∧
      ∀ tank < 48, ∀ out,
        let sum := (total k tank out).toNat + if tank = c.tank ∧ out = c.out then c.volume else 0
        sum < 2 ^ 48 → (total t tank out).toNat = sum) ∧
    (c.volume ≠ 0 → k.log.length < 128 → appended k.log ∧ t.full = k.full) ∧
    (c.volume ≠ 0 → 128 ≤ k.log.length → t.full = true ∧
      (∀ l e r, k.log = l ++ e :: r → same e → e.method = c.method → (∀ x ∈ r, ¬ (same x ∧ x.method = c.method)) →
        t.log = l ++ merged false e :: r ∧ t.nextNumber = k.nextNumber) ∧
      (∀ l e r, k.log = l ++ e :: r → same e → (∀ x ∈ k.log, same x → x.method ≠ c.method) → (∀ x ∈ r, ¬ same x) →
        t.log = l ++ merged true e :: r ∧ t.nextNumber = k.nextNumber) ∧
      ((∀ x ∈ k.log, ¬ same x) →
        ∀ l e m f r, k.log = l ++ e :: m ++ f :: r → e.tank = f.tank → e.out = f.out →
          (∀ x ∈ m, ¬ (x.tank = e.tank ∧ x.out = e.out)) →
          (∀ i j a b, i < j → k.log[i]? = some a → k.log[j]? = some b → a.tank = b.tank → a.out = b.out →
            l.length ≤ i) →
          appended (l ++ m ++
            { f with
              volume := f.volume + e.volume, startTime := e.startTime
              density := rdivN (f.volume * f.density + e.volume * e.density) (f.volume + e.volume)
              disagree := f.disagree || e.disagree, notClosed := f.notClosed || e.notClosed, basis := f.basis.join e.basis
              merged := true, merges := min 255 (f.merges + e.merges + 1)
              method := if f.method = e.method then f.method else .mixed } :: r)))) ∧
  (∀ (d : Driver) (s : State),
    ((s.transfer d).state = .closing → ValvesDone s d → ReturnsToIdle d s (tryIdle d s)) ∧
    (¬ ((s.transfer d).state = .closing ∧ ValvesDone s d) → tryIdle d s = s))

/-- R39, R52, R77, R78, R93, R119, R102, R145, R167, R168 and R193: the queries of the ship link reply DONE and change
nothing but the link, and their checks refuse with LENGTH, DATA and RANGE; on the shore link they are answered UNKNOWN. A
kept projection result stands in the order of R74. That LENGTH is judged first in TANK is log entry 11, that a metered
volume uses the stored factor while the data is not VALID, and is free for a pump not fitted, log entry 37, that a volume
beyond its field is free log entry 27, and a BM or a sequence number beyond its field log entry 50, what the countdown of a
valve not in travel shows log entry 45, and a gravity head without a gauge record log entry 46. What the live items that
SEQQ shows hold in YIELDED is log entry 47. -/
def Obligations.QueriesReplyAndChangeNothing : Prop :=
  (∀ s : State, Ready .ship s →
    let asks (m : Mnem) (args : List Byte) (data : List Item) : Prop :=
      exec (m.command .ship args) s = .next (replied .ship m .done data (taken .ship m args s))
    let valid := s.store.dataState = .valid
    (∀ (c : Byte) (g : GaugeRec), valid → s.store.tables.isBallast c.toNat = true → s.gaugeRec c.toNat = some g →
      let slot := s.store.tables.gaugeSlot c.toNat
      asks .tank [c] (gaugeItems g ++
        [.num slot, .flag (s.gauge.currentMask.getLsbD slot), .flag (s.gauge.nextMask.getLsbD slot), natOr s.gauge.lastStamp])) ∧
    (∀ d : Driver, asks .metr [BitVec.ofNat 8 d.code] (meterItems s d)) ∧
    (valid →
      asks .cond []
        [jobItem s, kindItem s.engine.lastKind, .flag s.engine.refreshMark, .flag s.engine.projMark.isSome,
          .num (unreadEnabled s).length, match s.engine.published with | some p => .raw p.bytes | none => .num 0]) ∧
    (valid → asks .proj [] (.num s.tracker.gen :: markItems s.engine.projMark ++ resultItems s.engine.result)) ∧
    (∀ r : ProjResult,
      let figures (x : CaseResult) : List Item :=
        [.num x.maxSf, .num x.maxSfAt, .num x.maxBm, .num x.maxBmAt, .num x.deepest, .num x.trim,
          (match x.clearance with | some v => .num v | none => .absent), .flag x.quality.hydroClamped,
          .flag x.quality.trimClamped, .flag x.quality.gaugeHeld, .flag x.quality.estimated, .flag x.quality.offTable,
          .flag x.quality.neverRead]
      let judged (x : ProjReasons) : List Item := [.flag x.stress, .flag x.draft, .flag x.trim, .flag x.airDraft]
      resultItems (some r) =
        [.num r.req.pour, .num r.req.hold, .num r.req.remaining, .num r.req.gen, .num r.seq, .num r.stamp] ++
          figures r.caseA ++ figures r.caseB ++ judged r.caseA.failed ++ judged r.caseB.failed ++ judged r.reasons) ∧
    asks .lims [] (limitItems s.limits ++ parameterItems s.limits ++ thresholdItems s) ∧
    (∀ d : Driver, asks .xfer [BitVec.ofNat 8 d.code]
      (transferItems (s.transfer d) ++ .num (s.transfer d).targetMass :: valveStateItems s d ++ driverItems s d)) ∧
    (∀ (id : Byte) (ch : Nat), valid → namedValve s id.toNat = some ch →
      asks .valv [id] (valveItems (s.valve ch) ++
        [.feedback (feedback s ch), .num (s.store.tables.travel ch), .num ch, driverItem (holderOf s ch)])) ∧
    (let base := .seqState s.seq.core.state :: savedItems s ++ coreItems s.seq.active s.seq.core ++ .num s.seq.stage ::
        .raw (rowBytes s.seq.active 0) :: programItems s;
      asks .seqq [] base ∧
      ∀ i : Byte, i.toNat < 64 → asks .seqq [i] (base ++ [.raw (rowBytes s.seq.active (i.toNat + 1))])) ∧
    (asks .pour [] (trackerItems s) ∧
      ∀ i : Byte, i.toNat < 96 → asks .pour [i] (trackerItems s ++ (planEntry s.tracker.active i.toNat).items)) ∧
    (∀ n r, 1 ≤ n → n ≤ 999 → (s.tracker.history.filter fun x => x.pour == n).getLast? = some r →
      asks .phis (toBE n 2) (recordItems r ++ [.num (s.tracker.history.countP fun x => x.pour == n : Nat)])) ∧
    (let base : List Item := [.num s.records.log.length, .flag s.records.full, .num s.records.nextNumber];
      asks .dlog [] base ∧
      ∀ (n : Byte) (e : LogEntry), 1 ≤ n.toNat → s.records.log[n.toNat - 1]? = some e →
        asks .dlog [n] (base ++
          [.raw e.bytes, .num (s.records.discharged.get e.tank).toNat, .num (s.records.takenUp.get e.tank).toNat]))) ∧
  (∀ (s : State) (b : Byte), Ready .ship s →
    let no (m : Mnem) (args : List Byte) (code : ReplyCode) : Prop :=
      exec (m.command .ship args) s = .next (refused .ship m code args s)
    let noData (m : Mnem) (args : List Byte) : Prop := exec (m.command .ship args) s = .next (refusedData .ship m args s)
    (s.store.dataState ≠ .valid → noData .tank [b] ∧ noData .cond [] ∧ noData .proj [] ∧ noData .valv [b]) ∧
    (s.store.dataState = .valid →
      (s.store.tables.isBallast b.toNat = false → no .tank [b] .range) ∧
      (namedValve s b.toNat = none → no .valv [b] .range)) ∧
    (5 < b.toNat → no .metr [b] .range ∧ no .xfer [b] .range) ∧
    (63 < b.toNat → no .seqq [b] .range) ∧ (95 < b.toNat → no .pour [b] .range) ∧
    ((b.toNat = 0 ∨ s.records.log.length < b.toNat) → no .dlog [b] .range) ∧
    (∀ n, n < 65536 → (n = 0 ∨ 999 < n ∨ ∀ x ∈ s.tracker.history, x.pour ≠ n) → no .phis (toBE n 2) .range)) ∧
  OtherFormsRefused .tank (fun args => args.length = 1) ∧ OtherFormsRefused .metr (fun args => args.length = 1) ∧
  OtherFormsRefused .cond (fun args => args = []) ∧ OtherFormsRefused .proj (fun args => args = []) ∧
  OtherFormsRefused .lims (fun args => args = []) ∧ OtherFormsRefused .xfer (fun args => args.length = 1) ∧
  OtherFormsRefused .seqq (fun args => args.length ≤ 1) ∧ OtherFormsRefused .pour (fun args => args.length ≤ 1) ∧
  OtherFormsRefused .phis (fun args => args.length = 2) ∧ OtherFormsRefused .dlog (fun args => args.length ≤ 1) ∧
  ∀ m ∈ [Mnem.tank, .metr, .cond, .proj, .lims, .xfer, .seqq, .pour, .phis, .dlog], UnknownOnShore m

/-- R80, R88, R91 and R92: in every state that has them, every step keeps three things: the pour enable line is on exactly in
LOADING with the stop latch clear, the latch is set whenever the stress watch is BREACH, and the latch is set exactly while
it has a cause. -/
def Obligations.EveryStepKeepsTheLatchAndTheLine : Prop :=
  ∀ s t : State, LineFollows s → BreachLatched s → LatchHasCause s → step s = .next t →
    LineFollows t ∧ BreachLatched t ∧ LatchHasCause t

/-- R144, R170 and R172: every step keeps the grant line asserted exactly in GRANTED, and the Sequencer YIELDED with a saved
state exactly from the grant to the end of RECONCILING. -/
def Obligations.EveryStepKeepsTheConsoleAndTheSequencerTogether : Prop :=
  ∀ s t : State, ConsoleConsistent s → step s = .next t → ConsoleConsistent t

/-- R189, R11, R147 and R203: every step keeps the totals of each tank equal to the sums of its log entries, and the pour
history, the shore queue and an open window within their sizes. -/
def Obligations.EveryStepKeepsTheAccountAndTheSizes : Prop :=
  ∀ s t : State, step s = .next t → (AccountBalances s → AccountBalances t) ∧ (SizesBounded s → SizesBounded t)

/-- The state after reset has what every step keeps. -/
def Obligations.TheStateAfterResetHasTheInvariants : Prop :=
  let s := State.reset
  LineFollows s ∧ BreachLatched s ∧ LatchHasCause s ∧ ConsoleConsistent s ∧ AccountBalances s ∧ SizesBounded s
end

