-- ==== Sys2Proof/Laws/State.lean ====
section
/-! SUPPORT. What each update of the state leaves and what it writes: one lemma per update and field, so that no later proof
unfolds a record update. -/

namespace Sys2Proof.Machine

/-! ## State.setStore -/

@[simp] theorem State.setStore_gauge (s : State) (x : Store) : (s.setStore x).gauge = s.gauge := rfl
@[simp] theorem State.setStore_meter (s : State) (x : Store) : (s.setStore x).meter = s.meter := rfl
@[simp] theorem State.setStore_engine (s : State) (x : Store) : (s.setStore x).engine = s.engine := rfl
@[simp] theorem State.setStore_limits (s : State) (x : Store) : (s.setStore x).limits = s.limits := rfl
@[simp] theorem State.setStore_xfer (s : State) (x : Store) : (s.setStore x).xfer = s.xfer := rfl
@[simp] theorem State.setStore_seq (s : State) (x : Store) : (s.setStore x).seq = s.seq := rfl
@[simp] theorem State.setStore_tracker (s : State) (x : Store) : (s.setStore x).tracker = s.tracker := rfl
@[simp] theorem State.setStore_console (s : State) (x : Store) : (s.setStore x).console = s.console := rfl
@[simp] theorem State.setStore_records (s : State) (x : Store) : (s.setStore x).records = s.records := rfl
@[simp] theorem State.setStore_links (s : State) (x : Store) : (s.setStore x).links = s.links := rfl
@[simp] theorem State.setStore_time (s : State) (x : Store) : (s.setStore x).time = s.time := rfl
@[simp] theorem State.setStore_inputs (s : State) (x : Store) : (s.setStore x).inputs = s.inputs := rfl
@[simp] theorem State.setStore_pending (s : State) (x : Store) : (s.setStore x).pending = s.pending := rfl
@[simp] theorem State.setStore_store (s : State) (x : Store) : (s.setStore x).store = x := rfl

/-! ## State.setGauging -/

@[simp] theorem State.setGauging_store (s : State) (x : Gauging) : (s.setGauging x).store = s.store := rfl
@[simp] theorem State.setGauging_meter (s : State) (x : Gauging) : (s.setGauging x).meter = s.meter := rfl
@[simp] theorem State.setGauging_engine (s : State) (x : Gauging) : (s.setGauging x).engine = s.engine := rfl
@[simp] theorem State.setGauging_limits (s : State) (x : Gauging) : (s.setGauging x).limits = s.limits := rfl
@[simp] theorem State.setGauging_xfer (s : State) (x : Gauging) : (s.setGauging x).xfer = s.xfer := rfl
@[simp] theorem State.setGauging_seq (s : State) (x : Gauging) : (s.setGauging x).seq = s.seq := rfl
@[simp] theorem State.setGauging_tracker (s : State) (x : Gauging) : (s.setGauging x).tracker = s.tracker := rfl
@[simp] theorem State.setGauging_console (s : State) (x : Gauging) : (s.setGauging x).console = s.console := rfl
@[simp] theorem State.setGauging_records (s : State) (x : Gauging) : (s.setGauging x).records = s.records := rfl
@[simp] theorem State.setGauging_links (s : State) (x : Gauging) : (s.setGauging x).links = s.links := rfl
@[simp] theorem State.setGauging_time (s : State) (x : Gauging) : (s.setGauging x).time = s.time := rfl
@[simp] theorem State.setGauging_inputs (s : State) (x : Gauging) : (s.setGauging x).inputs = s.inputs := rfl
@[simp] theorem State.setGauging_pending (s : State) (x : Gauging) : (s.setGauging x).pending = s.pending := rfl
@[simp] theorem State.setGauging_gauge (s : State) (x : Gauging) : (s.setGauging x).gauge = x := rfl

/-! ## State.setEngine -/

@[simp] theorem State.setEngine_store (s : State) (x : Engine) : (s.setEngine x).store = s.store := rfl
@[simp] theorem State.setEngine_gauge (s : State) (x : Engine) : (s.setEngine x).gauge = s.gauge := rfl
@[simp] theorem State.setEngine_meter (s : State) (x : Engine) : (s.setEngine x).meter = s.meter := rfl
@[simp] theorem State.setEngine_limits (s : State) (x : Engine) : (s.setEngine x).limits = s.limits := rfl
@[simp] theorem State.setEngine_xfer (s : State) (x : Engine) : (s.setEngine x).xfer = s.xfer := rfl
@[simp] theorem State.setEngine_seq (s : State) (x : Engine) : (s.setEngine x).seq = s.seq := rfl
@[simp] theorem State.setEngine_tracker (s : State) (x : Engine) : (s.setEngine x).tracker = s.tracker := rfl
@[simp] theorem State.setEngine_console (s : State) (x : Engine) : (s.setEngine x).console = s.console := rfl
@[simp] theorem State.setEngine_records (s : State) (x : Engine) : (s.setEngine x).records = s.records := rfl
@[simp] theorem State.setEngine_links (s : State) (x : Engine) : (s.setEngine x).links = s.links := rfl
@[simp] theorem State.setEngine_time (s : State) (x : Engine) : (s.setEngine x).time = s.time := rfl
@[simp] theorem State.setEngine_inputs (s : State) (x : Engine) : (s.setEngine x).inputs = s.inputs := rfl
@[simp] theorem State.setEngine_pending (s : State) (x : Engine) : (s.setEngine x).pending = s.pending := rfl
@[simp] theorem State.setEngine_engine (s : State) (x : Engine) : (s.setEngine x).engine = x := rfl

/-! ## State.setLimits -/

@[simp] theorem State.setLimits_store (s : State) (x : Limits) : (s.setLimits x).store = s.store := rfl
@[simp] theorem State.setLimits_gauge (s : State) (x : Limits) : (s.setLimits x).gauge = s.gauge := rfl
@[simp] theorem State.setLimits_meter (s : State) (x : Limits) : (s.setLimits x).meter = s.meter := rfl
@[simp] theorem State.setLimits_engine (s : State) (x : Limits) : (s.setLimits x).engine = s.engine := rfl
@[simp] theorem State.setLimits_xfer (s : State) (x : Limits) : (s.setLimits x).xfer = s.xfer := rfl
@[simp] theorem State.setLimits_seq (s : State) (x : Limits) : (s.setLimits x).seq = s.seq := rfl
@[simp] theorem State.setLimits_tracker (s : State) (x : Limits) : (s.setLimits x).tracker = s.tracker := rfl
@[simp] theorem State.setLimits_console (s : State) (x : Limits) : (s.setLimits x).console = s.console := rfl
@[simp] theorem State.setLimits_records (s : State) (x : Limits) : (s.setLimits x).records = s.records := rfl
@[simp] theorem State.setLimits_links (s : State) (x : Limits) : (s.setLimits x).links = s.links := rfl
@[simp] theorem State.setLimits_time (s : State) (x : Limits) : (s.setLimits x).time = s.time := rfl
@[simp] theorem State.setLimits_inputs (s : State) (x : Limits) : (s.setLimits x).inputs = s.inputs := rfl
@[simp] theorem State.setLimits_pending (s : State) (x : Limits) : (s.setLimits x).pending = s.pending := rfl
@[simp] theorem State.setLimits_limits (s : State) (x : Limits) : (s.setLimits x).limits = x := rfl

/-! ## State.setTracker -/

@[simp] theorem State.setTracker_store (s : State) (x : Tracker) : (s.setTracker x).store = s.store := rfl
@[simp] theorem State.setTracker_gauge (s : State) (x : Tracker) : (s.setTracker x).gauge = s.gauge := rfl
@[simp] theorem State.setTracker_meter (s : State) (x : Tracker) : (s.setTracker x).meter = s.meter := rfl
@[simp] theorem State.setTracker_engine (s : State) (x : Tracker) : (s.setTracker x).engine = s.engine := rfl
@[simp] theorem State.setTracker_limits (s : State) (x : Tracker) : (s.setTracker x).limits = s.limits := rfl
@[simp] theorem State.setTracker_xfer (s : State) (x : Tracker) : (s.setTracker x).xfer = s.xfer := rfl
@[simp] theorem State.setTracker_seq (s : State) (x : Tracker) : (s.setTracker x).seq = s.seq := rfl
@[simp] theorem State.setTracker_console (s : State) (x : Tracker) : (s.setTracker x).console = s.console := rfl
@[simp] theorem State.setTracker_records (s : State) (x : Tracker) : (s.setTracker x).records = s.records := rfl
@[simp] theorem State.setTracker_links (s : State) (x : Tracker) : (s.setTracker x).links = s.links := rfl
@[simp] theorem State.setTracker_time (s : State) (x : Tracker) : (s.setTracker x).time = s.time := rfl
@[simp] theorem State.setTracker_inputs (s : State) (x : Tracker) : (s.setTracker x).inputs = s.inputs := rfl
@[simp] theorem State.setTracker_pending (s : State) (x : Tracker) : (s.setTracker x).pending = s.pending := rfl
@[simp] theorem State.setTracker_tracker (s : State) (x : Tracker) : (s.setTracker x).tracker = x := rfl

/-! ## State.setConsole -/

@[simp] theorem State.setConsole_store (s : State) (x : Console) : (s.setConsole x).store = s.store := rfl
@[simp] theorem State.setConsole_gauge (s : State) (x : Console) : (s.setConsole x).gauge = s.gauge := rfl
@[simp] theorem State.setConsole_meter (s : State) (x : Console) : (s.setConsole x).meter = s.meter := rfl
@[simp] theorem State.setConsole_engine (s : State) (x : Console) : (s.setConsole x).engine = s.engine := rfl
@[simp] theorem State.setConsole_limits (s : State) (x : Console) : (s.setConsole x).limits = s.limits := rfl
@[simp] theorem State.setConsole_xfer (s : State) (x : Console) : (s.setConsole x).xfer = s.xfer := rfl
@[simp] theorem State.setConsole_seq (s : State) (x : Console) : (s.setConsole x).seq = s.seq := rfl
@[simp] theorem State.setConsole_tracker (s : State) (x : Console) : (s.setConsole x).tracker = s.tracker := rfl
@[simp] theorem State.setConsole_records (s : State) (x : Console) : (s.setConsole x).records = s.records := rfl
@[simp] theorem State.setConsole_links (s : State) (x : Console) : (s.setConsole x).links = s.links := rfl
@[simp] theorem State.setConsole_time (s : State) (x : Console) : (s.setConsole x).time = s.time := rfl
@[simp] theorem State.setConsole_inputs (s : State) (x : Console) : (s.setConsole x).inputs = s.inputs := rfl
@[simp] theorem State.setConsole_pending (s : State) (x : Console) : (s.setConsole x).pending = s.pending := rfl
@[simp] theorem State.setConsole_console (s : State) (x : Console) : (s.setConsole x).console = x := rfl

/-! ## State.setCore -/

@[simp] theorem State.setCore_store (s : State) (x : SeqCore) : (s.setCore x).store = s.store := rfl
@[simp] theorem State.setCore_gauge (s : State) (x : SeqCore) : (s.setCore x).gauge = s.gauge := rfl
@[simp] theorem State.setCore_meter (s : State) (x : SeqCore) : (s.setCore x).meter = s.meter := rfl
@[simp] theorem State.setCore_engine (s : State) (x : SeqCore) : (s.setCore x).engine = s.engine := rfl
@[simp] theorem State.setCore_limits (s : State) (x : SeqCore) : (s.setCore x).limits = s.limits := rfl
@[simp] theorem State.setCore_xfer (s : State) (x : SeqCore) : (s.setCore x).xfer = s.xfer := rfl
@[simp] theorem State.setCore_tracker (s : State) (x : SeqCore) : (s.setCore x).tracker = s.tracker := rfl
@[simp] theorem State.setCore_console (s : State) (x : SeqCore) : (s.setCore x).console = s.console := rfl
@[simp] theorem State.setCore_records (s : State) (x : SeqCore) : (s.setCore x).records = s.records := rfl
@[simp] theorem State.setCore_links (s : State) (x : SeqCore) : (s.setCore x).links = s.links := rfl
@[simp] theorem State.setCore_time (s : State) (x : SeqCore) : (s.setCore x).time = s.time := rfl
@[simp] theorem State.setCore_inputs (s : State) (x : SeqCore) : (s.setCore x).inputs = s.inputs := rfl
@[simp] theorem State.setCore_pending (s : State) (x : SeqCore) : (s.setCore x).pending = s.pending := rfl
@[simp] theorem State.setCore_seq (s : State) (x : SeqCore) : (s.setCore x).seq = { s.seq with core := x } := rfl

/-! ## Transfers, valves, pumps -/

@[simp] theorem State.setTransfer_store (s : State) (d : Driver) (x : Transfer) : (s.setTransfer d x).store = s.store := rfl
@[simp] theorem State.setTransfer_gauge (s : State) (d : Driver) (x : Transfer) : (s.setTransfer d x).gauge = s.gauge := rfl
@[simp] theorem State.setTransfer_meter (s : State) (d : Driver) (x : Transfer) : (s.setTransfer d x).meter = s.meter := rfl
@[simp] theorem State.setTransfer_engine (s : State) (d : Driver) (x : Transfer) : (s.setTransfer d x).engine = s.engine := rfl
@[simp] theorem State.setTransfer_limits (s : State) (d : Driver) (x : Transfer) : (s.setTransfer d x).limits = s.limits := rfl
@[simp] theorem State.setTransfer_seq (s : State) (d : Driver) (x : Transfer) : (s.setTransfer d x).seq = s.seq := rfl
@[simp] theorem State.setTransfer_tracker (s : State) (d : Driver) (x : Transfer) : (s.setTransfer d x).tracker = s.tracker := rfl
@[simp] theorem State.setTransfer_console (s : State) (d : Driver) (x : Transfer) : (s.setTransfer d x).console = s.console := rfl
@[simp] theorem State.setTransfer_records (s : State) (d : Driver) (x : Transfer) : (s.setTransfer d x).records = s.records := rfl
@[simp] theorem State.setTransfer_links (s : State) (d : Driver) (x : Transfer) : (s.setTransfer d x).links = s.links := rfl
@[simp] theorem State.setTransfer_time (s : State) (d : Driver) (x : Transfer) : (s.setTransfer d x).time = s.time := rfl
@[simp] theorem State.setTransfer_inputs (s : State) (d : Driver) (x : Transfer) : (s.setTransfer d x).inputs = s.inputs := rfl
@[simp] theorem State.setTransfer_pending (s : State) (d : Driver) (x : Transfer) : (s.setTransfer d x).pending = s.pending := rfl
@[simp] theorem State.setTransfer_valves (s : State) (d : Driver) (x : Transfer) : (s.setTransfer d x).xfer.valves = s.xfer.valves := rfl
@[simp] theorem State.setTransfer_paceGain (s : State) (d : Driver) (x : Transfer) : (s.setTransfer d x).xfer.paceGain = s.xfer.paceGain := rfl
@[simp] theorem State.setTransfer_pumpOut (s : State) (d : Driver) (x : Transfer) (p : Pump) :
    (s.setTransfer d x).pumpOut p = s.pumpOut p := by cases p <;> rfl
@[simp] theorem State.setTransfer_valve (s : State) (d : Driver) (x : Transfer) (ch : Nat) :
    (s.setTransfer d x).valve ch = s.valve ch := rfl
@[simp] theorem State.transfer_setTransfer (s : State) (d e : Driver) (x : Transfer) :
    (s.setTransfer d x).transfer e = if e = d then x else s.transfer e := by cases d <;> cases e <;> rfl

@[simp] theorem State.setValve_store (s : State) (ch : Nat) (v : Valve) : (s.setValve ch v).store = s.store := rfl
@[simp] theorem State.setValve_gauge (s : State) (ch : Nat) (v : Valve) : (s.setValve ch v).gauge = s.gauge := rfl
@[simp] theorem State.setValve_meter (s : State) (ch : Nat) (v : Valve) : (s.setValve ch v).meter = s.meter := rfl
@[simp] theorem State.setValve_engine (s : State) (ch : Nat) (v : Valve) : (s.setValve ch v).engine = s.engine := rfl
@[simp] theorem State.setValve_limits (s : State) (ch : Nat) (v : Valve) : (s.setValve ch v).limits = s.limits := rfl
@[simp] theorem State.setValve_seq (s : State) (ch : Nat) (v : Valve) : (s.setValve ch v).seq = s.seq := rfl
@[simp] theorem State.setValve_tracker (s : State) (ch : Nat) (v : Valve) : (s.setValve ch v).tracker = s.tracker := rfl
@[simp] theorem State.setValve_console (s : State) (ch : Nat) (v : Valve) : (s.setValve ch v).console = s.console := rfl
@[simp] theorem State.setValve_records (s : State) (ch : Nat) (v : Valve) : (s.setValve ch v).records = s.records := rfl
@[simp] theorem State.setValve_links (s : State) (ch : Nat) (v : Valve) : (s.setValve ch v).links = s.links := rfl
@[simp] theorem State.setValve_time (s : State) (ch : Nat) (v : Valve) : (s.setValve ch v).time = s.time := rfl
@[simp] theorem State.setValve_inputs (s : State) (ch : Nat) (v : Valve) : (s.setValve ch v).inputs = s.inputs := rfl
@[simp] theorem State.setValve_pending (s : State) (ch : Nat) (v : Valve) : (s.setValve ch v).pending = s.pending := rfl
@[simp] theorem State.setValve_transfers (s : State) (ch : Nat) (v : Valve) : (s.setValve ch v).xfer.transfers = s.xfer.transfers := rfl
@[simp] theorem State.setValve_transfer (s : State) (ch : Nat) (v : Valve) (d : Driver) :
    (s.setValve ch v).transfer d = s.transfer d := by cases d <;> rfl
@[simp] theorem State.setValve_pumpOut (s : State) (ch : Nat) (v : Valve) (p : Pump) :
    (s.setValve ch v).pumpOut p = s.pumpOut p := by cases p <;> rfl

@[simp] theorem State.setPumpOut_store (s : State) (p : Pump) (o : PumpOut) : (s.setPumpOut p o).store = s.store := by cases p <;> rfl
@[simp] theorem State.setPumpOut_gauge (s : State) (p : Pump) (o : PumpOut) : (s.setPumpOut p o).gauge = s.gauge := by cases p <;> rfl
@[simp] theorem State.setPumpOut_meter (s : State) (p : Pump) (o : PumpOut) : (s.setPumpOut p o).meter = s.meter := by cases p <;> rfl
@[simp] theorem State.setPumpOut_engine (s : State) (p : Pump) (o : PumpOut) : (s.setPumpOut p o).engine = s.engine := by cases p <;> rfl
@[simp] theorem State.setPumpOut_limits (s : State) (p : Pump) (o : PumpOut) : (s.setPumpOut p o).limits = s.limits := by cases p <;> rfl
@[simp] theorem State.setPumpOut_seq (s : State) (p : Pump) (o : PumpOut) : (s.setPumpOut p o).seq = s.seq := by cases p <;> rfl
@[simp] theorem State.setPumpOut_tracker (s : State) (p : Pump) (o : PumpOut) : (s.setPumpOut p o).tracker = s.tracker := by cases p <;> rfl
@[simp] theorem State.setPumpOut_console (s : State) (p : Pump) (o : PumpOut) : (s.setPumpOut p o).console = s.console := by cases p <;> rfl
@[simp] theorem State.setPumpOut_records (s : State) (p : Pump) (o : PumpOut) : (s.setPumpOut p o).records = s.records := by cases p <;> rfl
@[simp] theorem State.setPumpOut_links (s : State) (p : Pump) (o : PumpOut) : (s.setPumpOut p o).links = s.links := by cases p <;> rfl
@[simp] theorem State.setPumpOut_time (s : State) (p : Pump) (o : PumpOut) : (s.setPumpOut p o).time = s.time := by cases p <;> rfl
@[simp] theorem State.setPumpOut_inputs (s : State) (p : Pump) (o : PumpOut) : (s.setPumpOut p o).inputs = s.inputs := by cases p <;> rfl
@[simp] theorem State.setPumpOut_pending (s : State) (p : Pump) (o : PumpOut) : (s.setPumpOut p o).pending = s.pending := by cases p <;> rfl
@[simp] theorem State.setPumpOut_transfers (s : State) (p : Pump) (o : PumpOut) :
    (s.setPumpOut p o).xfer.transfers = s.xfer.transfers := by cases p <;> rfl
@[simp] theorem State.setPumpOut_valves (s : State) (p : Pump) (o : PumpOut) :
    (s.setPumpOut p o).xfer.valves = s.xfer.valves := by cases p <;> rfl
@[simp] theorem State.setPumpOut_transfer (s : State) (p : Pump) (o : PumpOut) (d : Driver) :
    (s.setPumpOut p o).transfer d = s.transfer d := by cases p <;> cases d <;> rfl
@[simp] theorem State.setPumpOut_valve (s : State) (p : Pump) (o : PumpOut) (ch : Nat) :
    (s.setPumpOut p o).valve ch = s.valve ch := by cases p <;> rfl
@[simp] theorem State.pumpOut_setPumpOut (s : State) (p q : Pump) (o : PumpOut) :
    (s.setPumpOut p o).pumpOut q = if q = p then o else s.pumpOut q := by cases p <;> cases q <;> rfl

@[simp] theorem State.setPumpMeter_store (s : State) (p : Pump) (m : PumpMeter) : (s.setPumpMeter p m).store = s.store := by cases p <;> rfl
@[simp] theorem State.setPumpMeter_gauge (s : State) (p : Pump) (m : PumpMeter) : (s.setPumpMeter p m).gauge = s.gauge := by cases p <;> rfl
@[simp] theorem State.setPumpMeter_engine (s : State) (p : Pump) (m : PumpMeter) : (s.setPumpMeter p m).engine = s.engine := by cases p <;> rfl
@[simp] theorem State.setPumpMeter_limits (s : State) (p : Pump) (m : PumpMeter) : (s.setPumpMeter p m).limits = s.limits := by cases p <;> rfl
@[simp] theorem State.setPumpMeter_xfer (s : State) (p : Pump) (m : PumpMeter) : (s.setPumpMeter p m).xfer = s.xfer := by cases p <;> rfl
@[simp] theorem State.setPumpMeter_seq (s : State) (p : Pump) (m : PumpMeter) : (s.setPumpMeter p m).seq = s.seq := by cases p <;> rfl
@[simp] theorem State.setPumpMeter_tracker (s : State) (p : Pump) (m : PumpMeter) : (s.setPumpMeter p m).tracker = s.tracker := by cases p <;> rfl
@[simp] theorem State.setPumpMeter_console (s : State) (p : Pump) (m : PumpMeter) : (s.setPumpMeter p m).console = s.console := by cases p <;> rfl
@[simp] theorem State.setPumpMeter_records (s : State) (p : Pump) (m : PumpMeter) : (s.setPumpMeter p m).records = s.records := by cases p <;> rfl
@[simp] theorem State.setPumpMeter_links (s : State) (p : Pump) (m : PumpMeter) : (s.setPumpMeter p m).links = s.links := by cases p <;> rfl
@[simp] theorem State.setPumpMeter_time (s : State) (p : Pump) (m : PumpMeter) : (s.setPumpMeter p m).time = s.time := by cases p <;> rfl
@[simp] theorem State.setPumpMeter_inputs (s : State) (p : Pump) (m : PumpMeter) : (s.setPumpMeter p m).inputs = s.inputs := by cases p <;> rfl
@[simp] theorem State.setPumpMeter_pending (s : State) (p : Pump) (m : PumpMeter) : (s.setPumpMeter p m).pending = s.pending := by cases p <;> rfl
@[simp] theorem State.setPumpMeter_g0 (s : State) (p : Pump) (m : PumpMeter) : (s.setPumpMeter p m).meter.g0 = s.meter.g0 := by
  cases p <;> rfl
@[simp] theorem State.setPumpMeter_g1 (s : State) (p : Pump) (m : PumpMeter) : (s.setPumpMeter p m).meter.g1 = s.meter.g1 := by
  cases p <;> rfl
@[simp] theorem State.setPumpMeter_transfer (s : State) (p : Pump) (m : PumpMeter) (d : Driver) :
    (s.setPumpMeter p m).transfer d = s.transfer d := by cases p <;> cases d <;> rfl
@[simp] theorem State.setPumpMeter_valve (s : State) (p : Pump) (m : PumpMeter) (ch : Nat) :
    (s.setPumpMeter p m).valve ch = s.valve ch := by cases p <;> rfl
@[simp] theorem State.setPumpMeter_pumpOut (s : State) (p q : Pump) (m : PumpMeter) :
    (s.setPumpMeter p m).pumpOut q = s.pumpOut q := by cases p <;> cases q <;> rfl
@[simp] theorem State.pumpMeter_setPumpMeter (s : State) (p q : Pump) (m : PumpMeter) :
    (s.setPumpMeter p m).pumpMeter q = if q = p then m else s.pumpMeter q := by cases p <;> cases q <;> rfl
@[simp] theorem State.setTransfer_pumpMeter (s : State) (d : Driver) (x : Transfer) (p : Pump) :
    (s.setTransfer d x).pumpMeter p = s.pumpMeter p := by cases p <;> rfl
@[simp] theorem State.setValve_pumpMeter (s : State) (ch : Nat) (v : Valve) (p : Pump) :
    (s.setValve ch v).pumpMeter p = s.pumpMeter p := by cases p <;> rfl
@[simp] theorem State.setPumpOut_pumpMeter (s : State) (q : Pump) (o : PumpOut) (p : Pump) :
    (s.setPumpOut q o).pumpMeter p = s.pumpMeter p := by cases p <;> cases q <;> rfl

/-! ## Gauge records -/

@[simp] theorem State.setGaugeRec_store (s : State) (c : Nat) (g : GaugeRec) : (s.setGaugeRec c g).store = s.store := rfl
@[simp] theorem State.setGaugeRec_meter (s : State) (c : Nat) (g : GaugeRec) : (s.setGaugeRec c g).meter = s.meter := rfl
@[simp] theorem State.setGaugeRec_engine (s : State) (c : Nat) (g : GaugeRec) : (s.setGaugeRec c g).engine = s.engine := rfl
@[simp] theorem State.setGaugeRec_limits (s : State) (c : Nat) (g : GaugeRec) : (s.setGaugeRec c g).limits = s.limits := rfl
@[simp] theorem State.setGaugeRec_xfer (s : State) (c : Nat) (g : GaugeRec) : (s.setGaugeRec c g).xfer = s.xfer := rfl
@[simp] theorem State.setGaugeRec_seq (s : State) (c : Nat) (g : GaugeRec) : (s.setGaugeRec c g).seq = s.seq := rfl
@[simp] theorem State.setGaugeRec_tracker (s : State) (c : Nat) (g : GaugeRec) : (s.setGaugeRec c g).tracker = s.tracker := rfl
@[simp] theorem State.setGaugeRec_console (s : State) (c : Nat) (g : GaugeRec) : (s.setGaugeRec c g).console = s.console := rfl
@[simp] theorem State.setGaugeRec_records (s : State) (c : Nat) (g : GaugeRec) : (s.setGaugeRec c g).records = s.records := rfl
@[simp] theorem State.setGaugeRec_links (s : State) (c : Nat) (g : GaugeRec) : (s.setGaugeRec c g).links = s.links := rfl
@[simp] theorem State.setGaugeRec_time (s : State) (c : Nat) (g : GaugeRec) : (s.setGaugeRec c g).time = s.time := rfl
@[simp] theorem State.setGaugeRec_inputs (s : State) (c : Nat) (g : GaugeRec) : (s.setGaugeRec c g).inputs = s.inputs := rfl
@[simp] theorem State.setGaugeRec_pending (s : State) (c : Nat) (g : GaugeRec) : (s.setGaugeRec c g).pending = s.pending := rfl

@[simp] theorem State.setGravityRec_store (s : State) (d : Driver) (g : GravityLine) : (s.setGravityRec d g).store = s.store := by cases d <;> rfl
@[simp] theorem State.setGravityRec_gauge (s : State) (d : Driver) (g : GravityLine) : (s.setGravityRec d g).gauge = s.gauge := by cases d <;> rfl
@[simp] theorem State.setGravityRec_engine (s : State) (d : Driver) (g : GravityLine) : (s.setGravityRec d g).engine = s.engine := by cases d <;> rfl
@[simp] theorem State.setGravityRec_limits (s : State) (d : Driver) (g : GravityLine) : (s.setGravityRec d g).limits = s.limits := by cases d <;> rfl
@[simp] theorem State.setGravityRec_xfer (s : State) (d : Driver) (g : GravityLine) : (s.setGravityRec d g).xfer = s.xfer := by cases d <;> rfl
@[simp] theorem State.setGravityRec_seq (s : State) (d : Driver) (g : GravityLine) : (s.setGravityRec d g).seq = s.seq := by cases d <;> rfl
@[simp] theorem State.setGravityRec_tracker (s : State) (d : Driver) (g : GravityLine) : (s.setGravityRec d g).tracker = s.tracker := by cases d <;> rfl
@[simp] theorem State.setGravityRec_console (s : State) (d : Driver) (g : GravityLine) : (s.setGravityRec d g).console = s.console := by cases d <;> rfl
@[simp] theorem State.setGravityRec_records (s : State) (d : Driver) (g : GravityLine) : (s.setGravityRec d g).records = s.records := by cases d <;> rfl
@[simp] theorem State.setGravityRec_links (s : State) (d : Driver) (g : GravityLine) : (s.setGravityRec d g).links = s.links := by cases d <;> rfl
@[simp] theorem State.setGravityRec_time (s : State) (d : Driver) (g : GravityLine) : (s.setGravityRec d g).time = s.time := by cases d <;> rfl
@[simp] theorem State.setGravityRec_inputs (s : State) (d : Driver) (g : GravityLine) : (s.setGravityRec d g).inputs = s.inputs := by cases d <;> rfl
@[simp] theorem State.setGravityRec_pending (s : State) (d : Driver) (g : GravityLine) : (s.setGravityRec d g).pending = s.pending := by cases d <;> rfl
@[simp] theorem State.setGravityRec_pumpMeter (s : State) (d : Driver) (g : GravityLine) (p : Pump) :
    (s.setGravityRec d g).pumpMeter p = s.pumpMeter p := by cases d <;> cases p <;> rfl

/-! ## Links -/

@[simp] theorem State.setLink_store (s : State) (l : Link) (x : LinkState) : (s.setLink l x).store = s.store := by cases l <;> rfl
@[simp] theorem State.setLink_gauge (s : State) (l : Link) (x : LinkState) : (s.setLink l x).gauge = s.gauge := by cases l <;> rfl
@[simp] theorem State.setLink_meter (s : State) (l : Link) (x : LinkState) : (s.setLink l x).meter = s.meter := by cases l <;> rfl
@[simp] theorem State.setLink_engine (s : State) (l : Link) (x : LinkState) : (s.setLink l x).engine = s.engine := by cases l <;> rfl
@[simp] theorem State.setLink_limits (s : State) (l : Link) (x : LinkState) : (s.setLink l x).limits = s.limits := by cases l <;> rfl
@[simp] theorem State.setLink_xfer (s : State) (l : Link) (x : LinkState) : (s.setLink l x).xfer = s.xfer := by cases l <;> rfl
@[simp] theorem State.setLink_seq (s : State) (l : Link) (x : LinkState) : (s.setLink l x).seq = s.seq := by cases l <;> rfl
@[simp] theorem State.setLink_tracker (s : State) (l : Link) (x : LinkState) : (s.setLink l x).tracker = s.tracker := by cases l <;> rfl
@[simp] theorem State.setLink_console (s : State) (l : Link) (x : LinkState) : (s.setLink l x).console = s.console := by cases l <;> rfl
@[simp] theorem State.setLink_records (s : State) (l : Link) (x : LinkState) : (s.setLink l x).records = s.records := by cases l <;> rfl
@[simp] theorem State.setLink_time (s : State) (l : Link) (x : LinkState) : (s.setLink l x).time = s.time := by cases l <;> rfl
@[simp] theorem State.setLink_inputs (s : State) (l : Link) (x : LinkState) : (s.setLink l x).inputs = s.inputs := by cases l <;> rfl
@[simp] theorem State.setLink_pending (s : State) (l : Link) (x : LinkState) : (s.setLink l x).pending = s.pending := by cases l <;> rfl
@[simp] theorem State.setLink_notices (s : State) (l : Link) (x : LinkState) : (s.setLink l x).links.notices = s.links.notices := by
  cases l <;> rfl
@[simp] theorem State.setLink_enables (s : State) (l : Link) (x : LinkState) : (s.setLink l x).links.enables = s.links.enables := by
  cases l <;> rfl
@[simp] theorem State.setLink_queue (s : State) (l : Link) (x : LinkState) : (s.setLink l x).links.queue = s.links.queue := by
  cases l <;> rfl
@[simp] theorem State.setLink_rate (s : State) (l : Link) (x : LinkState) : (s.setLink l x).links.rate = s.links.rate := by
  cases l <;> rfl
@[simp] theorem State.link_setLink (s : State) (l k : Link) (x : LinkState) :
    (s.setLink l x).link k = if k = l then x else s.link k := by cases l <;> cases k <;> rfl

@[simp] theorem State.setReceiver_store (s : State) (l : Link) (r : Receiver) : (s.setReceiver l r).store = s.store := by cases l <;> rfl
@[simp] theorem State.setReceiver_gauge (s : State) (l : Link) (r : Receiver) : (s.setReceiver l r).gauge = s.gauge := by cases l <;> rfl
@[simp] theorem State.setReceiver_meter (s : State) (l : Link) (r : Receiver) : (s.setReceiver l r).meter = s.meter := by cases l <;> rfl
@[simp] theorem State.setReceiver_engine (s : State) (l : Link) (r : Receiver) : (s.setReceiver l r).engine = s.engine := by cases l <;> rfl
@[simp] theorem State.setReceiver_limits (s : State) (l : Link) (r : Receiver) : (s.setReceiver l r).limits = s.limits := by cases l <;> rfl
@[simp] theorem State.setReceiver_xfer (s : State) (l : Link) (r : Receiver) : (s.setReceiver l r).xfer = s.xfer := by cases l <;> rfl
@[simp] theorem State.setReceiver_seq (s : State) (l : Link) (r : Receiver) : (s.setReceiver l r).seq = s.seq := by cases l <;> rfl
@[simp] theorem State.setReceiver_tracker (s : State) (l : Link) (r : Receiver) : (s.setReceiver l r).tracker = s.tracker := by cases l <;> rfl
@[simp] theorem State.setReceiver_console (s : State) (l : Link) (r : Receiver) : (s.setReceiver l r).console = s.console := by cases l <;> rfl
@[simp] theorem State.setReceiver_records (s : State) (l : Link) (r : Receiver) : (s.setReceiver l r).records = s.records := by cases l <;> rfl
@[simp] theorem State.setReceiver_time (s : State) (l : Link) (r : Receiver) : (s.setReceiver l r).time = s.time := by cases l <;> rfl
@[simp] theorem State.setReceiver_inputs (s : State) (l : Link) (r : Receiver) : (s.setReceiver l r).inputs = s.inputs := by cases l <;> rfl
@[simp] theorem State.setReceiver_pending (s : State) (l : Link) (r : Receiver) : (s.setReceiver l r).pending = s.pending := by cases l <;> rfl
@[simp] theorem State.setReceiver_notices (s : State) (l : Link) (r : Receiver) :
    (s.setReceiver l r).links.notices = s.links.notices := by cases l <;> rfl
@[simp] theorem State.setReceiver_enables (s : State) (l : Link) (r : Receiver) :
    (s.setReceiver l r).links.enables = s.links.enables := by cases l <;> rfl
@[simp] theorem State.setReceiver_queue (s : State) (l : Link) (r : Receiver) :
    (s.setReceiver l r).links.queue = s.links.queue := by cases l <;> rfl
@[simp] theorem State.setReceiver_rate (s : State) (l : Link) (r : Receiver) :
    (s.setReceiver l r).links.rate = s.links.rate := by cases l <;> rfl
@[simp] theorem State.link_setReceiver (s : State) (l k : Link) (r : Receiver) :
    (s.setReceiver l r).link k = if k = l then { s.link k with rx := r } else s.link k := by cases l <;> cases k <;> rfl
@[simp] theorem State.setLink_setLink (s : State) (l : Link) (x y : LinkState) :
    (s.setLink l x).setLink l y = s.setLink l y := by cases l <;> rfl
@[simp] theorem State.setLink_self (s : State) (l : Link) : s.setLink l (s.link l) = s := by cases l <;> rfl
@[simp] theorem State.setReceiver_setReceiver (s : State) (l : Link) (r q : Receiver) :
    (s.setReceiver l r).setReceiver l q = s.setReceiver l q := by cases l <;> rfl

@[simp] theorem State.setLimitInputs_store (s : State) (ch : Nat) (a b : Bool) : (s.setLimitInputs ch a b).store = s.store := rfl
@[simp] theorem State.setLimitInputs_gauge (s : State) (ch : Nat) (a b : Bool) : (s.setLimitInputs ch a b).gauge = s.gauge := rfl
@[simp] theorem State.setLimitInputs_meter (s : State) (ch : Nat) (a b : Bool) : (s.setLimitInputs ch a b).meter = s.meter := rfl
@[simp] theorem State.setLimitInputs_engine (s : State) (ch : Nat) (a b : Bool) : (s.setLimitInputs ch a b).engine = s.engine := rfl
@[simp] theorem State.setLimitInputs_limits (s : State) (ch : Nat) (a b : Bool) : (s.setLimitInputs ch a b).limits = s.limits := rfl
@[simp] theorem State.setLimitInputs_xfer (s : State) (ch : Nat) (a b : Bool) : (s.setLimitInputs ch a b).xfer = s.xfer := rfl
@[simp] theorem State.setLimitInputs_seq (s : State) (ch : Nat) (a b : Bool) : (s.setLimitInputs ch a b).seq = s.seq := rfl
@[simp] theorem State.setLimitInputs_tracker (s : State) (ch : Nat) (a b : Bool) : (s.setLimitInputs ch a b).tracker = s.tracker := rfl
@[simp] theorem State.setLimitInputs_console (s : State) (ch : Nat) (a b : Bool) : (s.setLimitInputs ch a b).console = s.console := rfl
@[simp] theorem State.setLimitInputs_records (s : State) (ch : Nat) (a b : Bool) : (s.setLimitInputs ch a b).records = s.records := rfl
@[simp] theorem State.setLimitInputs_links (s : State) (ch : Nat) (a b : Bool) : (s.setLimitInputs ch a b).links = s.links := rfl
@[simp] theorem State.setLimitInputs_time (s : State) (ch : Nat) (a b : Bool) : (s.setLimitInputs ch a b).time = s.time := rfl
@[simp] theorem State.setLimitInputs_pending (s : State) (ch : Nat) (a b : Bool) : (s.setLimitInputs ch a b).pending = s.pending := rfl

/-! ## Notices -/

@[simp] theorem raise_store (d : Detail) (s : State) : (raise d s).store = s.store := by unfold raise; split <;> rfl
@[simp] theorem raise_gauge (d : Detail) (s : State) : (raise d s).gauge = s.gauge := by unfold raise; split <;> rfl
@[simp] theorem raise_meter (d : Detail) (s : State) : (raise d s).meter = s.meter := by unfold raise; split <;> rfl
@[simp] theorem raise_engine (d : Detail) (s : State) : (raise d s).engine = s.engine := by unfold raise; split <;> rfl
@[simp] theorem raise_limits (d : Detail) (s : State) : (raise d s).limits = s.limits := by unfold raise; split <;> rfl
@[simp] theorem raise_xfer (d : Detail) (s : State) : (raise d s).xfer = s.xfer := by unfold raise; split <;> rfl
@[simp] theorem raise_seq (d : Detail) (s : State) : (raise d s).seq = s.seq := by unfold raise; split <;> rfl
@[simp] theorem raise_tracker (d : Detail) (s : State) : (raise d s).tracker = s.tracker := by unfold raise; split <;> rfl
@[simp] theorem raise_console (d : Detail) (s : State) : (raise d s).console = s.console := by unfold raise; split <;> rfl
@[simp] theorem raise_records (d : Detail) (s : State) : (raise d s).records = s.records := by unfold raise; split <;> rfl
@[simp] theorem raise_time (d : Detail) (s : State) : (raise d s).time = s.time := by unfold raise; split <;> rfl
@[simp] theorem raise_inputs (d : Detail) (s : State) : (raise d s).inputs = s.inputs := by unfold raise; split <;> rfl
@[simp] theorem raise_pending (d : Detail) (s : State) : (raise d s).pending = s.pending := by unfold raise; split <;> rfl
@[simp] theorem raise_links_ship (d : Detail) (s : State) : (raise d s).links.ship = s.links.ship := by unfold raise; split <;> rfl
@[simp] theorem raise_links_shore (d : Detail) (s : State) : (raise d s).links.shore = s.links.shore := by unfold raise; split <;> rfl
@[simp] theorem raise_links_enables (d : Detail) (s : State) : (raise d s).links.enables = s.links.enables := by unfold raise; split <;> rfl
@[simp] theorem raise_links_queue (d : Detail) (s : State) : (raise d s).links.queue = s.links.queue := by unfold raise; split <;> rfl
@[simp] theorem raise_links_rate (d : Detail) (s : State) : (raise d s).links.rate = s.links.rate := by unfold raise; split <;> rfl
@[simp] theorem clearNotice_store (s : State) (k : NoticeKind) : (clearNotice s k).store = s.store := rfl
@[simp] theorem clearNotice_gauge (s : State) (k : NoticeKind) : (clearNotice s k).gauge = s.gauge := rfl
@[simp] theorem clearNotice_meter (s : State) (k : NoticeKind) : (clearNotice s k).meter = s.meter := rfl
@[simp] theorem clearNotice_engine (s : State) (k : NoticeKind) : (clearNotice s k).engine = s.engine := rfl
@[simp] theorem clearNotice_limits (s : State) (k : NoticeKind) : (clearNotice s k).limits = s.limits := rfl
@[simp] theorem clearNotice_xfer (s : State) (k : NoticeKind) : (clearNotice s k).xfer = s.xfer := rfl
@[simp] theorem clearNotice_seq (s : State) (k : NoticeKind) : (clearNotice s k).seq = s.seq := rfl
@[simp] theorem clearNotice_tracker (s : State) (k : NoticeKind) : (clearNotice s k).tracker = s.tracker := rfl
@[simp] theorem clearNotice_console (s : State) (k : NoticeKind) : (clearNotice s k).console = s.console := rfl
@[simp] theorem clearNotice_records (s : State) (k : NoticeKind) : (clearNotice s k).records = s.records := rfl
@[simp] theorem clearNotice_time (s : State) (k : NoticeKind) : (clearNotice s k).time = s.time := rfl
@[simp] theorem clearNotice_inputs (s : State) (k : NoticeKind) : (clearNotice s k).inputs = s.inputs := rfl
@[simp] theorem clearNotice_pending (s : State) (k : NoticeKind) : (clearNotice s k).pending = s.pending := rfl
@[simp] theorem clearNotice_links_ship (s : State) (k : NoticeKind) : (clearNotice s k).links.ship = s.links.ship := rfl
@[simp] theorem clearNotice_links_shore (s : State) (k : NoticeKind) : (clearNotice s k).links.shore = s.links.shore := rfl
@[simp] theorem clearNotice_links_enables (s : State) (k : NoticeKind) : (clearNotice s k).links.enables = s.links.enables := rfl
@[simp] theorem clearNotice_links_queue (s : State) (k : NoticeKind) : (clearNotice s k).links.queue = s.links.queue := rfl
@[simp] theorem clearNotice_links_rate (s : State) (k : NoticeKind) : (clearNotice s k).links.rate = s.links.rate := rfl
@[simp] theorem taken_store (l : Link) (m : Mnem) (args : List Byte) (s : State) : (taken l m args s).store = s.store := by cases l <;> rfl
@[simp] theorem taken_gauge (l : Link) (m : Mnem) (args : List Byte) (s : State) : (taken l m args s).gauge = s.gauge := by cases l <;> rfl
@[simp] theorem taken_meter (l : Link) (m : Mnem) (args : List Byte) (s : State) : (taken l m args s).meter = s.meter := by cases l <;> rfl
@[simp] theorem taken_engine (l : Link) (m : Mnem) (args : List Byte) (s : State) : (taken l m args s).engine = s.engine := by cases l <;> rfl
@[simp] theorem taken_limits (l : Link) (m : Mnem) (args : List Byte) (s : State) : (taken l m args s).limits = s.limits := by cases l <;> rfl
@[simp] theorem taken_xfer (l : Link) (m : Mnem) (args : List Byte) (s : State) : (taken l m args s).xfer = s.xfer := by cases l <;> rfl
@[simp] theorem taken_seq (l : Link) (m : Mnem) (args : List Byte) (s : State) : (taken l m args s).seq = s.seq := by cases l <;> rfl
@[simp] theorem taken_tracker (l : Link) (m : Mnem) (args : List Byte) (s : State) : (taken l m args s).tracker = s.tracker := by cases l <;> rfl
@[simp] theorem taken_console (l : Link) (m : Mnem) (args : List Byte) (s : State) : (taken l m args s).console = s.console := by cases l <;> rfl
@[simp] theorem taken_records (l : Link) (m : Mnem) (args : List Byte) (s : State) : (taken l m args s).records = s.records := by cases l <;> rfl
@[simp] theorem taken_time (l : Link) (m : Mnem) (args : List Byte) (s : State) : (taken l m args s).time = s.time := by cases l <;> rfl
@[simp] theorem taken_inputs (l : Link) (m : Mnem) (args : List Byte) (s : State) : (taken l m args s).inputs = s.inputs := by cases l <;> rfl
@[simp] theorem taken_pending (l : Link) (m : Mnem) (args : List Byte) (s : State) : (taken l m args s).pending = s.pending := by cases l <;> rfl
@[simp] theorem replied_store (l : Link) (m : Mnem) (code : ReplyCode) (data : List Item) (s : State) : (replied l m code data s).store = s.store := by cases l <;> rfl
@[simp] theorem replied_gauge (l : Link) (m : Mnem) (code : ReplyCode) (data : List Item) (s : State) : (replied l m code data s).gauge = s.gauge := by cases l <;> rfl
@[simp] theorem replied_meter (l : Link) (m : Mnem) (code : ReplyCode) (data : List Item) (s : State) : (replied l m code data s).meter = s.meter := by cases l <;> rfl
@[simp] theorem replied_engine (l : Link) (m : Mnem) (code : ReplyCode) (data : List Item) (s : State) : (replied l m code data s).engine = s.engine := by cases l <;> rfl
@[simp] theorem replied_limits (l : Link) (m : Mnem) (code : ReplyCode) (data : List Item) (s : State) : (replied l m code data s).limits = s.limits := by cases l <;> rfl
@[simp] theorem replied_xfer (l : Link) (m : Mnem) (code : ReplyCode) (data : List Item) (s : State) : (replied l m code data s).xfer = s.xfer := by cases l <;> rfl
@[simp] theorem replied_seq (l : Link) (m : Mnem) (code : ReplyCode) (data : List Item) (s : State) : (replied l m code data s).seq = s.seq := by cases l <;> rfl
@[simp] theorem replied_tracker (l : Link) (m : Mnem) (code : ReplyCode) (data : List Item) (s : State) : (replied l m code data s).tracker = s.tracker := by cases l <;> rfl
@[simp] theorem replied_console (l : Link) (m : Mnem) (code : ReplyCode) (data : List Item) (s : State) : (replied l m code data s).console = s.console := by cases l <;> rfl
@[simp] theorem replied_records (l : Link) (m : Mnem) (code : ReplyCode) (data : List Item) (s : State) : (replied l m code data s).records = s.records := by cases l <;> rfl
@[simp] theorem replied_time (l : Link) (m : Mnem) (code : ReplyCode) (data : List Item) (s : State) : (replied l m code data s).time = s.time := by cases l <;> rfl
@[simp] theorem replied_inputs (l : Link) (m : Mnem) (code : ReplyCode) (data : List Item) (s : State) : (replied l m code data s).inputs = s.inputs := by cases l <;> rfl
@[simp] theorem replied_pending (l : Link) (m : Mnem) (code : ReplyCode) (data : List Item) (s : State) : (replied l m code data s).pending = s.pending := by cases l <;> rfl

@[simp] theorem taken_notices (l : Link) (m : Mnem) (args : List Byte) (s : State) :
    (taken l m args s).links.notices = s.links.notices := by cases l <;> rfl
@[simp] theorem taken_enables (l : Link) (m : Mnem) (args : List Byte) (s : State) :
    (taken l m args s).links.enables = s.links.enables := by cases l <;> rfl
@[simp] theorem taken_queue (l : Link) (m : Mnem) (args : List Byte) (s : State) :
    (taken l m args s).links.queue = s.links.queue := by cases l <;> rfl
@[simp] theorem taken_rate (l : Link) (m : Mnem) (args : List Byte) (s : State) :
    (taken l m args s).links.rate = s.links.rate := by cases l <;> rfl
@[simp] theorem replied_notices (l : Link) (m : Mnem) (code : ReplyCode) (data : List Item) (s : State) :
    (replied l m code data s).links.notices = s.links.notices := by cases l <;> rfl
@[simp] theorem replied_enables (l : Link) (m : Mnem) (code : ReplyCode) (data : List Item) (s : State) :
    (replied l m code data s).links.enables = s.links.enables := by cases l <;> rfl
@[simp] theorem replied_queue (l : Link) (m : Mnem) (code : ReplyCode) (data : List Item) (s : State) :
    (replied l m code data s).links.queue = s.links.queue := by cases l <;> rfl
@[simp] theorem replied_rate (l : Link) (m : Mnem) (code : ReplyCode) (data : List Item) (s : State) :
    (replied l m code data s).links.rate = s.links.rate := by cases l <;> rfl

/-! ## Views of the state that read one field -/

/-- What a view reads of the state is what it reads of the fields it names. -/
theorem State.transfer_congr {s t : State} (h : s.xfer.transfers = t.xfer.transfers) (d : Driver) :
    s.transfer d = t.transfer d := by cases d <;> simp [State.transfer, h]

theorem State.pumpMeter_congr {s t : State} (h : s.meter = t.meter) (p : Pump) : s.pumpMeter p = t.pumpMeter p := by
  cases p <;> simp [State.pumpMeter, h]

theorem State.pumpOut_congr {s t : State} (h : s.xfer = t.xfer) (p : Pump) : s.pumpOut p = t.pumpOut p := by
  cases p <;> simp [State.pumpOut, h]

end Sys2Proof.Machine
end

