-- ==== Sys2Proof/Laws/Checks.lean ====
section
/-! SUPPORT. What the validation checks give (R18): each check of the model fails the rows that the table of checks names, and the
first fault of the tables is the lowest check and the lowest row that fails. -/

namespace Sys2Proof.Machine

/-! ## One check -/

/-- A check of the model examines rows in ascending order and fails those that the table of checks names. -/
structure Check.Faithful (T : Tables) (c : Check) : Prop where
  table : c.table = checkTable c.number
  rising : (c.rows T).Pairwise (· < ·)
  fails : ∀ i, (i ∈ c.rows T ∧ c.fails T i = true) ↔ CheckFails T c.number (some i)

/-- A check that finds no fault fails no row. -/
theorem Check.Faithful.fault_none {T : Tables} {c : Check} (h : c.Faithful T) :
    c.fault T = none ↔ ∀ i, ¬ CheckFails T c.number (some i) := by
  simp only [Check.fault, Option.map_eq_none_iff, List.find?_eq_none, ← h.fails]
  exact ⟨fun hn i hi => hn i hi.1 hi.2, fun hn i hi hf => hn i ⟨hi, hf⟩⟩

/-- The first row that satisfies `p` in a rising list. -/
theorem find?_rising {p : Nat → Bool} : ∀ {l : List Nat} {i : Nat}, l.Pairwise (· < ·) → l.find? p = some i →
    (i ∈ l ∧ p i = true) ∧ ∀ j < i, ¬ (j ∈ l ∧ p j = true)
  | [], _, _, h => by simp at h
  | a :: l, i, hl, h => by
    rw [List.pairwise_cons] at hl
    rw [List.find?_cons] at h
    split at h
    · next ha =>
      obtain rfl := Option.some.inj h
      refine ⟨⟨List.mem_cons_self, ha⟩, fun j hj hm => ?_⟩
      rcases List.mem_cons.1 hm.1 with rfl | hm'
      · omega
      · have := hl.1 j hm'; omega
    · next ha =>
      obtain ⟨h1, h2⟩ := find?_rising hl.2 h
      refine ⟨⟨List.mem_cons_of_mem _ h1.1, h1.2⟩, fun j hj hm => ?_⟩
      rcases List.mem_cons.1 hm.1 with rfl | hm'
      · rw [hm.2] at ha; exact absurd ha (by decide)
      · exact h2 j hj ⟨hm', hm.2⟩

/-- A check that finds a fault gives the lowest row that fails it. -/
theorem Check.Faithful.fault_some {T : Tables} {c : Check} (h : c.Faithful T) {f : FaultRecord} (hf : c.fault T = some f) :
    f.cause = .validation ∧ f.table = some (checkTable c.number) ∧ f.check = c.number ∧
      ∃ i, f.row = some i ∧ CheckFails T c.number (some i) ∧ ∀ j < i, ¬ CheckFails T c.number (some j) := by
  simp only [Check.fault, Option.map_eq_some_iff] at hf
  obtain ⟨i, hi, rfl⟩ := hf
  obtain ⟨h1, h2⟩ := find?_rising h.rising hi
  exact ⟨rfl, by rw [h.table], rfl, i, rfl, (h.fails i).1 h1, fun j hj hc => h2 j hj ((h.fails j).2 hc)⟩

/-! ## Several checks -/

theorem firstOf_none {T : Tables} : ∀ {cs : List Check}, firstOf T cs = none ↔ ∀ c ∈ cs, c.fault T = none
  | [] => by simp [firstOf]
  | c :: cs => by
    rw [firstOf]
    cases h : c.fault T with
    | none => simp [h, firstOf_none]
    | some f => simp [h]

theorem firstOf_some {T : Tables} {f : FaultRecord} : ∀ {cs : List Check}, (cs.map Check.number).Pairwise (· < ·) →
    firstOf T cs = some f →
    ∃ c ∈ cs, c.fault T = some f ∧ ∀ d ∈ cs, d.number < c.number → d.fault T = none
  | [], _, h => by simp [firstOf] at h
  | c :: cs, hp, h => by
    rw [List.map_cons, List.pairwise_cons] at hp
    rw [firstOf] at h
    cases hc : c.fault T with
    | some g =>
      rw [hc] at h
      obtain rfl := Option.some.inj h
      refine ⟨c, List.mem_cons_self, hc, fun d hd hlt => ?_⟩
      rcases List.mem_cons.1 hd with rfl | hd
      · omega
      · have := hp.1 d.number (List.mem_map_of_mem hd); omega
    | none =>
      rw [hc] at h
      obtain ⟨e, he, hf, hn⟩ := firstOf_some hp.2 h
      refine ⟨e, List.mem_cons_of_mem _ he, hf, fun d hd hlt => ?_⟩
      rcases List.mem_cons.1 hd with rfl | hd
      · exact hc
      · exact hn d hd hlt

/-! ## The rows in use -/

theorem range_rising (n : Nat) : (List.range n).Pairwise (· < ·) := List.pairwise_lt_range

/-- Rows numbered `a × m + b`, in ascending `a` and then `b`, rise where every `b` is below `m`. -/
theorem flatMap_rising {m : Nat} {g : Nat → Nat} : ∀ {l : List Nat}, l.Pairwise (· < ·) → (∀ a ∈ l, g a ≤ m) →
    (l.flatMap fun a => (List.range (g a)).map fun b => a * m + b).Pairwise (· < ·)
  | [], _, _ => by simp
  | a :: l, hl, hg => by
    rw [List.pairwise_cons] at hl
    rw [List.flatMap_cons, List.pairwise_append]
    refine ⟨?_, flatMap_rising hl.2 fun x hx => hg x (List.mem_cons_of_mem _ hx), ?_⟩
    · rw [List.pairwise_map]
      exact (range_rising _).imp fun h => by omega
    · intro x hx y hy
      simp only [List.mem_map, List.mem_flatMap, List.mem_range] at hx hy
      obtain ⟨b, hb, rfl⟩ := hx
      obtain ⟨c, hc, d, hd, rfl⟩ := hy
      have h1 := hl.1 c hc
      have h2 := hg a List.mem_cons_self
      have h3 : (a + 1) * m ≤ c * m := Nat.mul_le_mul_right m h1
      rw [Nat.add_mul] at h3
      omega

/-- Such rows are those whose quotient and remainder by `m` are of the list and below its bound. -/
theorem mem_flatMap_rows {m : Nat} (hm : 0 < m) {g : Nat → Nat} {l : List Nat} (hg : ∀ a ∈ l, g a ≤ m) (i : Nat) :
    i ∈ (l.flatMap fun a => (List.range (g a)).map fun b => a * m + b) ↔ i / m ∈ l ∧ i % m < g (i / m) := by
  simp only [List.mem_map, List.mem_flatMap, List.mem_range]
  constructor
  · rintro ⟨a, ha, b, hb, rfl⟩
    have h1 : b < m := Nat.lt_of_lt_of_le hb (hg a ha)
    have h2 : (a * m + b) / m = a := by
      rw [Nat.mul_comm, Nat.mul_add_div hm, Nat.div_eq_of_lt h1, Nat.add_zero]
    have h3 : (a * m + b) % m = b := by rw [Nat.mul_comm, Nat.mul_add_mod, Nat.mod_eq_of_lt h1]
    rw [h2, h3]; exact ⟨ha, hb⟩
  · rintro ⟨ha, hb⟩
    exact ⟨i / m, ha, i % m, hb, by rw [Nat.mul_comm]; exact Nat.div_add_mod i m⟩

/-! ## The fields -/

theorem kind_eq {T : Tables} {i : Nat} (k : Kind) : T.kind i = some k ↔ rowU T.t1 i 0 1 =
    (match k with | .unused => 0 | .ballast => 1 | .hold => 2 | .fixed => 3 | .lightship => 4) := by
  show Kind.ofCode (rowU T.t1 i 0 1) = some k ↔ _
  generalize rowU T.t1 i 0 1 = n
  rcases n with _ | _ | _ | _ | _ | n <;> cases k <;> simp [Kind.ofCode]

theorem kind_none {T : Tables} {i : Nat} : (T.kind i).isNone = true ↔ 4 < rowU T.t1 i 0 1 := by
  show (Kind.ofCode (rowU T.t1 i 0 1)).isNone = true ↔ _
  generalize rowU T.t1 i 0 1 = n
  rcases n with _ | _ | _ | _ | _ | n <;> simp [Kind.ofCode]

theorem fitted_iff {T : Tables} {d : Driver} : T.fitted d = true ↔ rowU T.t6 d.code 0 1 = 1 := by
  rw [Tables.fitted, beq_iff_eq]; rfl

theorem isBallast_iff {T : Tables} {i : Nat} : T.isBallast i = true ↔ rowU T.t1 i 0 1 = 1 := by
  rw [Tables.isBallast, beq_iff_eq, kind_eq]

theorem isHold_iff {T : Tables} {i : Nat} : T.isHold i = true ↔ rowU T.t1 i 0 1 = 2 := by
  rw [Tables.isHold, beq_iff_eq, kind_eq]

theorem outside_iff {lo hi x : Nat} : outside lo hi x = true ↔ Outside lo hi x := by
  simp [outside, Outside]

theorem outsideInt_iff {lo hi x : Int} : outsideInt lo hi x = true ↔ Outside lo hi x := by
  simp [outsideInt, Outside]

/-! ## Each check against the table of checks -/

theorem isBallast_eq (T : Tables) : T.isBallast = fun j => decide (rowU T.t1 j 0 1 = 1) := by
  funext j; rw [Bool.eq_iff_iff, isBallast_iff, decide_eq_true_iff]

theorem isHold_eq (T : Tables) : T.isHold = fun j => decide (rowU T.t1 j 0 1 = 2) := by
  funext j; rw [Bool.eq_iff_iff, isHold_iff, decide_eq_true_iff]

/-- The checks of T0 (R3). -/
theorem faithful_T0 (T : Tables) : ∀ c ∈ checksT0, c.Faithful T := by
  intro c hc
  simp only [checksT0, List.map_cons, List.map_nil, List.mem_cons, List.not_mem_nil, or_false] at hc
  rcases hc with rfl | rfl | rfl | rfl | rfl | rfl | rfl | rfl | rfl | rfl | rfl | rfl | rfl <;>
  · refine ⟨rfl, by simp, fun i => ?_⟩
    simp only [CheckFails, GeneralFails, CompartmentFails, CheckpointFails, HydrostaticFails, BuoyancyFails, SoundingFails,
      DriverFails, outside_iff, Tables.general, rowU, List.mem_singleton, and_false, or_false, Nat.cast_ofNat]
    try exact Iff.rfl

/-- The checks of T1 over its own rows (R4, R5). -/
theorem faithful_T1 (T : Tables) : ∀ c ∈ checksT1, c.Faithful T := by
  intro c hc
  simp only [checksT1, checkT1, List.mem_cons, List.not_mem_nil, or_false] at hc
  rcases hc with rfl | rfl | rfl | rfl | rfl | rfl | rfl | rfl | rfl | rfl | rfl | rfl | rfl | rfl | rfl | rfl | rfl | rfl <;>
  · refine ⟨rfl, range_rising 48, fun i => ?_⟩
    simp only [CheckFails, GeneralFails, CompartmentFails, CheckpointFails, HydrostaticFails, BuoyancyFails, SoundingFails,
      DriverFails, outside_iff, outsideInt_iff, kind_none, kind_eq, beq_iff_eq, bne_iff_ne, Bool.and_eq_true, Bool.or_eq_true,
      decide_eq_true_iff, compartments, List.mem_range, and_false, or_false, false_or, ne_eq, isBallast_eq, isHold_eq,
      earlierSame, List.any_eq_true]
    first
      | done
      | exact Iff.rfl
      | (rw [show T.gravityLine i = rowU T.t1 i 25 1 from rfl, Outside]; omega)

/-- The checks of T2 (R6). -/
theorem faithful_T2 (T : Tables) : ∀ c ∈ checksT2, c.Faithful T := by
  intro c hc
  simp only [checksT2, checkT2, List.mem_cons, List.not_mem_nil, or_false] at hc
  rcases hc with rfl | rfl | rfl | rfl | rfl | rfl | rfl | rfl <;>
  · refine ⟨rfl, range_rising _, fun i => ?_⟩
    simp only [CheckFails, GeneralFails, CompartmentFails, CheckpointFails, HydrostaticFails, BuoyancyFails, SoundingFails,
      DriverFails, outside_iff, outsideInt_iff, Bool.and_eq_true, Bool.or_eq_true, decide_eq_true_iff, List.mem_range,
      and_false, or_false, false_or, Nat.cast_ofNat, Nat.cast_one]
    exact Iff.rfl

/-- The checks of T3 (R7). -/
theorem faithful_T3 (T : Tables) : ∀ c ∈ checksT3, c.Faithful T := by
  intro c hc
  simp only [checksT3, checkT3, List.mem_cons, List.not_mem_nil, or_false] at hc
  rcases hc with rfl | rfl | rfl | rfl | rfl | rfl | rfl <;>
  · refine ⟨rfl, range_rising _, fun i => ?_⟩
    simp only [CheckFails, GeneralFails, CompartmentFails, CheckpointFails, HydrostaticFails, BuoyancyFails, SoundingFails,
      DriverFails, outside_iff, outsideInt_iff, Bool.and_eq_true, decide_eq_true_iff, List.mem_range, and_false,
      or_false, false_or, Nat.cast_ofNat, Nat.cast_one]
    exact Iff.rfl

/-- The checks of T4, where the checkpoint count has passed check 12 (R8). -/
theorem faithful_T4 (T : Tables) (h : T.cpCount ≤ 16) : ∀ c ∈ checksT4, c.Faithful T := by
  intro c hc
  have hrows : ∀ i, i ∈ T.buoyancyRows ↔ i / 16 < T.hydroCount ∧ i % 16 < T.cpCount := fun i => by
    rw [Tables.buoyancyRows, mem_flatMap_rows (by decide) (fun _ _ => h), List.mem_range]
  have hat : ∀ i, i / 16 * 16 + i % 16 = i := fun i => by omega
  simp only [checksT4, List.mem_cons, List.not_mem_nil, or_false] at hc
  rcases hc with rfl | rfl <;>
  · refine ⟨rfl, flatMap_rising (range_rising _) (fun _ _ => h), fun i => ?_⟩
    simp only [CheckFails, GeneralFails, CompartmentFails, CheckpointFails, HydrostaticFails, BuoyancyFails, SoundingFails,
      DriverFails, outsideInt_iff, decide_eq_true_iff, hrows, and_false, or_false, false_or, Tables.buoyancy,
      Tables.buoyancyMoment, hat]
    exact Iff.rfl

/-- The checks of T5, where the point counts have passed check 26 (R9). -/
theorem faithful_T5 (T : Tables) (h : ∀ c ∈ T.ballastTanks, T.points c ≤ 20) : ∀ c ∈ checksT5, c.Faithful T := by
  intro c hc
  have hrows : ∀ i, i ∈ T.soundingRows ↔ i / 20 < 48 ∧ rowU T.t1 (i / 20) 0 1 = 1 ∧ i % 20 < T.points (i / 20) := fun i => by
    rw [Tables.soundingRows, mem_flatMap_rows (by decide) h, Tables.ballastTanks, List.mem_filter, isBallast_iff, compartments,
      List.mem_range, and_assoc]
  have hs : ∀ i, T.soundingOf i = rowU T.t5 i 0 2 := fun i => by
    rw [Tables.soundingOf, Tables.sounding, show i / 20 * 20 + i % 20 = i by omega]; rfl
  have hv : ∀ i, T.volumeOf i = rowU T.t5 i 2 3 := fun i => by
    rw [Tables.volumeOf, Tables.volumeAt, show i / 20 * 20 + i % 20 = i by omega]; rfl
  have hr : T.soundingRows.Pairwise (· < ·) := flatMap_rising ((range_rising 48).filter _) h
  simp only [checksT5, checkT5, List.mem_cons, List.not_mem_nil, or_false] at hc
  rcases hc with rfl | rfl | rfl | rfl | rfl <;>
  · refine ⟨rfl, hr, fun i => ?_⟩
    simp only [CheckFails, GeneralFails, CompartmentFails, CheckpointFails, HydrostaticFails, BuoyancyFails, SoundingFails,
      DriverFails, Bool.and_eq_true, decide_eq_true_iff, beq_iff_eq, hrows, hs, hv, and_false, or_false, false_or]
    exact Iff.rfl

/-- The driver of a row of T6 has that row's code. -/
theorem rowDriver_code {i : Nat} (h : i < 6) : (rowDriver i).code = i := by
  have : ∀ i < 6, (rowDriver i).code = i := by decide
  exact this i h

/-- The checks of T6 (R10). -/
theorem faithful_T6 (T : Tables) : ∀ c ∈ checksT6, c.Faithful T := by
  intro c hc
  simp only [checksT6, checkT6, List.mem_cons, List.not_mem_nil, or_false] at hc
  rcases hc with rfl | rfl | rfl | rfl | rfl | rfl | rfl <;>
  · refine ⟨rfl, range_rising _, fun i => ?_⟩
    simp only [CheckFails, GeneralFails, CompartmentFails, CheckpointFails, HydrostaticFails, BuoyancyFails, SoundingFails,
      DriverFails, Bool.and_eq_true, decide_eq_true_iff, Tables.fittedPump, fitted_iff, outside_iff, List.mem_range,
      Tables.fittedCode, Tables.lineTravel, Tables.factor, Tables.primingTime, Tables.noFlowTime, Tables.variable,
      Tables.minSpeed, Tables.ratedRate, beq_iff_eq, and_false, false_or]
    refine and_congr_right fun h => ?_
    rw [rowDriver_code h]
    simp only [rowU, Outside]
    omega

/-- Checks 80 to 83 (R5). -/
theorem faithful_across (T : Tables) : ∀ c ∈ checksAcross, c.Faithful T := by
  intro c hc
  have hf : ∀ d, (!T.fitted d) = true ↔ rowU T.t6 d.code 0 1 ≠ 1 := fun d => by
    rw [Bool.not_eq_true', ← Bool.not_eq_true, fitted_iff]
  simp only [checksAcross, checkT1, List.mem_cons, List.not_mem_nil, or_false] at hc
  rcases hc with rfl | rfl | rfl | rfl <;>
  · refine ⟨rfl, range_rising 48, fun i => ?_⟩
    simp only [CheckFails, GeneralFails, CompartmentFails, CheckpointFails, HydrostaticFails, BuoyancyFails, SoundingFails,
      DriverFails, kind_eq, beq_iff_eq, Bool.and_eq_true, decide_eq_true_iff, compartments, List.mem_range, and_false, or_false,
      false_or, ne_eq, isBallast_eq, earlierSame, List.any_eq_true]
    first
      | exact Iff.rfl
      | (refine and_congr_right fun _ => and_congr_right fun _ => exists_congr fun p => and_congr_right fun hp => ?_
         rw [hf, rowDriver_code (by omega)]
         exact Iff.rfl)
      | (refine and_congr_right fun _ => and_congr_right fun _ => ?_
         rw [show T.gravityLine i = rowU T.t1 i 25 1 from rfl]
         generalize rowU T.t1 i 25 1 = n
         rcases n with _ | _ | _ | n <;> simp [gravityDriver, hf, Driver.code])

/-! ## The first fault -/

/-- The numbers of the checks rise, through those before check 38 and those after it. -/
theorem checks_rise :
    ((checksT0 ++ checksT1).map Check.number).Pairwise (· < ·) ∧
      ((checksT2 ++ checksT3 ++ checksT4 ++ checksT5 ++ checksT6 ++ checksAcross).map Check.number).Pairwise (· < ·) := by
  constructor <;> decide

/-- A check that a row fails is one of the model's. -/
theorem checkFails_number {T : Tables} {n i : Nat} (h : CheckFails T n (some i)) :
    n ∈ (checksT0 ++ checksT1).map Check.number ∨
      n ∈ (checksT2 ++ checksT3 ++ checksT4 ++ checksT5 ++ checksT6 ++ checksAcross).map Check.number := by
  rcases h with h | h | h | h | h | h | h
  all_goals
    first
      | unfold GeneralFails at h
      | unfold CompartmentFails at h
      | unfold CheckpointFails at h
      | unfold HydrostaticFails at h
      | unfold BuoyancyFails at h
      | unfold SoundingFails at h
      | unfold DriverFails at h
    replace h := h.2
    split at h <;> first | (exact h.elim) | decide

/-- No LIGHTSHIP row has mass above 0 (R18, check 38). -/
theorem noLightship_iff (T : Tables) : noLightship T = true ↔ CheckFails T 38 none := by
  simp only [noLightship, Bool.not_eq_true', List.any_eq_false, CheckFails, true_and, compartments, List.mem_range,
    Bool.and_eq_true, beq_iff_eq, kind_eq, decide_eq_true_iff]
  exact Iff.rfl

/-- The checks before check 38. -/
theorem faithful_early (T : Tables) : ∀ c ∈ checksT0 ++ checksT1, c.Faithful T :=
  List.forall_mem_append.2 ⟨faithful_T0 T, faithful_T1 T⟩

/-- The checks after check 38, which examine their tables with the row counts in range. -/
theorem faithful_late (T : Tables) (h : ∀ c ∈ checksT0 ++ checksT1, c.fault T = none) :
    ∀ c ∈ checksT2 ++ checksT3 ++ checksT4 ++ checksT5 ++ checksT6 ++ checksAcross, c.Faithful T := by
  have early : ∀ c ∈ checksT0 ++ checksT1, ∀ i, ¬ CheckFails T c.number (some i) := fun c hc =>
    (faithful_early T c hc).fault_none.1 (h c hc)
  have number : ∀ n ∈ (checksT0 ++ checksT1).map Check.number, ∀ i, ¬ CheckFails T n (some i) := fun n hn i => by
    obtain ⟨c, hc, rfl⟩ := List.mem_map.1 hn
    exact early c hc i
  have h12 : T.cpCount ≤ 16 := by
    refine Nat.le_of_not_lt fun hlt => number 12 (by decide) 0 (Or.inl ⟨rfl, Or.inr ?_⟩)
    exact Int.ofNat_lt.2 hlt
  have h26 : ∀ c ∈ T.ballastTanks, T.points c ≤ 20 := fun c hc => by
    rw [Tables.ballastTanks, List.mem_filter, compartments, List.mem_range, isBallast_iff] at hc
    refine Nat.le_of_not_lt fun hlt => number 26 (by decide) c (Or.inr (Or.inl ⟨hc.1, hc.2, Or.inr ?_⟩))
    exact Int.ofNat_lt.2 hlt
  simp only [List.forall_mem_append]
  exact ⟨⟨⟨⟨⟨faithful_T2 T, faithful_T3 T⟩, faithful_T4 T h12⟩, faithful_T5 T h26⟩, faithful_T6 T⟩, faithful_across T⟩

/-- What a fault found in a list of faithful checks says. -/
theorem firstOf_first {T : Tables} {cs : List Check} {f : FaultRecord} (hr : (cs.map Check.number).Pairwise (· < ·))
    (hf : ∀ c ∈ cs, c.Faithful T) (h : firstOf T cs = some f) :
    f.cause = .validation ∧ f.table = some (checkTable f.check) ∧ f.check ∈ cs.map Check.number ∧
      (∃ i, f.row = some i ∧ CheckFails T f.check (some i) ∧ ∀ j < i, ¬ CheckFails T f.check (some j)) ∧
      ∀ n ∈ cs.map Check.number, n < f.check → ∀ i, ¬ CheckFails T n (some i) := by
  obtain ⟨c, hc, hs, hn⟩ := firstOf_some hr h
  obtain ⟨h1, h2, h3, h4⟩ := (hf c hc).fault_some hs
  rw [h3]
  refine ⟨h1, h2, List.mem_map_of_mem hc, h4, fun n hm hlt => ?_⟩
  obtain ⟨d, hd, rfl⟩ := List.mem_map.1 hm
  exact (hf d hd).fault_none.1 (hn d hd hlt)

/-- The numbers before and after check 38. -/
theorem check_numbers :
    (∀ n ∈ (checksT0 ++ checksT1).map Check.number, n < 38) ∧
      ∀ n ∈ (checksT2 ++ checksT3 ++ checksT4 ++ checksT5 ++ checksT6 ++ checksAcross).map Check.number, 38 < n := by
  constructor <;> decide

/-- The first fault that the model finds is the first failure of R18. -/
theorem firstFault_first {T : Tables} {f : FaultRecord} (h : T.firstFault = some f) : FirstFailure T f := by
  unfold Tables.firstFault at h
  cases h1 : firstOf T (checksT0 ++ checksT1) with
  | some g =>
    rw [h1] at h
    obtain rfl := Option.some.inj h
    obtain ⟨a, b, c, ⟨i, hi, d, e⟩, k⟩ := firstOf_first checks_rise.1 (faithful_early T) h1
    refine ⟨a, b, hi ▸ d, fun n hn row hf => ?_, fun i' j hi' hj => ?_⟩
    · have hlt := check_numbers.1 _ c
      cases row with
      | none => have := hf.1; omega
      | some r =>
        rcases checkFails_number hf with hm | hm
        · exact k n hm hn r hf
        · have := check_numbers.2 n hm; omega
    · rw [hi] at hi'; obtain rfl := Option.some.inj hi'; exact e j hj
  | none =>
    have early := firstOf_none.1 h1
    have none1 : ∀ n ∈ (checksT0 ++ checksT1).map Check.number, ∀ i, ¬ CheckFails T n (some i) := fun n hn i => by
      obtain ⟨c, hc, rfl⟩ := List.mem_map.1 hn
      exact (faithful_early T c hc).fault_none.1 (early c hc) i
    rw [h1] at h
    by_cases hl : noLightship T = true
    · simp only [hl, if_true] at h
      obtain rfl := Option.some.inj h
      refine ⟨rfl, rfl, (noLightship_iff T).1 hl, fun n hn row hf => ?_, fun i j hi => absurd hi (by simp)⟩
      cases row with
      | none => have := hf.1; simp at hn; omega
      | some r =>
        rcases checkFails_number hf with hm | hm
        · exact none1 n hm r hf
        · have := check_numbers.2 n hm; simp at hn; omega
    · simp only [hl] at h
      obtain ⟨a, b, c, ⟨i, hi, d, e⟩, k⟩ := firstOf_first checks_rise.2 (faithful_late T early) (by simpa using h)
      refine ⟨a, b, hi ▸ d, fun n hn row hf => ?_, fun i' j hi' hj => ?_⟩
      · cases row with
        | none => obtain rfl := hf.1; exact hl ((noLightship_iff T).2 hf)
        | some r =>
          rcases checkFails_number hf with hm | hm
          · exact none1 n hm r hf
          · exact k n hm hn r hf
      · rw [hi] at hi'; obtain rfl := Option.some.inj hi'; exact e j hj

/-- Where the model finds no fault, no row fails any check (R18). -/
theorem firstFault_pass {T : Tables} (h : T.firstFault = none) : ChecksPass T := by
  unfold Tables.firstFault at h
  cases h1 : firstOf T (checksT0 ++ checksT1) with
  | some g => rw [h1] at h; exact absurd h (by simp)
  | none =>
    have early := firstOf_none.1 h1
    rw [h1] at h
    by_cases hl : noLightship T = true
    · simp [hl] at h
    · have late := firstOf_none.1 (by simpa [hl] using h : firstOf T (checksT2 ++ checksT3 ++ checksT4 ++ checksT5 ++ checksT6 ++ checksAcross) = none)
      intro n row hf
      cases row with
      | none => obtain rfl := hf.1; exact hl ((noLightship_iff T).2 hf)
      | some r =>
        rcases checkFails_number hf with hm | hm
        · obtain ⟨c, hc, rfl⟩ := List.mem_map.1 hm
          exact (faithful_early T c hc).fault_none.1 (early c hc) r hf
        · obtain ⟨c, hc, rfl⟩ := List.mem_map.1 hm
          exact (faithful_late T early c hc).fault_none.1 (late c hc) r hf

/-- Two first failures of the same tables are the same record. -/
theorem FirstFailure.unique {T : Tables} {f g : FaultRecord} (hf : FirstFailure T f) (hg : FirstFailure T g) : f = g := by
  obtain ⟨a, b, c, d, e⟩ := hf
  obtain ⟨a', b', c', d', e'⟩ := hg
  have hn : f.check = g.check := by
    rcases Nat.lt_trichotomy f.check g.check with h | h | h
    · exact absurd c (d' _ h _)
    · exact h
    · exact absurd c' (d _ h _)
  have hr : f.row = g.row := by
    rw [← hn] at c' e'
    cases hfr : f.row with
    | none =>
      rw [hfr] at c
      cases hgr : g.row with
      | none => rfl
      | some j =>
        rw [hgr, c.1] at c'
        rcases checkFails_number c' with hm | hm
        · exact absurd (check_numbers.1 38 hm) (by omega)
        · exact absurd (check_numbers.2 38 hm) (by omega)
    | some i =>
      rw [hfr] at c
      cases hgr : g.row with
      | none =>
        rw [hgr] at c'
        rw [c'.1] at c
        rcases checkFails_number c with hm | hm
        · exact absurd (check_numbers.1 38 hm) (by omega)
        · exact absurd (check_numbers.2 38 hm) (by omega)
      | some j =>
        rw [hgr] at c'
        rcases Nat.lt_trichotomy i j with h | h | h
        · exact absurd c (e' _ _ hgr h)
        · rw [h]
        · exact absurd c' (e _ _ hfr h)
  obtain ⟨fc, ft, fr, fn⟩ := f
  obtain ⟨gc, gt, gr, gn⟩ := g
  simp only at a a' b b' hn hr
  subst hn hr a a' b b'
  rfl

/-- The model's first fault is the first failure of R18, and it has none exactly where every check passes. -/
theorem firstFault_some_iff {T : Tables} {f : FaultRecord} : T.firstFault = some f ↔ FirstFailure T f := by
  refine ⟨firstFault_first, fun h => ?_⟩
  cases hg : T.firstFault with
  | some g => rw [(firstFault_first hg).unique h]
  | none => exact absurd h.2.2.1 (firstFault_pass hg _ _)

theorem firstFault_none_iff {T : Tables} : T.firstFault = none ↔ ChecksPass T := by
  refine ⟨firstFault_pass, fun h => ?_⟩
  cases hg : T.firstFault with
  | some g => exact absurd (firstFault_first hg).2.2.1 (h _ _)
  | none => rfl

end Sys2Proof.Machine
end

