-- ==== Sys2Proof/Laws/Frames.lean ====
section
/-! SUPPORT. The frame of each shared operation: which blocks of the part it leaves as they were, said once. A later proof
cites these by simp and unfolds no operation for its frame. -/

namespace Sys2Proof.Machine

/-- What every step of a fold keeps, the fold keeps. -/
theorem foldl_keep {α β : Type} (g : State → β) (f : State → α → State) (h : ∀ s x, g (f s x) = g s) (l : List α) (s : State) :
    g (l.foldl f s) = g s := by
  induction l generalizing s with
  | nil => rfl
  | cons x xs ih => rw [List.foldl_cons, ih, h]

@[simp] theorem setGaugeRec_fields (s : State) (c : Nat) (g : GaugeRec) :
    (s.setGaugeRec c g).gauge.currentMask = s.gauge.currentMask ∧
      (s.setGaugeRec c g).gauge.nextMask = s.gauge.nextMask ∧
      (s.setGaugeRec c g).gauge.sweeping = s.gauge.sweeping ∧
      (s.setGaugeRec c g).gauge.slot = s.gauge.slot ∧
      (s.setGaugeRec c g).gauge.poll = s.gauge.poll ∧
      (s.setGaugeRec c g).gauge.countdown = s.gauge.countdown ∧
      (s.setGaugeRec c g).gauge.readings = s.gauge.readings ∧
      (s.setGaugeRec c g).gauge.lastStamp = s.gauge.lastStamp ∧
      (s.setGaugeRec c g).gauge.prevStamp = s.gauge.prevStamp ∧
      (s.setGaugeRec c g).gauge.swept = s.gauge.swept := by
  simp [State.setGaugeRec]

/-! ## Notices, the engine and the tracker -/

@[simp] theorem raise_frame (d : Detail) (s : State) :
    (raise d s).store = s.store ∧ (raise d s).gauge = s.gauge ∧ (raise d s).meter = s.meter ∧
      (raise d s).engine = s.engine ∧ (raise d s).limits = s.limits ∧ (raise d s).xfer = s.xfer ∧
      (raise d s).seq = s.seq ∧ (raise d s).tracker = s.tracker ∧ (raise d s).console = s.console ∧
      (raise d s).records = s.records ∧ (raise d s).time = s.time ∧ (raise d s).inputs = s.inputs ∧
      (raise d s).pending = s.pending := by
  simp only [raise]; (repeat' split) <;> simp

@[simp] theorem raise_fields (d : Detail) (s : State) :
    (raise d s).links.ship = s.links.ship ∧ (raise d s).links.shore = s.links.shore ∧
      (raise d s).links.enables = s.links.enables ∧ (raise d s).links.rate = s.links.rate := by
  simp only [raise]; (repeat' split) <;> simp

@[simp] theorem clearNotice_frame (s : State) (k : NoticeKind) :
    (clearNotice s k).store = s.store ∧ (clearNotice s k).gauge = s.gauge ∧ (clearNotice s k).meter = s.meter ∧
      (clearNotice s k).engine = s.engine ∧ (clearNotice s k).limits = s.limits ∧ (clearNotice s k).xfer = s.xfer ∧
      (clearNotice s k).seq = s.seq ∧ (clearNotice s k).tracker = s.tracker ∧ (clearNotice s k).console = s.console ∧
      (clearNotice s k).records = s.records ∧ (clearNotice s k).time = s.time ∧ (clearNotice s k).inputs = s.inputs ∧
      (clearNotice s k).pending = s.pending := by
  simp [clearNotice]

@[simp] theorem clearNotice_fields (s : State) (k : NoticeKind) :
    (clearNotice s k).links.ship = s.links.ship ∧ (clearNotice s k).links.shore = s.links.shore ∧
      (clearNotice s k).links.enables = s.links.enables ∧ (clearNotice s k).links.rate = s.links.rate := by
  simp [clearNotice]

@[simp] theorem settleLine_frame (s : State) :
    (settleLine s).store = s.store ∧ (settleLine s).gauge = s.gauge ∧ (settleLine s).meter = s.meter ∧
      (settleLine s).engine = s.engine ∧ (settleLine s).xfer = s.xfer ∧ (settleLine s).seq = s.seq ∧
      (settleLine s).tracker = s.tracker ∧ (settleLine s).console = s.console ∧ (settleLine s).records = s.records ∧
      (settleLine s).links = s.links ∧ (settleLine s).time = s.time ∧ (settleLine s).inputs = s.inputs ∧
      (settleLine s).pending = s.pending := by
  simp [settleLine]

@[simp] theorem beginJob_frame (task : Task) (s : State) :
    (beginJob task s).store = s.store ∧ (beginJob task s).gauge = s.gauge ∧ (beginJob task s).meter = s.meter ∧
      (beginJob task s).limits = s.limits ∧ (beginJob task s).xfer = s.xfer ∧ (beginJob task s).seq = s.seq ∧
      (beginJob task s).tracker = s.tracker ∧ (beginJob task s).console = s.console ∧
      (beginJob task s).records = s.records ∧ (beginJob task s).links = s.links ∧ (beginJob task s).time = s.time ∧
      (beginJob task s).inputs = s.inputs ∧ (beginJob task s).pending = s.pending := by
  simp [beginJob]

@[simp] theorem beginJob_fields (task : Task) (s : State) :
    (beginJob task s).engine.published = s.engine.published ∧ (beginJob task s).engine.nextSeq = s.engine.nextSeq ∧
      (beginJob task s).engine.result = s.engine.result ∧ (beginJob task s).engine.lastKind = s.engine.lastKind ∧
      (beginJob task s).engine.fixed = s.engine.fixed := by
  simp [beginJob]

@[simp] theorem takeRefresh_frame (s : State) :
    (takeRefresh s).store = s.store ∧ (takeRefresh s).gauge = s.gauge ∧ (takeRefresh s).meter = s.meter ∧
      (takeRefresh s).limits = s.limits ∧ (takeRefresh s).xfer = s.xfer ∧ (takeRefresh s).seq = s.seq ∧
      (takeRefresh s).tracker = s.tracker ∧ (takeRefresh s).console = s.console ∧ (takeRefresh s).records = s.records ∧
      (takeRefresh s).links = s.links ∧ (takeRefresh s).time = s.time ∧ (takeRefresh s).inputs = s.inputs ∧
      (takeRefresh s).pending = s.pending := by
  simp only [takeRefresh]; (repeat' split) <;> simp

@[simp] theorem takeRefresh_fields (s : State) :
    (takeRefresh s).engine.published = s.engine.published ∧ (takeRefresh s).engine.nextSeq = s.engine.nextSeq ∧
      (takeRefresh s).engine.result = s.engine.result ∧ (takeRefresh s).engine.lastKind = s.engine.lastKind ∧
      (takeRefresh s).engine.fixed = s.engine.fixed := by
  simp only [takeRefresh]; (repeat' split) <;> simp

@[simp] theorem takeProjection_frame (req : ProjReq) (s : State) :
    (takeProjection req s).store = s.store ∧ (takeProjection req s).gauge = s.gauge ∧
      (takeProjection req s).meter = s.meter ∧ (takeProjection req s).limits = s.limits ∧
      (takeProjection req s).xfer = s.xfer ∧ (takeProjection req s).seq = s.seq ∧
      (takeProjection req s).tracker = s.tracker ∧ (takeProjection req s).console = s.console ∧
      (takeProjection req s).records = s.records ∧ (takeProjection req s).links = s.links ∧
      (takeProjection req s).time = s.time ∧ (takeProjection req s).inputs = s.inputs ∧
      (takeProjection req s).pending = s.pending := by
  simp only [takeProjection]; (repeat' split) <;> simp

@[simp] theorem takeProjection_fields (req : ProjReq) (s : State) :
    (takeProjection req s).engine.published = s.engine.published ∧
      (takeProjection req s).engine.nextSeq = s.engine.nextSeq ∧
      (takeProjection req s).engine.result = s.engine.result ∧
      (takeProjection req s).engine.lastKind = s.engine.lastKind ∧
      (takeProjection req s).engine.fixed = s.engine.fixed := by
  simp only [takeProjection]; (repeat' split) <;> simp

@[simp] theorem takeMark_frame (s : State) :
    (takeMark s).store = s.store ∧ (takeMark s).gauge = s.gauge ∧ (takeMark s).meter = s.meter ∧
      (takeMark s).limits = s.limits ∧ (takeMark s).xfer = s.xfer ∧ (takeMark s).seq = s.seq ∧
      (takeMark s).tracker = s.tracker ∧ (takeMark s).console = s.console ∧ (takeMark s).records = s.records ∧
      (takeMark s).links = s.links ∧ (takeMark s).time = s.time ∧ (takeMark s).inputs = s.inputs ∧
      (takeMark s).pending = s.pending := by
  simp only [takeMark]; (repeat' split) <;> simp

@[simp] theorem takeMark_fields (s : State) :
    (takeMark s).engine.published = s.engine.published ∧ (takeMark s).engine.nextSeq = s.engine.nextSeq ∧
      (takeMark s).engine.result = s.engine.result ∧ (takeMark s).engine.lastKind = s.engine.lastKind ∧
      (takeMark s).engine.fixed = s.engine.fixed := by
  simp only [takeMark]; (repeat' split) <;> simp

@[simp] theorem engineRun_frame (s : State) :
    (engineRun s).store = s.store ∧ (engineRun s).gauge = s.gauge ∧ (engineRun s).meter = s.meter ∧
      (engineRun s).limits = s.limits ∧ (engineRun s).xfer = s.xfer ∧ (engineRun s).seq = s.seq ∧
      (engineRun s).tracker = s.tracker ∧ (engineRun s).console = s.console ∧ (engineRun s).records = s.records ∧
      (engineRun s).links = s.links ∧ (engineRun s).time = s.time ∧ (engineRun s).inputs = s.inputs ∧
      (engineRun s).pending = s.pending := by
  simp [engineRun]

@[simp] theorem engineRun_fields (s : State) :
    (engineRun s).engine.published = s.engine.published ∧ (engineRun s).engine.nextSeq = s.engine.nextSeq ∧
      (engineRun s).engine.result = s.engine.result ∧ (engineRun s).engine.lastKind = s.engine.lastKind ∧
      (engineRun s).engine.fixed = s.engine.fixed := by
  simp [engineRun]

@[simp] theorem setRefreshMark_frame (s : State) :
    (setRefreshMark s).store = s.store ∧ (setRefreshMark s).gauge = s.gauge ∧ (setRefreshMark s).meter = s.meter ∧
      (setRefreshMark s).limits = s.limits ∧ (setRefreshMark s).xfer = s.xfer ∧ (setRefreshMark s).seq = s.seq ∧
      (setRefreshMark s).tracker = s.tracker ∧ (setRefreshMark s).console = s.console ∧
      (setRefreshMark s).records = s.records ∧ (setRefreshMark s).links = s.links ∧ (setRefreshMark s).time = s.time ∧
      (setRefreshMark s).inputs = s.inputs ∧ (setRefreshMark s).pending = s.pending := by
  simp only [setRefreshMark]; (repeat' split) <;> simp

@[simp] theorem setRefreshMark_fields (s : State) :
    (setRefreshMark s).engine.published = s.engine.published ∧ (setRefreshMark s).engine.nextSeq = s.engine.nextSeq ∧
      (setRefreshMark s).engine.result = s.engine.result ∧ (setRefreshMark s).engine.lastKind = s.engine.lastKind ∧
      (setRefreshMark s).engine.fixed = s.engine.fixed := by
  simp only [setRefreshMark]; (repeat' split) <;> simp

@[simp] theorem requestProjection_frame (req : ProjReq) (s : State) :
    (requestProjection req s).store = s.store ∧ (requestProjection req s).gauge = s.gauge ∧
      (requestProjection req s).meter = s.meter ∧ (requestProjection req s).limits = s.limits ∧
      (requestProjection req s).xfer = s.xfer ∧ (requestProjection req s).seq = s.seq ∧
      (requestProjection req s).tracker = s.tracker ∧ (requestProjection req s).console = s.console ∧
      (requestProjection req s).records = s.records ∧ (requestProjection req s).links = s.links ∧
      (requestProjection req s).time = s.time ∧ (requestProjection req s).inputs = s.inputs ∧
      (requestProjection req s).pending = s.pending := by
  simp only [requestProjection]; (repeat' split) <;> simp

@[simp] theorem requestProjection_fields (req : ProjReq) (s : State) :
    (requestProjection req s).engine.published = s.engine.published ∧
      (requestProjection req s).engine.nextSeq = s.engine.nextSeq ∧
      (requestProjection req s).engine.result = s.engine.result ∧
      (requestProjection req s).engine.lastKind = s.engine.lastKind ∧
      (requestProjection req s).engine.fixed = s.engine.fixed := by
  simp only [requestProjection]; (repeat' split) <;> simp

@[simp] theorem suspendSeq_frame (why : SuspendReason) (detail : SuspendDetail) (s : State) :
    (suspendSeq why detail s).store = s.store ∧ (suspendSeq why detail s).gauge = s.gauge ∧
      (suspendSeq why detail s).meter = s.meter ∧ (suspendSeq why detail s).engine = s.engine ∧
      (suspendSeq why detail s).limits = s.limits ∧ (suspendSeq why detail s).xfer = s.xfer ∧
      (suspendSeq why detail s).tracker = s.tracker ∧ (suspendSeq why detail s).console = s.console ∧
      (suspendSeq why detail s).records = s.records ∧ (suspendSeq why detail s).time = s.time ∧
      (suspendSeq why detail s).inputs = s.inputs ∧ (suspendSeq why detail s).pending = s.pending := by
  simp only [suspendSeq]; (repeat' split) <;> simp

@[simp] theorem suspendSeq_fields (why : SuspendReason) (detail : SuspendDetail) (s : State) :
    (suspendSeq why detail s).links.ship = s.links.ship ∧ (suspendSeq why detail s).links.shore = s.links.shore ∧
      (suspendSeq why detail s).links.enables = s.links.enables ∧ (suspendSeq why detail s).links.rate = s.links.rate ∧
      (suspendSeq why detail s).seq.active = s.seq.active ∧ (suspendSeq why detail s).seq.standby = s.seq.standby ∧
      (suspendSeq why detail s).seq.stage = s.seq.stage := by
  simp only [suspendSeq]; (repeat' split) <;> simp

@[simp] theorem deadlockCheck_frame (s : State) :
    (deadlockCheck s).store = s.store ∧ (deadlockCheck s).gauge = s.gauge ∧ (deadlockCheck s).meter = s.meter ∧
      (deadlockCheck s).engine = s.engine ∧ (deadlockCheck s).limits = s.limits ∧ (deadlockCheck s).xfer = s.xfer ∧
      (deadlockCheck s).tracker = s.tracker ∧ (deadlockCheck s).console = s.console ∧
      (deadlockCheck s).records = s.records ∧ (deadlockCheck s).time = s.time ∧ (deadlockCheck s).inputs = s.inputs ∧
      (deadlockCheck s).pending = s.pending := by
  simp only [deadlockCheck]; (repeat' split) <;> simp

@[simp] theorem deadlockCheck_fields (s : State) :
    (deadlockCheck s).links.ship = s.links.ship ∧ (deadlockCheck s).links.shore = s.links.shore ∧
      (deadlockCheck s).links.enables = s.links.enables ∧ (deadlockCheck s).links.rate = s.links.rate ∧
      (deadlockCheck s).seq.active = s.seq.active ∧ (deadlockCheck s).seq.standby = s.seq.standby ∧
      (deadlockCheck s).seq.stage = s.seq.stage := by
  simp only [deadlockCheck]; (repeat' split) <;> simp

@[simp] theorem raisePour_frame (e : PourEvent) (c : Option (Nat × Nat)) (set : Reasons) (s : State) :
    (raisePour e c set s).store = s.store ∧ (raisePour e c set s).gauge = s.gauge ∧
      (raisePour e c set s).meter = s.meter ∧ (raisePour e c set s).engine = s.engine ∧
      (raisePour e c set s).limits = s.limits ∧ (raisePour e c set s).xfer = s.xfer ∧
      (raisePour e c set s).seq = s.seq ∧ (raisePour e c set s).tracker = s.tracker ∧
      (raisePour e c set s).console = s.console ∧ (raisePour e c set s).records = s.records ∧
      (raisePour e c set s).time = s.time ∧ (raisePour e c set s).inputs = s.inputs ∧
      (raisePour e c set s).pending = s.pending := by
  simp [raisePour]

@[simp] theorem raisePour_fields (e : PourEvent) (c : Option (Nat × Nat)) (set : Reasons) (s : State) :
    (raisePour e c set s).links.ship = s.links.ship ∧ (raisePour e c set s).links.shore = s.links.shore ∧
      (raisePour e c set s).links.enables = s.links.enables ∧ (raisePour e c set s).links.rate = s.links.rate := by
  simp [raisePour]

@[simp] theorem issueShore_frame (n : ShoreNotice) (s : State) :
    (issueShore n s).store = s.store ∧ (issueShore n s).gauge = s.gauge ∧ (issueShore n s).meter = s.meter ∧
      (issueShore n s).engine = s.engine ∧ (issueShore n s).limits = s.limits ∧ (issueShore n s).xfer = s.xfer ∧
      (issueShore n s).seq = s.seq ∧ (issueShore n s).tracker = s.tracker ∧ (issueShore n s).console = s.console ∧
      (issueShore n s).records = s.records ∧ (issueShore n s).time = s.time ∧ (issueShore n s).inputs = s.inputs ∧
      (issueShore n s).pending = s.pending := by
  simp only [issueShore]; (repeat' split) <;> simp

@[simp] theorem issueShore_fields (n : ShoreNotice) (s : State) :
    (issueShore n s).links.ship = s.links.ship ∧ (issueShore n s).links.shore = s.links.shore ∧
      (issueShore n s).links.enables = s.links.enables ∧ (issueShore n s).links.rate = s.links.rate := by
  simp only [issueShore]; (repeat' split) <;> simp

@[simp] theorem sendPermit_frame (p : CurrentPour) (s : State) :
    (sendPermit p s).store = s.store ∧ (sendPermit p s).gauge = s.gauge ∧ (sendPermit p s).meter = s.meter ∧
      (sendPermit p s).engine = s.engine ∧ (sendPermit p s).limits = s.limits ∧ (sendPermit p s).xfer = s.xfer ∧
      (sendPermit p s).seq = s.seq ∧ (sendPermit p s).console = s.console ∧ (sendPermit p s).records = s.records ∧
      (sendPermit p s).time = s.time ∧ (sendPermit p s).inputs = s.inputs ∧ (sendPermit p s).pending = s.pending := by
  simp [sendPermit]

@[simp] theorem sendPermit_fields (p : CurrentPour) (s : State) :
    (sendPermit p s).links.ship = s.links.ship ∧ (sendPermit p s).links.shore = s.links.shore ∧
      (sendPermit p s).links.enables = s.links.enables ∧ (sendPermit p s).links.rate = s.links.rate ∧
      (sendPermit p s).tracker.op = s.tracker.op ∧ (sendPermit p s).tracker.opbgStamp = s.tracker.opbgStamp ∧
      (sendPermit p s).tracker.opndStamp = s.tracker.opndStamp ∧ (sendPermit p s).tracker.density = s.tracker.density ∧
      (sendPermit p s).tracker.active = s.tracker.active ∧ (sendPermit p s).tracker.standby = s.tracker.standby ∧
      (sendPermit p s).tracker.pos = s.tracker.pos ∧ (sendPermit p s).tracker.gen = s.tracker.gen ∧
      (sendPermit p s).tracker.exchange = s.tracker.exchange ∧ (sendPermit p s).tracker.prevRob = s.tracker.prevRob ∧
      (sendPermit p s).tracker.lag = s.tracker.lag ∧ (sendPermit p s).tracker.lagBefore = s.tracker.lagBefore ∧
      (sendPermit p s).tracker.standing = s.tracker.standing ∧ (sendPermit p s).tracker.holds = s.tracker.holds ∧
      (sendPermit p s).tracker.corrections = s.tracker.corrections ∧
      (sendPermit p s).tracker.history = s.tracker.history ∧ (sendPermit p s).tracker.ended = s.tracker.ended := by
  simp [sendPermit]

@[simp] theorem sendHold_frame (p : CurrentPour) (set : Reasons) (s : State) :
    (sendHold p set s).store = s.store ∧ (sendHold p set s).gauge = s.gauge ∧ (sendHold p set s).meter = s.meter ∧
      (sendHold p set s).engine = s.engine ∧ (sendHold p set s).limits = s.limits ∧ (sendHold p set s).xfer = s.xfer ∧
      (sendHold p set s).seq = s.seq ∧ (sendHold p set s).console = s.console ∧
      (sendHold p set s).records = s.records ∧ (sendHold p set s).time = s.time ∧
      (sendHold p set s).inputs = s.inputs ∧ (sendHold p set s).pending = s.pending := by
  simp [sendHold]

@[simp] theorem sendHold_fields (p : CurrentPour) (set : Reasons) (s : State) :
    (sendHold p set s).links.ship = s.links.ship ∧ (sendHold p set s).links.shore = s.links.shore ∧
      (sendHold p set s).links.enables = s.links.enables ∧ (sendHold p set s).links.rate = s.links.rate ∧
      (sendHold p set s).tracker.op = s.tracker.op ∧ (sendHold p set s).tracker.opbgStamp = s.tracker.opbgStamp ∧
      (sendHold p set s).tracker.opndStamp = s.tracker.opndStamp ∧
      (sendHold p set s).tracker.density = s.tracker.density ∧ (sendHold p set s).tracker.active = s.tracker.active ∧
      (sendHold p set s).tracker.standby = s.tracker.standby ∧ (sendHold p set s).tracker.pos = s.tracker.pos ∧
      (sendHold p set s).tracker.gen = s.tracker.gen ∧ (sendHold p set s).tracker.exchange = s.tracker.exchange ∧
      (sendHold p set s).tracker.prevRob = s.tracker.prevRob ∧ (sendHold p set s).tracker.lag = s.tracker.lag ∧
      (sendHold p set s).tracker.lagBefore = s.tracker.lagBefore ∧
      (sendHold p set s).tracker.standing = s.tracker.standing ∧ (sendHold p set s).tracker.holds = s.tracker.holds ∧
      (sendHold p set s).tracker.corrections = s.tracker.corrections ∧
      (sendHold p set s).tracker.history = s.tracker.history ∧ (sendHold p set s).tracker.ended = s.tracker.ended := by
  simp [sendHold]

@[simp] theorem sendResume_frame (p : CurrentPour) (s : State) :
    (sendResume p s).store = s.store ∧ (sendResume p s).gauge = s.gauge ∧ (sendResume p s).meter = s.meter ∧
      (sendResume p s).engine = s.engine ∧ (sendResume p s).limits = s.limits ∧ (sendResume p s).xfer = s.xfer ∧
      (sendResume p s).seq = s.seq ∧ (sendResume p s).console = s.console ∧ (sendResume p s).records = s.records ∧
      (sendResume p s).time = s.time ∧ (sendResume p s).inputs = s.inputs ∧ (sendResume p s).pending = s.pending := by
  simp [sendResume]

@[simp] theorem sendResume_fields (p : CurrentPour) (s : State) :
    (sendResume p s).links.ship = s.links.ship ∧ (sendResume p s).links.shore = s.links.shore ∧
      (sendResume p s).links.enables = s.links.enables ∧ (sendResume p s).links.rate = s.links.rate ∧
      (sendResume p s).tracker.op = s.tracker.op ∧ (sendResume p s).tracker.opbgStamp = s.tracker.opbgStamp ∧
      (sendResume p s).tracker.opndStamp = s.tracker.opndStamp ∧ (sendResume p s).tracker.density = s.tracker.density ∧
      (sendResume p s).tracker.active = s.tracker.active ∧ (sendResume p s).tracker.standby = s.tracker.standby ∧
      (sendResume p s).tracker.pos = s.tracker.pos ∧ (sendResume p s).tracker.gen = s.tracker.gen ∧
      (sendResume p s).tracker.exchange = s.tracker.exchange ∧ (sendResume p s).tracker.prevRob = s.tracker.prevRob ∧
      (sendResume p s).tracker.lag = s.tracker.lag ∧ (sendResume p s).tracker.lagBefore = s.tracker.lagBefore ∧
      (sendResume p s).tracker.standing = s.tracker.standing ∧ (sendResume p s).tracker.holds = s.tracker.holds ∧
      (sendResume p s).tracker.corrections = s.tracker.corrections ∧
      (sendResume p s).tracker.history = s.tracker.history ∧ (sendResume p s).tracker.ended = s.tracker.ended := by
  simp [sendResume]

@[simp] theorem followReasons_frame (p : CurrentPour) (set : Reasons) (s : State) :
    (followReasons p set s).store = s.store ∧ (followReasons p set s).gauge = s.gauge ∧
      (followReasons p set s).meter = s.meter ∧ (followReasons p set s).engine = s.engine ∧
      (followReasons p set s).limits = s.limits ∧ (followReasons p set s).xfer = s.xfer ∧
      (followReasons p set s).seq = s.seq ∧ (followReasons p set s).console = s.console ∧
      (followReasons p set s).records = s.records ∧ (followReasons p set s).links = s.links ∧
      (followReasons p set s).time = s.time ∧ (followReasons p set s).inputs = s.inputs ∧
      (followReasons p set s).pending = s.pending := by
  simp [followReasons]

@[simp] theorem followReasons_fields (p : CurrentPour) (set : Reasons) (s : State) :
    (followReasons p set s).tracker.op = s.tracker.op ∧
      (followReasons p set s).tracker.opbgStamp = s.tracker.opbgStamp ∧
      (followReasons p set s).tracker.opndStamp = s.tracker.opndStamp ∧
      (followReasons p set s).tracker.density = s.tracker.density ∧
      (followReasons p set s).tracker.active = s.tracker.active ∧
      (followReasons p set s).tracker.standby = s.tracker.standby ∧
      (followReasons p set s).tracker.pos = s.tracker.pos ∧ (followReasons p set s).tracker.gen = s.tracker.gen ∧
      (followReasons p set s).tracker.exchange = s.tracker.exchange ∧
      (followReasons p set s).tracker.prevRob = s.tracker.prevRob ∧
      (followReasons p set s).tracker.lag = s.tracker.lag ∧
      (followReasons p set s).tracker.lagBefore = s.tracker.lagBefore ∧
      (followReasons p set s).tracker.standing = s.tracker.standing ∧
      (followReasons p set s).tracker.holds = s.tracker.holds ∧
      (followReasons p set s).tracker.corrections = s.tracker.corrections ∧
      (followReasons p set s).tracker.history = s.tracker.history ∧
      (followReasons p set s).tracker.ended = s.tracker.ended := by
  simp [followReasons]

@[simp] theorem actOn_frame (c : Concerned) (set : Reasons) (s : State) :
    (actOn c set s).store = s.store ∧ (actOn c set s).gauge = s.gauge ∧ (actOn c set s).meter = s.meter ∧
      (actOn c set s).engine = s.engine ∧ (actOn c set s).limits = s.limits ∧ (actOn c set s).xfer = s.xfer ∧
      (actOn c set s).seq = s.seq ∧ (actOn c set s).console = s.console ∧ (actOn c set s).records = s.records ∧
      (actOn c set s).time = s.time ∧ (actOn c set s).inputs = s.inputs ∧ (actOn c set s).pending = s.pending := by
  simp only [actOn]; (repeat' split) <;> simp

@[simp] theorem actOn_fields (c : Concerned) (set : Reasons) (s : State) :
    (actOn c set s).links.ship = s.links.ship ∧ (actOn c set s).links.shore = s.links.shore ∧
      (actOn c set s).links.enables = s.links.enables ∧ (actOn c set s).links.rate = s.links.rate ∧
      (actOn c set s).tracker.op = s.tracker.op ∧ (actOn c set s).tracker.opbgStamp = s.tracker.opbgStamp ∧
      (actOn c set s).tracker.opndStamp = s.tracker.opndStamp ∧ (actOn c set s).tracker.density = s.tracker.density ∧
      (actOn c set s).tracker.active = s.tracker.active ∧ (actOn c set s).tracker.standby = s.tracker.standby ∧
      (actOn c set s).tracker.pos = s.tracker.pos ∧ (actOn c set s).tracker.gen = s.tracker.gen ∧
      (actOn c set s).tracker.exchange = s.tracker.exchange ∧ (actOn c set s).tracker.prevRob = s.tracker.prevRob ∧
      (actOn c set s).tracker.lag = s.tracker.lag ∧ (actOn c set s).tracker.lagBefore = s.tracker.lagBefore ∧
      (actOn c set s).tracker.standing = s.tracker.standing ∧ (actOn c set s).tracker.holds = s.tracker.holds ∧
      (actOn c set s).tracker.corrections = s.tracker.corrections ∧
      (actOn c set s).tracker.history = s.tracker.history ∧ (actOn c set s).tracker.ended = s.tracker.ended := by
  simp only [actOn]; (repeat' split) <;> simp

@[simp] theorem evaluate_frame (s : State) :
    (evaluate s).store = s.store ∧ (evaluate s).gauge = s.gauge ∧ (evaluate s).meter = s.meter ∧
      (evaluate s).engine = s.engine ∧ (evaluate s).limits = s.limits ∧ (evaluate s).xfer = s.xfer ∧
      (evaluate s).console = s.console ∧ (evaluate s).records = s.records ∧ (evaluate s).time = s.time ∧
      (evaluate s).inputs = s.inputs ∧ (evaluate s).pending = s.pending := by
  simp only [evaluate]; (repeat' split) <;> simp

@[simp] theorem evaluate_fields (s : State) :
    (evaluate s).links.ship = s.links.ship ∧ (evaluate s).links.shore = s.links.shore ∧
      (evaluate s).links.enables = s.links.enables ∧ (evaluate s).links.rate = s.links.rate ∧
      (evaluate s).seq.active = s.seq.active ∧ (evaluate s).seq.standby = s.seq.standby ∧
      (evaluate s).seq.stage = s.seq.stage ∧ (evaluate s).tracker.op = s.tracker.op ∧
      (evaluate s).tracker.opbgStamp = s.tracker.opbgStamp ∧ (evaluate s).tracker.opndStamp = s.tracker.opndStamp ∧
      (evaluate s).tracker.density = s.tracker.density ∧ (evaluate s).tracker.active = s.tracker.active ∧
      (evaluate s).tracker.standby = s.tracker.standby ∧ (evaluate s).tracker.pos = s.tracker.pos ∧
      (evaluate s).tracker.gen = s.tracker.gen ∧ (evaluate s).tracker.exchange = s.tracker.exchange ∧
      (evaluate s).tracker.prevRob = s.tracker.prevRob ∧ (evaluate s).tracker.lag = s.tracker.lag ∧
      (evaluate s).tracker.lagBefore = s.tracker.lagBefore ∧ (evaluate s).tracker.standing = s.tracker.standing ∧
      (evaluate s).tracker.holds = s.tracker.holds ∧ (evaluate s).tracker.corrections = s.tracker.corrections ∧
      (evaluate s).tracker.history = s.tracker.history ∧ (evaluate s).tracker.ended = s.tracker.ended := by
  simp only [evaluate]; (repeat' split) <;> simp

@[simp] theorem trackerPublish_frame (rob : Nat) (s : State) :
    (trackerPublish rob s).store = s.store ∧ (trackerPublish rob s).gauge = s.gauge ∧
      (trackerPublish rob s).meter = s.meter ∧ (trackerPublish rob s).limits = s.limits ∧
      (trackerPublish rob s).xfer = s.xfer ∧ (trackerPublish rob s).console = s.console ∧
      (trackerPublish rob s).records = s.records ∧ (trackerPublish rob s).time = s.time ∧
      (trackerPublish rob s).inputs = s.inputs ∧ (trackerPublish rob s).pending = s.pending := by
  simp only [trackerPublish]; (repeat' split) <;> simp

@[simp] theorem trackerPublish_fields (rob : Nat) (s : State) :
    (trackerPublish rob s).links.ship = s.links.ship ∧ (trackerPublish rob s).links.shore = s.links.shore ∧
      (trackerPublish rob s).links.enables = s.links.enables ∧ (trackerPublish rob s).links.rate = s.links.rate ∧
      (trackerPublish rob s).seq.active = s.seq.active ∧ (trackerPublish rob s).seq.standby = s.seq.standby ∧
      (trackerPublish rob s).seq.stage = s.seq.stage ∧ (trackerPublish rob s).engine.published = s.engine.published ∧
      (trackerPublish rob s).engine.nextSeq = s.engine.nextSeq ∧
      (trackerPublish rob s).engine.result = s.engine.result ∧
      (trackerPublish rob s).engine.lastKind = s.engine.lastKind ∧
      (trackerPublish rob s).engine.fixed = s.engine.fixed := by
  simp only [trackerPublish]; (repeat' split) <;> simp

@[simp] theorem setLatch_frame (cause : LatchCause) (number : Nat) (s : State) :
    (setLatch cause number s).store = s.store ∧ (setLatch cause number s).gauge = s.gauge ∧
      (setLatch cause number s).meter = s.meter ∧ (setLatch cause number s).engine = s.engine ∧
      (setLatch cause number s).xfer = s.xfer ∧ (setLatch cause number s).console = s.console ∧
      (setLatch cause number s).records = s.records ∧ (setLatch cause number s).time = s.time ∧
      (setLatch cause number s).inputs = s.inputs ∧ (setLatch cause number s).pending = s.pending := by
  simp [setLatch]

@[simp] theorem setLatch_fields (cause : LatchCause) (number : Nat) (s : State) :
    (setLatch cause number s).links.ship = s.links.ship ∧ (setLatch cause number s).links.shore = s.links.shore ∧
      (setLatch cause number s).links.enables = s.links.enables ∧ (setLatch cause number s).links.rate = s.links.rate ∧
      (setLatch cause number s).seq.active = s.seq.active ∧ (setLatch cause number s).seq.standby = s.seq.standby ∧
      (setLatch cause number s).seq.stage = s.seq.stage ∧ (setLatch cause number s).tracker.op = s.tracker.op ∧
      (setLatch cause number s).tracker.opbgStamp = s.tracker.opbgStamp ∧
      (setLatch cause number s).tracker.opndStamp = s.tracker.opndStamp ∧
      (setLatch cause number s).tracker.density = s.tracker.density ∧
      (setLatch cause number s).tracker.active = s.tracker.active ∧
      (setLatch cause number s).tracker.standby = s.tracker.standby ∧
      (setLatch cause number s).tracker.pos = s.tracker.pos ∧ (setLatch cause number s).tracker.gen = s.tracker.gen ∧
      (setLatch cause number s).tracker.exchange = s.tracker.exchange ∧
      (setLatch cause number s).tracker.prevRob = s.tracker.prevRob ∧
      (setLatch cause number s).tracker.lag = s.tracker.lag ∧
      (setLatch cause number s).tracker.lagBefore = s.tracker.lagBefore ∧
      (setLatch cause number s).tracker.standing = s.tracker.standing ∧
      (setLatch cause number s).tracker.holds = s.tracker.holds ∧
      (setLatch cause number s).tracker.corrections = s.tracker.corrections ∧
      (setLatch cause number s).tracker.history = s.tracker.history ∧
      (setLatch cause number s).tracker.ended = s.tracker.ended := by
  simp [setLatch]

/-! ## The Limits Unit -/

@[simp] theorem judgeAir_frame (s : State) :
    (judgeAir s).store = s.store ∧ (judgeAir s).gauge = s.gauge ∧ (judgeAir s).meter = s.meter ∧
      (judgeAir s).engine = s.engine ∧ (judgeAir s).xfer = s.xfer ∧ (judgeAir s).seq = s.seq ∧
      (judgeAir s).tracker = s.tracker ∧ (judgeAir s).console = s.console ∧ (judgeAir s).records = s.records ∧
      (judgeAir s).links = s.links ∧ (judgeAir s).time = s.time ∧ (judgeAir s).inputs = s.inputs ∧
      (judgeAir s).pending = s.pending := by
  simp [judgeAir]

@[simp] theorem judgeFigures_frame (p : Published) (s : State) :
    (judgeFigures p s).store = s.store ∧ (judgeFigures p s).gauge = s.gauge ∧ (judgeFigures p s).meter = s.meter ∧
      (judgeFigures p s).engine = s.engine ∧ (judgeFigures p s).xfer = s.xfer ∧ (judgeFigures p s).seq = s.seq ∧
      (judgeFigures p s).tracker = s.tracker ∧ (judgeFigures p s).console = s.console ∧
      (judgeFigures p s).records = s.records ∧ (judgeFigures p s).links = s.links ∧ (judgeFigures p s).time = s.time ∧
      (judgeFigures p s).inputs = s.inputs ∧ (judgeFigures p s).pending = s.pending := by
  simp [judgeFigures]

@[simp] theorem enterBreach_frame (before : Watch) (s : State) :
    (enterBreach before s).store = s.store ∧ (enterBreach before s).gauge = s.gauge ∧
      (enterBreach before s).meter = s.meter ∧ (enterBreach before s).engine = s.engine ∧
      (enterBreach before s).xfer = s.xfer ∧ (enterBreach before s).console = s.console ∧
      (enterBreach before s).records = s.records ∧ (enterBreach before s).time = s.time ∧
      (enterBreach before s).inputs = s.inputs ∧ (enterBreach before s).pending = s.pending := by
  simp only [enterBreach]; (repeat' split) <;> simp

@[simp] theorem enterBreach_fields (before : Watch) (s : State) :
    (enterBreach before s).links.ship = s.links.ship ∧ (enterBreach before s).links.shore = s.links.shore ∧
      (enterBreach before s).links.enables = s.links.enables ∧ (enterBreach before s).links.rate = s.links.rate ∧
      (enterBreach before s).seq.active = s.seq.active ∧ (enterBreach before s).seq.standby = s.seq.standby ∧
      (enterBreach before s).seq.stage = s.seq.stage ∧ (enterBreach before s).tracker.op = s.tracker.op ∧
      (enterBreach before s).tracker.opbgStamp = s.tracker.opbgStamp ∧
      (enterBreach before s).tracker.opndStamp = s.tracker.opndStamp ∧
      (enterBreach before s).tracker.density = s.tracker.density ∧
      (enterBreach before s).tracker.active = s.tracker.active ∧
      (enterBreach before s).tracker.standby = s.tracker.standby ∧ (enterBreach before s).tracker.pos = s.tracker.pos ∧
      (enterBreach before s).tracker.gen = s.tracker.gen ∧
      (enterBreach before s).tracker.exchange = s.tracker.exchange ∧
      (enterBreach before s).tracker.prevRob = s.tracker.prevRob ∧ (enterBreach before s).tracker.lag = s.tracker.lag ∧
      (enterBreach before s).tracker.lagBefore = s.tracker.lagBefore ∧
      (enterBreach before s).tracker.standing = s.tracker.standing ∧
      (enterBreach before s).tracker.holds = s.tracker.holds ∧
      (enterBreach before s).tracker.corrections = s.tracker.corrections ∧
      (enterBreach before s).tracker.history = s.tracker.history ∧
      (enterBreach before s).tracker.ended = s.tracker.ended := by
  simp only [enterBreach]; (repeat' split) <;> simp

@[simp] theorem raiseLimit_frame (old : LimitFlags) (c : Bool) (s : State) :
    (raiseLimit old c s).store = s.store ∧ (raiseLimit old c s).gauge = s.gauge ∧
      (raiseLimit old c s).meter = s.meter ∧ (raiseLimit old c s).engine = s.engine ∧
      (raiseLimit old c s).limits = s.limits ∧ (raiseLimit old c s).xfer = s.xfer ∧ (raiseLimit old c s).seq = s.seq ∧
      (raiseLimit old c s).tracker = s.tracker ∧ (raiseLimit old c s).console = s.console ∧
      (raiseLimit old c s).records = s.records ∧ (raiseLimit old c s).time = s.time ∧
      (raiseLimit old c s).inputs = s.inputs ∧ (raiseLimit old c s).pending = s.pending := by
  simp only [raiseLimit]; (repeat' split) <;> simp

@[simp] theorem raiseLimit_fields (old : LimitFlags) (c : Bool) (s : State) :
    (raiseLimit old c s).links.ship = s.links.ship ∧ (raiseLimit old c s).links.shore = s.links.shore ∧
      (raiseLimit old c s).links.enables = s.links.enables ∧ (raiseLimit old c s).links.rate = s.links.rate := by
  simp only [raiseLimit]; (repeat' split) <;> simp

@[simp] theorem judgePublish_frame (p : Published) (s : State) :
    (judgePublish p s).store = s.store ∧ (judgePublish p s).gauge = s.gauge ∧ (judgePublish p s).meter = s.meter ∧
      (judgePublish p s).engine = s.engine ∧ (judgePublish p s).xfer = s.xfer ∧
      (judgePublish p s).console = s.console ∧ (judgePublish p s).records = s.records ∧
      (judgePublish p s).time = s.time ∧ (judgePublish p s).inputs = s.inputs ∧
      (judgePublish p s).pending = s.pending := by
  simp [judgePublish]

@[simp] theorem judgePublish_fields (p : Published) (s : State) :
    (judgePublish p s).links.ship = s.links.ship ∧ (judgePublish p s).links.shore = s.links.shore ∧
      (judgePublish p s).links.enables = s.links.enables ∧ (judgePublish p s).links.rate = s.links.rate ∧
      (judgePublish p s).seq.active = s.seq.active ∧ (judgePublish p s).seq.standby = s.seq.standby ∧
      (judgePublish p s).seq.stage = s.seq.stage ∧ (judgePublish p s).tracker.op = s.tracker.op ∧
      (judgePublish p s).tracker.opbgStamp = s.tracker.opbgStamp ∧
      (judgePublish p s).tracker.opndStamp = s.tracker.opndStamp ∧
      (judgePublish p s).tracker.density = s.tracker.density ∧ (judgePublish p s).tracker.active = s.tracker.active ∧
      (judgePublish p s).tracker.standby = s.tracker.standby ∧ (judgePublish p s).tracker.pos = s.tracker.pos ∧
      (judgePublish p s).tracker.gen = s.tracker.gen ∧ (judgePublish p s).tracker.exchange = s.tracker.exchange ∧
      (judgePublish p s).tracker.prevRob = s.tracker.prevRob ∧ (judgePublish p s).tracker.lag = s.tracker.lag ∧
      (judgePublish p s).tracker.lagBefore = s.tracker.lagBefore ∧
      (judgePublish p s).tracker.standing = s.tracker.standing ∧ (judgePublish p s).tracker.holds = s.tracker.holds ∧
      (judgePublish p s).tracker.corrections = s.tracker.corrections ∧
      (judgePublish p s).tracker.history = s.tracker.history ∧ (judgePublish p s).tracker.ended = s.tracker.ended := by
  simp [judgePublish]

@[simp] theorem limitsWithdraw_frame (s : State) :
    (limitsWithdraw s).store = s.store ∧ (limitsWithdraw s).gauge = s.gauge ∧ (limitsWithdraw s).meter = s.meter ∧
      (limitsWithdraw s).engine = s.engine ∧ (limitsWithdraw s).xfer = s.xfer ∧ (limitsWithdraw s).seq = s.seq ∧
      (limitsWithdraw s).tracker = s.tracker ∧ (limitsWithdraw s).console = s.console ∧
      (limitsWithdraw s).records = s.records ∧ (limitsWithdraw s).time = s.time ∧
      (limitsWithdraw s).inputs = s.inputs ∧ (limitsWithdraw s).pending = s.pending := by
  simp only [limitsWithdraw]; (repeat' split) <;> simp

@[simp] theorem limitsWithdraw_fields (s : State) :
    (limitsWithdraw s).links.ship = s.links.ship ∧ (limitsWithdraw s).links.shore = s.links.shore ∧
      (limitsWithdraw s).links.enables = s.links.enables ∧ (limitsWithdraw s).links.rate = s.links.rate := by
  simp only [limitsWithdraw]; (repeat' split) <;> simp

@[simp] theorem applyTide_frame (height : Int) (s : State) :
    (applyTide height s).store = s.store ∧ (applyTide height s).gauge = s.gauge ∧
      (applyTide height s).meter = s.meter ∧ (applyTide height s).engine = s.engine ∧
      (applyTide height s).xfer = s.xfer ∧ (applyTide height s).console = s.console ∧
      (applyTide height s).records = s.records ∧ (applyTide height s).time = s.time ∧
      (applyTide height s).inputs = s.inputs ∧ (applyTide height s).pending = s.pending := by
  simp only [applyTide]; (repeat' split) <;> simp

@[simp] theorem applyTide_fields (height : Int) (s : State) :
    (applyTide height s).links.ship = s.links.ship ∧ (applyTide height s).links.shore = s.links.shore ∧
      (applyTide height s).links.enables = s.links.enables ∧ (applyTide height s).links.rate = s.links.rate ∧
      (applyTide height s).seq.active = s.seq.active ∧ (applyTide height s).seq.standby = s.seq.standby ∧
      (applyTide height s).seq.stage = s.seq.stage ∧ (applyTide height s).tracker.op = s.tracker.op ∧
      (applyTide height s).tracker.opbgStamp = s.tracker.opbgStamp ∧
      (applyTide height s).tracker.opndStamp = s.tracker.opndStamp ∧
      (applyTide height s).tracker.density = s.tracker.density ∧
      (applyTide height s).tracker.active = s.tracker.active ∧
      (applyTide height s).tracker.standby = s.tracker.standby ∧ (applyTide height s).tracker.pos = s.tracker.pos ∧
      (applyTide height s).tracker.gen = s.tracker.gen ∧ (applyTide height s).tracker.exchange = s.tracker.exchange ∧
      (applyTide height s).tracker.prevRob = s.tracker.prevRob ∧ (applyTide height s).tracker.lag = s.tracker.lag ∧
      (applyTide height s).tracker.lagBefore = s.tracker.lagBefore ∧
      (applyTide height s).tracker.standing = s.tracker.standing ∧
      (applyTide height s).tracker.holds = s.tracker.holds ∧
      (applyTide height s).tracker.corrections = s.tracker.corrections ∧
      (applyTide height s).tracker.history = s.tracker.history ∧
      (applyTide height s).tracker.ended = s.tracker.ended := by
  simp only [applyTide]; (repeat' split) <;> simp

@[simp] theorem judgeDraft_frame (s : State) :
    (judgeDraft s).store = s.store ∧ (judgeDraft s).gauge = s.gauge ∧ (judgeDraft s).meter = s.meter ∧
      (judgeDraft s).engine = s.engine ∧ (judgeDraft s).xfer = s.xfer ∧ (judgeDraft s).seq = s.seq ∧
      (judgeDraft s).tracker = s.tracker ∧ (judgeDraft s).console = s.console ∧ (judgeDraft s).records = s.records ∧
      (judgeDraft s).links = s.links ∧ (judgeDraft s).time = s.time ∧ (judgeDraft s).inputs = s.inputs ∧
      (judgeDraft s).pending = s.pending := by
  simp only [judgeDraft]; (repeat' split) <;> simp

@[simp] theorem limitsBegin_frame (p : OpParams) (s : State) :
    (limitsBegin p s).store = s.store ∧ (limitsBegin p s).gauge = s.gauge ∧ (limitsBegin p s).meter = s.meter ∧
      (limitsBegin p s).engine = s.engine ∧ (limitsBegin p s).xfer = s.xfer ∧ (limitsBegin p s).seq = s.seq ∧
      (limitsBegin p s).tracker = s.tracker ∧ (limitsBegin p s).console = s.console ∧
      (limitsBegin p s).records = s.records ∧ (limitsBegin p s).time = s.time ∧ (limitsBegin p s).inputs = s.inputs ∧
      (limitsBegin p s).pending = s.pending := by
  simp only [limitsBegin]; (repeat' split) <;> simp

@[simp] theorem limitsBegin_fields (p : OpParams) (s : State) :
    (limitsBegin p s).links.ship = s.links.ship ∧ (limitsBegin p s).links.shore = s.links.shore ∧
      (limitsBegin p s).links.enables = s.links.enables ∧ (limitsBegin p s).links.rate = s.links.rate := by
  simp only [limitsBegin]; (repeat' split) <;> simp

@[simp] theorem releaseLatch_frame (s : State) :
    (releaseLatch s).store = s.store ∧ (releaseLatch s).gauge = s.gauge ∧ (releaseLatch s).meter = s.meter ∧
      (releaseLatch s).engine = s.engine ∧ (releaseLatch s).xfer = s.xfer ∧ (releaseLatch s).console = s.console ∧
      (releaseLatch s).records = s.records ∧ (releaseLatch s).time = s.time ∧ (releaseLatch s).inputs = s.inputs ∧
      (releaseLatch s).pending = s.pending := by
  simp only [releaseLatch]; (repeat' split) <;> simp

@[simp] theorem releaseLatch_fields (s : State) :
    (releaseLatch s).links.ship = s.links.ship ∧ (releaseLatch s).links.shore = s.links.shore ∧
      (releaseLatch s).links.enables = s.links.enables ∧ (releaseLatch s).links.rate = s.links.rate ∧
      (releaseLatch s).seq.active = s.seq.active ∧ (releaseLatch s).seq.standby = s.seq.standby ∧
      (releaseLatch s).seq.stage = s.seq.stage ∧ (releaseLatch s).tracker.op = s.tracker.op ∧
      (releaseLatch s).tracker.opbgStamp = s.tracker.opbgStamp ∧
      (releaseLatch s).tracker.opndStamp = s.tracker.opndStamp ∧ (releaseLatch s).tracker.density = s.tracker.density ∧
      (releaseLatch s).tracker.active = s.tracker.active ∧ (releaseLatch s).tracker.standby = s.tracker.standby ∧
      (releaseLatch s).tracker.pos = s.tracker.pos ∧ (releaseLatch s).tracker.gen = s.tracker.gen ∧
      (releaseLatch s).tracker.exchange = s.tracker.exchange ∧ (releaseLatch s).tracker.prevRob = s.tracker.prevRob ∧
      (releaseLatch s).tracker.lag = s.tracker.lag ∧ (releaseLatch s).tracker.lagBefore = s.tracker.lagBefore ∧
      (releaseLatch s).tracker.standing = s.tracker.standing ∧ (releaseLatch s).tracker.holds = s.tracker.holds ∧
      (releaseLatch s).tracker.corrections = s.tracker.corrections ∧
      (releaseLatch s).tracker.history = s.tracker.history ∧ (releaseLatch s).tracker.ended = s.tracker.ended := by
  simp only [releaseLatch]; (repeat' split) <;> simp

/-! ## Valves and transfers -/

@[simp] theorem commandValve_frame (ch : Nat) (e : ValveEnd) (s : State) :
    (commandValve ch e s).store = s.store ∧ (commandValve ch e s).gauge = s.gauge ∧
      (commandValve ch e s).meter = s.meter ∧ (commandValve ch e s).engine = s.engine ∧
      (commandValve ch e s).limits = s.limits ∧ (commandValve ch e s).seq = s.seq ∧
      (commandValve ch e s).tracker = s.tracker ∧ (commandValve ch e s).console = s.console ∧
      (commandValve ch e s).records = s.records ∧ (commandValve ch e s).links = s.links ∧
      (commandValve ch e s).time = s.time ∧ (commandValve ch e s).inputs = s.inputs ∧
      (commandValve ch e s).pending = s.pending := by
  simp [commandValve]

@[simp] theorem dropAssignment_frame (before s : State) (ch : Nat) :
    (dropAssignment before s ch).store = s.store ∧ (dropAssignment before s ch).gauge = s.gauge ∧
      (dropAssignment before s ch).meter = s.meter ∧ (dropAssignment before s ch).engine = s.engine ∧
      (dropAssignment before s ch).limits = s.limits ∧ (dropAssignment before s ch).seq = s.seq ∧
      (dropAssignment before s ch).tracker = s.tracker ∧ (dropAssignment before s ch).console = s.console ∧
      (dropAssignment before s ch).records = s.records ∧ (dropAssignment before s ch).links = s.links ∧
      (dropAssignment before s ch).time = s.time ∧ (dropAssignment before s ch).inputs = s.inputs ∧
      (dropAssignment before s ch).pending = s.pending := by
  simp only [dropAssignment]; (repeat' split) <;> simp

@[simp] theorem dropAssignments_frame (before s : State) :
    (dropAssignments before s).store = s.store ∧ (dropAssignments before s).gauge = s.gauge ∧
      (dropAssignments before s).meter = s.meter ∧ (dropAssignments before s).engine = s.engine ∧
      (dropAssignments before s).limits = s.limits ∧ (dropAssignments before s).seq = s.seq ∧
      (dropAssignments before s).tracker = s.tracker ∧ (dropAssignments before s).console = s.console ∧
      (dropAssignments before s).records = s.records ∧ (dropAssignments before s).links = s.links ∧
      (dropAssignments before s).time = s.time ∧ (dropAssignments before s).inputs = s.inputs ∧
      (dropAssignments before s).pending = s.pending := by
  unfold dropAssignments
  refine ⟨(foldl_keep (fun s => s.store) _ (by simp) _ _).trans (by simp),
    (foldl_keep (fun s => s.gauge) _ (by simp) _ _).trans (by simp),
    (foldl_keep (fun s => s.meter) _ (by simp) _ _).trans (by simp),
    (foldl_keep (fun s => s.engine) _ (by simp) _ _).trans (by simp),
    (foldl_keep (fun s => s.limits) _ (by simp) _ _).trans (by simp),
    (foldl_keep (fun s => s.seq) _ (by simp) _ _).trans (by simp),
    (foldl_keep (fun s => s.tracker) _ (by simp) _ _).trans (by simp),
    (foldl_keep (fun s => s.console) _ (by simp) _ _).trans (by simp),
    (foldl_keep (fun s => s.records) _ (by simp) _ _).trans (by simp),
    (foldl_keep (fun s => s.links) _ (by simp) _ _).trans (by simp),
    (foldl_keep (fun s => s.time) _ (by simp) _ _).trans (by simp),
    (foldl_keep (fun s => s.inputs) _ (by simp) _ _).trans (by simp),
    (foldl_keep (fun s => s.pending) _ (by simp) _ _).trans (by simp)⟩

@[simp] theorem notify_frame (d : Driver) (f : Progress → Progress) (s : State) :
    (notify d f s).store = s.store ∧ (notify d f s).gauge = s.gauge ∧ (notify d f s).meter = s.meter ∧
      (notify d f s).engine = s.engine ∧ (notify d f s).limits = s.limits ∧ (notify d f s).xfer = s.xfer ∧
      (notify d f s).tracker = s.tracker ∧ (notify d f s).console = s.console ∧ (notify d f s).records = s.records ∧
      (notify d f s).links = s.links ∧ (notify d f s).time = s.time ∧ (notify d f s).inputs = s.inputs ∧
      (notify d f s).pending = s.pending := by
  simp [notify]

@[simp] theorem notify_fields (d : Driver) (f : Progress → Progress) (s : State) :
    (notify d f s).seq.active = s.seq.active ∧ (notify d f s).seq.standby = s.seq.standby ∧
      (notify d f s).seq.stage = s.seq.stage := by
  simp [notify]

@[simp] theorem changeGauge_frame (c : Nat) (f : GaugeRec → GaugeRec) (s : State) :
    (changeGauge c f s).store = s.store ∧ (changeGauge c f s).meter = s.meter ∧ (changeGauge c f s).engine = s.engine ∧
      (changeGauge c f s).limits = s.limits ∧ (changeGauge c f s).xfer = s.xfer ∧ (changeGauge c f s).seq = s.seq ∧
      (changeGauge c f s).tracker = s.tracker ∧ (changeGauge c f s).console = s.console ∧
      (changeGauge c f s).records = s.records ∧ (changeGauge c f s).links = s.links ∧
      (changeGauge c f s).time = s.time ∧ (changeGauge c f s).inputs = s.inputs ∧
      (changeGauge c f s).pending = s.pending := by
  simp only [changeGauge]; (repeat' split) <;> simp

@[simp] theorem changeGauge_fields (c : Nat) (f : GaugeRec → GaugeRec) (s : State) :
    (changeGauge c f s).gauge.currentMask = s.gauge.currentMask ∧
      (changeGauge c f s).gauge.nextMask = s.gauge.nextMask ∧ (changeGauge c f s).gauge.sweeping = s.gauge.sweeping ∧
      (changeGauge c f s).gauge.slot = s.gauge.slot ∧ (changeGauge c f s).gauge.poll = s.gauge.poll ∧
      (changeGauge c f s).gauge.countdown = s.gauge.countdown ∧ (changeGauge c f s).gauge.readings = s.gauge.readings ∧
      (changeGauge c f s).gauge.lastStamp = s.gauge.lastStamp ∧
      (changeGauge c f s).gauge.prevStamp = s.gauge.prevStamp ∧
      (changeGauge c f s).gauge.swept = s.gauge.swept := by
  simp only [changeGauge]; (repeat' split) <;> simp

@[simp] theorem startPump_frame (d : Driver) (p : Pump) (s : State) :
    (startPump d p s).store = s.store ∧ (startPump d p s).gauge = s.gauge ∧ (startPump d p s).engine = s.engine ∧
      (startPump d p s).limits = s.limits ∧ (startPump d p s).seq = s.seq ∧ (startPump d p s).tracker = s.tracker ∧
      (startPump d p s).console = s.console ∧ (startPump d p s).records = s.records ∧
      (startPump d p s).links = s.links ∧ (startPump d p s).time = s.time ∧ (startPump d p s).inputs = s.inputs ∧
      (startPump d p s).pending = s.pending := by
  simp [startPump]

@[simp] theorem goOn_frame (d : Driver) (s : State) :
    (goOn d s).store = s.store ∧ (goOn d s).gauge = s.gauge ∧ (goOn d s).engine = s.engine ∧
      (goOn d s).limits = s.limits ∧ (goOn d s).tracker = s.tracker ∧ (goOn d s).console = s.console ∧
      (goOn d s).records = s.records ∧ (goOn d s).links = s.links ∧ (goOn d s).time = s.time ∧
      (goOn d s).inputs = s.inputs ∧ (goOn d s).pending = s.pending := by
  simp only [goOn]; (repeat' split) <;> simp

@[simp] theorem goOn_fields (d : Driver) (s : State) :
    (goOn d s).seq.active = s.seq.active ∧ (goOn d s).seq.standby = s.seq.standby ∧
      (goOn d s).seq.stage = s.seq.stage := by
  simp only [goOn]; (repeat' split) <;> simp

@[simp] theorem startBase_frame (r : Start) (s : State) :
    (startBase r s).store = s.store ∧ (startBase r s).meter = s.meter ∧ (startBase r s).engine = s.engine ∧
      (startBase r s).limits = s.limits ∧ (startBase r s).xfer = s.xfer ∧ (startBase r s).seq = s.seq ∧
      (startBase r s).tracker = s.tracker ∧ (startBase r s).console = s.console ∧ (startBase r s).records = s.records ∧
      (startBase r s).links = s.links ∧ (startBase r s).time = s.time ∧ (startBase r s).inputs = s.inputs ∧
      (startBase r s).pending = s.pending := by
  simp only [startBase]; (repeat' split) <;> simp

@[simp] theorem startBase_fields (r : Start) (s : State) :
    (startBase r s).gauge.currentMask = s.gauge.currentMask ∧ (startBase r s).gauge.nextMask = s.gauge.nextMask ∧
      (startBase r s).gauge.sweeping = s.gauge.sweeping ∧ (startBase r s).gauge.slot = s.gauge.slot ∧
      (startBase r s).gauge.poll = s.gauge.poll ∧ (startBase r s).gauge.countdown = s.gauge.countdown ∧
      (startBase r s).gauge.readings = s.gauge.readings ∧ (startBase r s).gauge.lastStamp = s.gauge.lastStamp ∧
      (startBase r s).gauge.prevStamp = s.gauge.prevStamp ∧
      (startBase r s).gauge.swept = s.gauge.swept := by
  simp only [startBase]; (repeat' split) <;> simp

@[simp] theorem acceptStart_frame (owner : Owner) (step : Option Nat) (r : Start) (s : State) :
    (acceptStart owner step r s).store = s.store ∧ (acceptStart owner step r s).engine = s.engine ∧
      (acceptStart owner step r s).limits = s.limits ∧ (acceptStart owner step r s).tracker = s.tracker ∧
      (acceptStart owner step r s).console = s.console ∧ (acceptStart owner step r s).records = s.records ∧
      (acceptStart owner step r s).links = s.links ∧ (acceptStart owner step r s).time = s.time ∧
      (acceptStart owner step r s).inputs = s.inputs ∧ (acceptStart owner step r s).pending = s.pending := by
  simp [acceptStart]

@[simp] theorem acceptStart_fields (owner : Owner) (step : Option Nat) (r : Start) (s : State) :
    (acceptStart owner step r s).seq.active = s.seq.active ∧ (acceptStart owner step r s).seq.standby = s.seq.standby ∧
      (acceptStart owner step r s).seq.stage = s.seq.stage ∧
      (acceptStart owner step r s).gauge.currentMask = s.gauge.currentMask ∧
      (acceptStart owner step r s).gauge.nextMask = s.gauge.nextMask ∧
      (acceptStart owner step r s).gauge.sweeping = s.gauge.sweeping ∧
      (acceptStart owner step r s).gauge.slot = s.gauge.slot ∧ (acceptStart owner step r s).gauge.poll = s.gauge.poll ∧
      (acceptStart owner step r s).gauge.countdown = s.gauge.countdown ∧
      (acceptStart owner step r s).gauge.readings = s.gauge.readings ∧
      (acceptStart owner step r s).gauge.lastStamp = s.gauge.lastStamp ∧
      (acceptStart owner step r s).gauge.prevStamp = s.gauge.prevStamp ∧
      (acceptStart owner step r s).gauge.swept = s.gauge.swept := by
  simp [acceptStart]

@[simp] theorem closeRecord_frame (d : Driver) (s : State) :
    (closeRecord d s).store = s.store ∧ (closeRecord d s).gauge = s.gauge ∧ (closeRecord d s).meter = s.meter ∧
      (closeRecord d s).engine = s.engine ∧ (closeRecord d s).limits = s.limits ∧ (closeRecord d s).seq = s.seq ∧
      (closeRecord d s).tracker = s.tracker ∧ (closeRecord d s).console = s.console ∧
      (closeRecord d s).records = s.records ∧ (closeRecord d s).links = s.links ∧ (closeRecord d s).time = s.time ∧
      (closeRecord d s).inputs = s.inputs ∧ (closeRecord d s).pending = s.pending := by
  simp [closeRecord]

@[simp] theorem blendFill_frame (d : Driver) (s : State) :
    (blendFill d s).store = s.store ∧ (blendFill d s).meter = s.meter ∧ (blendFill d s).limits = s.limits ∧
      (blendFill d s).xfer = s.xfer ∧ (blendFill d s).seq = s.seq ∧ (blendFill d s).tracker = s.tracker ∧
      (blendFill d s).console = s.console ∧ (blendFill d s).records = s.records ∧ (blendFill d s).links = s.links ∧
      (blendFill d s).time = s.time ∧ (blendFill d s).inputs = s.inputs ∧ (blendFill d s).pending = s.pending := by
  simp only [blendFill]; (repeat' split) <;> simp

@[simp] theorem blendFill_fields (d : Driver) (s : State) :
    (blendFill d s).engine.published = s.engine.published ∧ (blendFill d s).engine.nextSeq = s.engine.nextSeq ∧
      (blendFill d s).engine.result = s.engine.result ∧ (blendFill d s).engine.lastKind = s.engine.lastKind ∧
      (blendFill d s).engine.fixed = s.engine.fixed ∧ (blendFill d s).gauge.currentMask = s.gauge.currentMask ∧
      (blendFill d s).gauge.nextMask = s.gauge.nextMask ∧ (blendFill d s).gauge.sweeping = s.gauge.sweeping ∧
      (blendFill d s).gauge.slot = s.gauge.slot ∧ (blendFill d s).gauge.poll = s.gauge.poll ∧
      (blendFill d s).gauge.countdown = s.gauge.countdown ∧ (blendFill d s).gauge.readings = s.gauge.readings ∧
      (blendFill d s).gauge.lastStamp = s.gauge.lastStamp ∧ (blendFill d s).gauge.prevStamp = s.gauge.prevStamp ∧
      (blendFill d s).gauge.swept = s.gauge.swept := by
  simp only [blendFill]; (repeat' split) <;> simp

@[simp] theorem enterLog_frame (c : LogEntry) (s : State) :
    (enterLog c s).store = s.store ∧ (enterLog c s).gauge = s.gauge ∧ (enterLog c s).meter = s.meter ∧
      (enterLog c s).engine = s.engine ∧ (enterLog c s).limits = s.limits ∧ (enterLog c s).xfer = s.xfer ∧
      (enterLog c s).seq = s.seq ∧ (enterLog c s).tracker = s.tracker ∧ (enterLog c s).console = s.console ∧
      (enterLog c s).links = s.links ∧ (enterLog c s).time = s.time ∧ (enterLog c s).inputs = s.inputs ∧
      (enterLog c s).pending = s.pending := by
  simp [enterLog]

@[simp] theorem logTransfer_frame (d : Driver) (s : State) :
    (logTransfer d s).store = s.store ∧ (logTransfer d s).gauge = s.gauge ∧ (logTransfer d s).meter = s.meter ∧
      (logTransfer d s).engine = s.engine ∧ (logTransfer d s).limits = s.limits ∧ (logTransfer d s).xfer = s.xfer ∧
      (logTransfer d s).seq = s.seq ∧ (logTransfer d s).tracker = s.tracker ∧ (logTransfer d s).console = s.console ∧
      (logTransfer d s).links = s.links ∧ (logTransfer d s).time = s.time ∧ (logTransfer d s).inputs = s.inputs ∧
      (logTransfer d s).pending = s.pending := by
  simp only [logTransfer]; (repeat' split) <;> simp

@[simp] theorem settleTank_frame (d : Driver) (s : State) :
    (settleTank d s).store = s.store ∧ (settleTank d s).meter = s.meter ∧ (settleTank d s).engine = s.engine ∧
      (settleTank d s).limits = s.limits ∧ (settleTank d s).xfer = s.xfer ∧ (settleTank d s).seq = s.seq ∧
      (settleTank d s).tracker = s.tracker ∧ (settleTank d s).console = s.console ∧
      (settleTank d s).records = s.records ∧ (settleTank d s).links = s.links ∧ (settleTank d s).time = s.time ∧
      (settleTank d s).inputs = s.inputs ∧ (settleTank d s).pending = s.pending := by
  simp [settleTank]

@[simp] theorem settleTank_fields (d : Driver) (s : State) :
    (settleTank d s).gauge.currentMask = s.gauge.currentMask ∧ (settleTank d s).gauge.nextMask = s.gauge.nextMask ∧
      (settleTank d s).gauge.sweeping = s.gauge.sweeping ∧ (settleTank d s).gauge.slot = s.gauge.slot ∧
      (settleTank d s).gauge.poll = s.gauge.poll ∧ (settleTank d s).gauge.countdown = s.gauge.countdown ∧
      (settleTank d s).gauge.readings = s.gauge.readings ∧ (settleTank d s).gauge.lastStamp = s.gauge.lastStamp ∧
      (settleTank d s).gauge.prevStamp = s.gauge.prevStamp ∧
      (settleTank d s).gauge.swept = s.gauge.swept := by
  simp [settleTank]

@[simp] theorem leaveClosing_frame (d : Driver) (s : State) :
    (leaveClosing d s).store = s.store ∧ (leaveClosing d s).gauge = s.gauge ∧ (leaveClosing d s).meter = s.meter ∧
      (leaveClosing d s).engine = s.engine ∧ (leaveClosing d s).limits = s.limits ∧ (leaveClosing d s).xfer = s.xfer ∧
      (leaveClosing d s).seq = s.seq ∧ (leaveClosing d s).tracker = s.tracker ∧
      (leaveClosing d s).records = s.records ∧ (leaveClosing d s).links = s.links ∧ (leaveClosing d s).time = s.time ∧
      (leaveClosing d s).inputs = s.inputs ∧ (leaveClosing d s).pending = s.pending := by
  simp [leaveClosing]

@[simp] theorem leaveClosing_fields (d : Driver) (s : State) :
    (leaveClosing d s).console.state = s.console.state ∧ (leaveClosing d s).console.grantLine = s.console.grantLine ∧
      (leaveClosing d s).console.grantStamp = s.console.grantStamp ∧
      (leaveClosing d s).console.releaseStamp = s.console.releaseStamp ∧
      (leaveClosing d s).console.snapshot = s.console.snapshot ∧ (leaveClosing d s).console.handed = s.console.handed ∧
      (leaveClosing d s).console.reached = s.console.reached := by
  simp [leaveClosing]

@[simp] theorem returnToIdle_frame (d : Driver) (s : State) :
    (returnToIdle d s).store = s.store ∧ (returnToIdle d s).limits = s.limits ∧
      (returnToIdle d s).tracker = s.tracker ∧ (returnToIdle d s).time = s.time ∧
      (returnToIdle d s).inputs = s.inputs ∧ (returnToIdle d s).pending = s.pending := by
  simp [returnToIdle]

@[simp] theorem returnToIdle_fields (d : Driver) (s : State) :
    (returnToIdle d s).links.ship = s.links.ship ∧ (returnToIdle d s).links.shore = s.links.shore ∧
      (returnToIdle d s).links.enables = s.links.enables ∧ (returnToIdle d s).links.rate = s.links.rate ∧
      (returnToIdle d s).seq.active = s.seq.active ∧ (returnToIdle d s).seq.standby = s.seq.standby ∧
      (returnToIdle d s).seq.stage = s.seq.stage ∧ (returnToIdle d s).engine.published = s.engine.published ∧
      (returnToIdle d s).engine.nextSeq = s.engine.nextSeq ∧ (returnToIdle d s).engine.result = s.engine.result ∧
      (returnToIdle d s).engine.lastKind = s.engine.lastKind ∧ (returnToIdle d s).engine.fixed = s.engine.fixed ∧
      (returnToIdle d s).gauge.currentMask = s.gauge.currentMask ∧
      (returnToIdle d s).gauge.nextMask = s.gauge.nextMask ∧ (returnToIdle d s).gauge.sweeping = s.gauge.sweeping ∧
      (returnToIdle d s).gauge.slot = s.gauge.slot ∧ (returnToIdle d s).gauge.poll = s.gauge.poll ∧
      (returnToIdle d s).gauge.countdown = s.gauge.countdown ∧ (returnToIdle d s).gauge.readings = s.gauge.readings ∧
      (returnToIdle d s).gauge.lastStamp = s.gauge.lastStamp ∧ (returnToIdle d s).gauge.prevStamp = s.gauge.prevStamp ∧
      (returnToIdle d s).gauge.swept = s.gauge.swept ∧
      (returnToIdle d s).console.state = s.console.state ∧ (returnToIdle d s).console.grantLine = s.console.grantLine ∧
      (returnToIdle d s).console.grantStamp = s.console.grantStamp ∧
      (returnToIdle d s).console.releaseStamp = s.console.releaseStamp ∧
      (returnToIdle d s).console.snapshot = s.console.snapshot ∧ (returnToIdle d s).console.handed = s.console.handed ∧
      (returnToIdle d s).console.reached = s.console.reached := by
  simp [returnToIdle]

@[simp] theorem tryIdle_frame (d : Driver) (s : State) :
    (tryIdle d s).store = s.store ∧ (tryIdle d s).limits = s.limits ∧ (tryIdle d s).tracker = s.tracker ∧
      (tryIdle d s).time = s.time ∧ (tryIdle d s).inputs = s.inputs ∧ (tryIdle d s).pending = s.pending := by
  simp only [tryIdle]; (repeat' split) <;> simp

@[simp] theorem tryIdle_fields (d : Driver) (s : State) :
    (tryIdle d s).links.ship = s.links.ship ∧ (tryIdle d s).links.shore = s.links.shore ∧
      (tryIdle d s).links.enables = s.links.enables ∧ (tryIdle d s).links.rate = s.links.rate ∧
      (tryIdle d s).seq.active = s.seq.active ∧ (tryIdle d s).seq.standby = s.seq.standby ∧
      (tryIdle d s).seq.stage = s.seq.stage ∧ (tryIdle d s).engine.published = s.engine.published ∧
      (tryIdle d s).engine.nextSeq = s.engine.nextSeq ∧ (tryIdle d s).engine.result = s.engine.result ∧
      (tryIdle d s).engine.lastKind = s.engine.lastKind ∧ (tryIdle d s).engine.fixed = s.engine.fixed ∧
      (tryIdle d s).gauge.currentMask = s.gauge.currentMask ∧ (tryIdle d s).gauge.nextMask = s.gauge.nextMask ∧
      (tryIdle d s).gauge.sweeping = s.gauge.sweeping ∧ (tryIdle d s).gauge.slot = s.gauge.slot ∧
      (tryIdle d s).gauge.poll = s.gauge.poll ∧ (tryIdle d s).gauge.countdown = s.gauge.countdown ∧
      (tryIdle d s).gauge.readings = s.gauge.readings ∧ (tryIdle d s).gauge.lastStamp = s.gauge.lastStamp ∧
      (tryIdle d s).gauge.prevStamp = s.gauge.prevStamp ∧
      (tryIdle d s).gauge.swept = s.gauge.swept ∧ (tryIdle d s).console.state = s.console.state ∧
      (tryIdle d s).console.grantLine = s.console.grantLine ∧ (tryIdle d s).console.grantStamp = s.console.grantStamp ∧
      (tryIdle d s).console.releaseStamp = s.console.releaseStamp ∧
      (tryIdle d s).console.snapshot = s.console.snapshot ∧ (tryIdle d s).console.handed = s.console.handed ∧
      (tryIdle d s).console.reached = s.console.reached := by
  simp only [tryIdle]; (repeat' split) <;> simp

@[simp] theorem stopPump_frame (p : Pump) (s : State) :
    (stopPump p s).store = s.store ∧ (stopPump p s).gauge = s.gauge ∧ (stopPump p s).engine = s.engine ∧
      (stopPump p s).limits = s.limits ∧ (stopPump p s).seq = s.seq ∧ (stopPump p s).tracker = s.tracker ∧
      (stopPump p s).console = s.console ∧ (stopPump p s).records = s.records ∧ (stopPump p s).links = s.links ∧
      (stopPump p s).time = s.time ∧ (stopPump p s).inputs = s.inputs ∧ (stopPump p s).pending = s.pending := by
  simp [stopPump]

@[simp] theorem stopDriver_frame (d : Driver) (s : State) :
    (stopDriver d s).store = s.store ∧ (stopDriver d s).gauge = s.gauge ∧ (stopDriver d s).engine = s.engine ∧
      (stopDriver d s).limits = s.limits ∧ (stopDriver d s).seq = s.seq ∧ (stopDriver d s).tracker = s.tracker ∧
      (stopDriver d s).console = s.console ∧ (stopDriver d s).records = s.records ∧ (stopDriver d s).links = s.links ∧
      (stopDriver d s).time = s.time ∧ (stopDriver d s).inputs = s.inputs ∧ (stopDriver d s).pending = s.pending := by
  simp only [stopDriver]; (repeat' split) <;> simp

@[simp] theorem endTransfer_frame (d : Driver) (reason : EndReason) (s : State) :
    (endTransfer d reason s).store = s.store ∧ (endTransfer d reason s).limits = s.limits ∧
      (endTransfer d reason s).tracker = s.tracker ∧ (endTransfer d reason s).time = s.time ∧
      (endTransfer d reason s).inputs = s.inputs ∧ (endTransfer d reason s).pending = s.pending := by
  simp [endTransfer]

@[simp] theorem endTransfer_fields (d : Driver) (reason : EndReason) (s : State) :
    (endTransfer d reason s).links.ship = s.links.ship ∧ (endTransfer d reason s).links.shore = s.links.shore ∧
      (endTransfer d reason s).links.enables = s.links.enables ∧ (endTransfer d reason s).links.rate = s.links.rate ∧
      (endTransfer d reason s).seq.active = s.seq.active ∧ (endTransfer d reason s).seq.standby = s.seq.standby ∧
      (endTransfer d reason s).seq.stage = s.seq.stage ∧
      (endTransfer d reason s).engine.published = s.engine.published ∧
      (endTransfer d reason s).engine.nextSeq = s.engine.nextSeq ∧
      (endTransfer d reason s).engine.result = s.engine.result ∧
      (endTransfer d reason s).engine.lastKind = s.engine.lastKind ∧
      (endTransfer d reason s).engine.fixed = s.engine.fixed ∧
      (endTransfer d reason s).gauge.currentMask = s.gauge.currentMask ∧
      (endTransfer d reason s).gauge.nextMask = s.gauge.nextMask ∧
      (endTransfer d reason s).gauge.sweeping = s.gauge.sweeping ∧ (endTransfer d reason s).gauge.slot = s.gauge.slot ∧
      (endTransfer d reason s).gauge.poll = s.gauge.poll ∧
      (endTransfer d reason s).gauge.countdown = s.gauge.countdown ∧
      (endTransfer d reason s).gauge.readings = s.gauge.readings ∧
      (endTransfer d reason s).gauge.lastStamp = s.gauge.lastStamp ∧
      (endTransfer d reason s).gauge.prevStamp = s.gauge.prevStamp ∧
      (endTransfer d reason s).gauge.swept = s.gauge.swept ∧
      (endTransfer d reason s).console.state = s.console.state ∧
      (endTransfer d reason s).console.grantLine = s.console.grantLine ∧
      (endTransfer d reason s).console.grantStamp = s.console.grantStamp ∧
      (endTransfer d reason s).console.releaseStamp = s.console.releaseStamp ∧
      (endTransfer d reason s).console.snapshot = s.console.snapshot ∧
      (endTransfer d reason s).console.handed = s.console.handed ∧
      (endTransfer d reason s).console.reached = s.console.reached := by
  simp [endTransfer]

@[simp] theorem endEvent_frame (d : Driver) (reason : EndReason) (s : State) :
    (endEvent d reason s).store = s.store ∧ (endEvent d reason s).limits = s.limits ∧
      (endEvent d reason s).tracker = s.tracker ∧ (endEvent d reason s).time = s.time ∧
      (endEvent d reason s).inputs = s.inputs ∧ (endEvent d reason s).pending = s.pending := by
  simp only [endEvent]; (repeat' split) <;> simp

@[simp] theorem endEvent_fields (d : Driver) (reason : EndReason) (s : State) :
    (endEvent d reason s).links.ship = s.links.ship ∧ (endEvent d reason s).links.shore = s.links.shore ∧
      (endEvent d reason s).links.enables = s.links.enables ∧ (endEvent d reason s).links.rate = s.links.rate ∧
      (endEvent d reason s).seq.active = s.seq.active ∧ (endEvent d reason s).seq.standby = s.seq.standby ∧
      (endEvent d reason s).seq.stage = s.seq.stage ∧ (endEvent d reason s).engine.published = s.engine.published ∧
      (endEvent d reason s).engine.nextSeq = s.engine.nextSeq ∧ (endEvent d reason s).engine.result = s.engine.result ∧
      (endEvent d reason s).engine.lastKind = s.engine.lastKind ∧ (endEvent d reason s).engine.fixed = s.engine.fixed ∧
      (endEvent d reason s).gauge.currentMask = s.gauge.currentMask ∧
      (endEvent d reason s).gauge.nextMask = s.gauge.nextMask ∧
      (endEvent d reason s).gauge.sweeping = s.gauge.sweeping ∧ (endEvent d reason s).gauge.slot = s.gauge.slot ∧
      (endEvent d reason s).gauge.poll = s.gauge.poll ∧ (endEvent d reason s).gauge.countdown = s.gauge.countdown ∧
      (endEvent d reason s).gauge.readings = s.gauge.readings ∧
      (endEvent d reason s).gauge.lastStamp = s.gauge.lastStamp ∧
      (endEvent d reason s).gauge.prevStamp = s.gauge.prevStamp ∧
      (endEvent d reason s).gauge.swept = s.gauge.swept ∧
      (endEvent d reason s).console.state = s.console.state ∧
      (endEvent d reason s).console.grantLine = s.console.grantLine ∧
      (endEvent d reason s).console.grantStamp = s.console.grantStamp ∧
      (endEvent d reason s).console.releaseStamp = s.console.releaseStamp ∧
      (endEvent d reason s).console.snapshot = s.console.snapshot ∧
      (endEvent d reason s).console.handed = s.console.handed ∧
      (endEvent d reason s).console.reached = s.console.reached := by
  simp only [endEvent]; (repeat' split) <;> simp

@[simp] theorem endEvents_frame (ds : List Driver) (reason : EndReason) (s : State) :
    (endEvents ds reason s).store = s.store ∧ (endEvents ds reason s).limits = s.limits ∧
      (endEvents ds reason s).tracker = s.tracker ∧ (endEvents ds reason s).time = s.time ∧
      (endEvents ds reason s).inputs = s.inputs ∧ (endEvents ds reason s).pending = s.pending := by
  unfold endEvents
  refine ⟨foldl_keep (fun s => s.store) _ (by simp) _ _,
    foldl_keep (fun s => s.limits) _ (by simp) _ _,
    foldl_keep (fun s => s.tracker) _ (by simp) _ _,
    foldl_keep (fun s => s.time) _ (by simp) _ _,
    foldl_keep (fun s => s.inputs) _ (by simp) _ _,
    foldl_keep (fun s => s.pending) _ (by simp) _ _⟩

@[simp] theorem endEvents_fields (ds : List Driver) (reason : EndReason) (s : State) :
    (endEvents ds reason s).links.ship = s.links.ship ∧ (endEvents ds reason s).links.shore = s.links.shore ∧
      (endEvents ds reason s).links.enables = s.links.enables ∧ (endEvents ds reason s).links.rate = s.links.rate ∧
      (endEvents ds reason s).seq.active = s.seq.active ∧ (endEvents ds reason s).seq.standby = s.seq.standby ∧
      (endEvents ds reason s).seq.stage = s.seq.stage ∧ (endEvents ds reason s).engine.published = s.engine.published ∧
      (endEvents ds reason s).engine.nextSeq = s.engine.nextSeq ∧
      (endEvents ds reason s).engine.result = s.engine.result ∧
      (endEvents ds reason s).engine.lastKind = s.engine.lastKind ∧
      (endEvents ds reason s).engine.fixed = s.engine.fixed ∧
      (endEvents ds reason s).gauge.currentMask = s.gauge.currentMask ∧
      (endEvents ds reason s).gauge.nextMask = s.gauge.nextMask ∧
      (endEvents ds reason s).gauge.sweeping = s.gauge.sweeping ∧ (endEvents ds reason s).gauge.slot = s.gauge.slot ∧
      (endEvents ds reason s).gauge.poll = s.gauge.poll ∧ (endEvents ds reason s).gauge.countdown = s.gauge.countdown ∧
      (endEvents ds reason s).gauge.readings = s.gauge.readings ∧
      (endEvents ds reason s).gauge.lastStamp = s.gauge.lastStamp ∧
      (endEvents ds reason s).gauge.prevStamp = s.gauge.prevStamp ∧
      (endEvents ds reason s).gauge.swept = s.gauge.swept ∧
      (endEvents ds reason s).console.state = s.console.state ∧
      (endEvents ds reason s).console.grantLine = s.console.grantLine ∧
      (endEvents ds reason s).console.grantStamp = s.console.grantStamp ∧
      (endEvents ds reason s).console.releaseStamp = s.console.releaseStamp ∧
      (endEvents ds reason s).console.snapshot = s.console.snapshot ∧
      (endEvents ds reason s).console.handed = s.console.handed ∧
      (endEvents ds reason s).console.reached = s.console.reached := by
  unfold endEvents
  refine ⟨foldl_keep (fun s => s.links.ship) _ (by simp) _ _,
    foldl_keep (fun s => s.links.shore) _ (by simp) _ _,
    foldl_keep (fun s => s.links.enables) _ (by simp) _ _,
    foldl_keep (fun s => s.links.rate) _ (by simp) _ _,
    foldl_keep (fun s => s.seq.active) _ (by simp) _ _,
    foldl_keep (fun s => s.seq.standby) _ (by simp) _ _,
    foldl_keep (fun s => s.seq.stage) _ (by simp) _ _,
    foldl_keep (fun s => s.engine.published) _ (by simp) _ _,
    foldl_keep (fun s => s.engine.nextSeq) _ (by simp) _ _,
    foldl_keep (fun s => s.engine.result) _ (by simp) _ _,
    foldl_keep (fun s => s.engine.lastKind) _ (by simp) _ _,
    foldl_keep (fun s => s.engine.fixed) _ (by simp) _ _,
    foldl_keep (fun s => s.gauge.currentMask) _ (by simp) _ _,
    foldl_keep (fun s => s.gauge.nextMask) _ (by simp) _ _,
    foldl_keep (fun s => s.gauge.sweeping) _ (by simp) _ _,
    foldl_keep (fun s => s.gauge.slot) _ (by simp) _ _,
    foldl_keep (fun s => s.gauge.poll) _ (by simp) _ _,
    foldl_keep (fun s => s.gauge.countdown) _ (by simp) _ _,
    foldl_keep (fun s => s.gauge.readings) _ (by simp) _ _,
    foldl_keep (fun s => s.gauge.lastStamp) _ (by simp) _ _,
    foldl_keep (fun s => s.gauge.prevStamp) _ (by simp) _ _,
    foldl_keep (fun s => s.gauge.swept) _ (by simp) _ _,
    foldl_keep (fun s => s.console.state) _ (by simp) _ _,
    foldl_keep (fun s => s.console.grantLine) _ (by simp) _ _,
    foldl_keep (fun s => s.console.grantStamp) _ (by simp) _ _,
    foldl_keep (fun s => s.console.releaseStamp) _ (by simp) _ _,
    foldl_keep (fun s => s.console.snapshot) _ (by simp) _ _,
    foldl_keep (fun s => s.console.handed) _ (by simp) _ _,
    foldl_keep (fun s => s.console.reached) _ (by simp) _ _⟩

@[simp] theorem valveArrives_frame (ch : Nat) (s : State) :
    (valveArrives ch s).store = s.store ∧ (valveArrives ch s).limits = s.limits ∧
      (valveArrives ch s).tracker = s.tracker ∧ (valveArrives ch s).time = s.time ∧
      (valveArrives ch s).inputs = s.inputs ∧ (valveArrives ch s).pending = s.pending := by
  simp only [valveArrives]; (repeat' split) <;> simp

@[simp] theorem valveArrives_fields (ch : Nat) (s : State) :
    (valveArrives ch s).links.ship = s.links.ship ∧ (valveArrives ch s).links.shore = s.links.shore ∧
      (valveArrives ch s).links.enables = s.links.enables ∧ (valveArrives ch s).links.rate = s.links.rate ∧
      (valveArrives ch s).seq.active = s.seq.active ∧ (valveArrives ch s).seq.standby = s.seq.standby ∧
      (valveArrives ch s).seq.stage = s.seq.stage ∧ (valveArrives ch s).engine.published = s.engine.published ∧
      (valveArrives ch s).engine.nextSeq = s.engine.nextSeq ∧ (valveArrives ch s).engine.result = s.engine.result ∧
      (valveArrives ch s).engine.lastKind = s.engine.lastKind ∧ (valveArrives ch s).engine.fixed = s.engine.fixed ∧
      (valveArrives ch s).gauge.currentMask = s.gauge.currentMask ∧
      (valveArrives ch s).gauge.nextMask = s.gauge.nextMask ∧ (valveArrives ch s).gauge.sweeping = s.gauge.sweeping ∧
      (valveArrives ch s).gauge.slot = s.gauge.slot ∧ (valveArrives ch s).gauge.poll = s.gauge.poll ∧
      (valveArrives ch s).gauge.countdown = s.gauge.countdown ∧ (valveArrives ch s).gauge.readings = s.gauge.readings ∧
      (valveArrives ch s).gauge.lastStamp = s.gauge.lastStamp ∧
      (valveArrives ch s).gauge.prevStamp = s.gauge.prevStamp ∧
      (valveArrives ch s).gauge.swept = s.gauge.swept ∧ (valveArrives ch s).console.state = s.console.state ∧
      (valveArrives ch s).console.grantLine = s.console.grantLine ∧
      (valveArrives ch s).console.grantStamp = s.console.grantStamp ∧
      (valveArrives ch s).console.releaseStamp = s.console.releaseStamp ∧
      (valveArrives ch s).console.snapshot = s.console.snapshot ∧
      (valveArrives ch s).console.handed = s.console.handed ∧
      (valveArrives ch s).console.reached = s.console.reached := by
  simp only [valveArrives]; (repeat' split) <;> simp

@[simp] theorem valveFails_frame (ch : Nat) (cause : ValveFault) (s : State) :
    (valveFails ch cause s).store = s.store ∧ (valveFails ch cause s).limits = s.limits ∧
      (valveFails ch cause s).tracker = s.tracker ∧ (valveFails ch cause s).time = s.time ∧
      (valveFails ch cause s).inputs = s.inputs ∧ (valveFails ch cause s).pending = s.pending := by
  simp only [valveFails]; (repeat' split) <;> simp

@[simp] theorem valveFails_fields (ch : Nat) (cause : ValveFault) (s : State) :
    (valveFails ch cause s).links.ship = s.links.ship ∧ (valveFails ch cause s).links.shore = s.links.shore ∧
      (valveFails ch cause s).links.enables = s.links.enables ∧ (valveFails ch cause s).links.rate = s.links.rate ∧
      (valveFails ch cause s).seq.active = s.seq.active ∧ (valveFails ch cause s).seq.standby = s.seq.standby ∧
      (valveFails ch cause s).seq.stage = s.seq.stage ∧ (valveFails ch cause s).engine.published = s.engine.published ∧
      (valveFails ch cause s).engine.nextSeq = s.engine.nextSeq ∧
      (valveFails ch cause s).engine.result = s.engine.result ∧
      (valveFails ch cause s).engine.lastKind = s.engine.lastKind ∧
      (valveFails ch cause s).engine.fixed = s.engine.fixed ∧
      (valveFails ch cause s).gauge.currentMask = s.gauge.currentMask ∧
      (valveFails ch cause s).gauge.nextMask = s.gauge.nextMask ∧
      (valveFails ch cause s).gauge.sweeping = s.gauge.sweeping ∧ (valveFails ch cause s).gauge.slot = s.gauge.slot ∧
      (valveFails ch cause s).gauge.poll = s.gauge.poll ∧ (valveFails ch cause s).gauge.countdown = s.gauge.countdown ∧
      (valveFails ch cause s).gauge.readings = s.gauge.readings ∧
      (valveFails ch cause s).gauge.lastStamp = s.gauge.lastStamp ∧
      (valveFails ch cause s).gauge.prevStamp = s.gauge.prevStamp ∧
      (valveFails ch cause s).gauge.swept = s.gauge.swept ∧
      (valveFails ch cause s).console.state = s.console.state ∧
      (valveFails ch cause s).console.grantLine = s.console.grantLine ∧
      (valveFails ch cause s).console.grantStamp = s.console.grantStamp ∧
      (valveFails ch cause s).console.releaseStamp = s.console.releaseStamp ∧
      (valveFails ch cause s).console.snapshot = s.console.snapshot ∧
      (valveFails ch cause s).console.handed = s.console.handed ∧
      (valveFails ch cause s).console.reached = s.console.reached := by
  simp only [valveFails]; (repeat' split) <;> simp

@[simp] theorem gainAssignment_frame (before s : State) (ch : Nat) :
    (gainAssignment before s ch).store = s.store ∧ (gainAssignment before s ch).limits = s.limits ∧
      (gainAssignment before s ch).tracker = s.tracker ∧ (gainAssignment before s ch).time = s.time ∧
      (gainAssignment before s ch).inputs = s.inputs ∧ (gainAssignment before s ch).pending = s.pending := by
  simp only [gainAssignment]; (repeat' split) <;> simp

@[simp] theorem gainAssignment_fields (before s : State) (ch : Nat) :
    (gainAssignment before s ch).links.ship = s.links.ship ∧ (gainAssignment before s ch).links.shore = s.links.shore ∧
      (gainAssignment before s ch).links.enables = s.links.enables ∧
      (gainAssignment before s ch).links.rate = s.links.rate ∧ (gainAssignment before s ch).seq.active = s.seq.active ∧
      (gainAssignment before s ch).seq.standby = s.seq.standby ∧ (gainAssignment before s ch).seq.stage = s.seq.stage ∧
      (gainAssignment before s ch).engine.published = s.engine.published ∧
      (gainAssignment before s ch).engine.nextSeq = s.engine.nextSeq ∧
      (gainAssignment before s ch).engine.result = s.engine.result ∧
      (gainAssignment before s ch).engine.lastKind = s.engine.lastKind ∧
      (gainAssignment before s ch).engine.fixed = s.engine.fixed ∧
      (gainAssignment before s ch).gauge.currentMask = s.gauge.currentMask ∧
      (gainAssignment before s ch).gauge.nextMask = s.gauge.nextMask ∧
      (gainAssignment before s ch).gauge.sweeping = s.gauge.sweeping ∧
      (gainAssignment before s ch).gauge.slot = s.gauge.slot ∧ (gainAssignment before s ch).gauge.poll = s.gauge.poll ∧
      (gainAssignment before s ch).gauge.countdown = s.gauge.countdown ∧
      (gainAssignment before s ch).gauge.readings = s.gauge.readings ∧
      (gainAssignment before s ch).gauge.lastStamp = s.gauge.lastStamp ∧
      (gainAssignment before s ch).gauge.prevStamp = s.gauge.prevStamp ∧
      (gainAssignment before s ch).gauge.swept = s.gauge.swept ∧
      (gainAssignment before s ch).console.state = s.console.state ∧
      (gainAssignment before s ch).console.grantLine = s.console.grantLine ∧
      (gainAssignment before s ch).console.grantStamp = s.console.grantStamp ∧
      (gainAssignment before s ch).console.releaseStamp = s.console.releaseStamp ∧
      (gainAssignment before s ch).console.snapshot = s.console.snapshot ∧
      (gainAssignment before s ch).console.handed = s.console.handed ∧
      (gainAssignment before s ch).console.reached = s.console.reached := by
  simp only [gainAssignment]; (repeat' split) <;> simp

@[simp] theorem settleAssignments_frame (before s : State) :
    (settleAssignments before s).store = s.store ∧ (settleAssignments before s).limits = s.limits ∧
      (settleAssignments before s).tracker = s.tracker ∧ (settleAssignments before s).time = s.time ∧
      (settleAssignments before s).inputs = s.inputs ∧ (settleAssignments before s).pending = s.pending := by
  unfold settleAssignments
  refine ⟨(foldl_keep (fun s => s.store) _ (by simp) _ _).trans (by simp),
    (foldl_keep (fun s => s.limits) _ (by simp) _ _).trans (by simp),
    (foldl_keep (fun s => s.tracker) _ (by simp) _ _).trans (by simp),
    (foldl_keep (fun s => s.time) _ (by simp) _ _).trans (by simp),
    (foldl_keep (fun s => s.inputs) _ (by simp) _ _).trans (by simp),
    (foldl_keep (fun s => s.pending) _ (by simp) _ _).trans (by simp)⟩

@[simp] theorem settleAssignments_fields (before s : State) :
    (settleAssignments before s).links.ship = s.links.ship ∧ (settleAssignments before s).links.shore = s.links.shore ∧
      (settleAssignments before s).links.enables = s.links.enables ∧
      (settleAssignments before s).links.rate = s.links.rate ∧ (settleAssignments before s).seq.active = s.seq.active ∧
      (settleAssignments before s).seq.standby = s.seq.standby ∧ (settleAssignments before s).seq.stage = s.seq.stage ∧
      (settleAssignments before s).engine.published = s.engine.published ∧
      (settleAssignments before s).engine.nextSeq = s.engine.nextSeq ∧
      (settleAssignments before s).engine.result = s.engine.result ∧
      (settleAssignments before s).engine.lastKind = s.engine.lastKind ∧
      (settleAssignments before s).engine.fixed = s.engine.fixed ∧
      (settleAssignments before s).gauge.currentMask = s.gauge.currentMask ∧
      (settleAssignments before s).gauge.nextMask = s.gauge.nextMask ∧
      (settleAssignments before s).gauge.sweeping = s.gauge.sweeping ∧
      (settleAssignments before s).gauge.slot = s.gauge.slot ∧ (settleAssignments before s).gauge.poll = s.gauge.poll ∧
      (settleAssignments before s).gauge.countdown = s.gauge.countdown ∧
      (settleAssignments before s).gauge.readings = s.gauge.readings ∧
      (settleAssignments before s).gauge.lastStamp = s.gauge.lastStamp ∧
      (settleAssignments before s).gauge.prevStamp = s.gauge.prevStamp ∧
      (settleAssignments before s).gauge.swept = s.gauge.swept ∧
      (settleAssignments before s).console.state = s.console.state ∧
      (settleAssignments before s).console.grantLine = s.console.grantLine ∧
      (settleAssignments before s).console.grantStamp = s.console.grantStamp ∧
      (settleAssignments before s).console.releaseStamp = s.console.releaseStamp ∧
      (settleAssignments before s).console.snapshot = s.console.snapshot ∧
      (settleAssignments before s).console.handed = s.console.handed ∧
      (settleAssignments before s).console.reached = s.console.reached := by
  unfold settleAssignments
  refine ⟨(foldl_keep (fun s => s.links.ship) _ (by simp) _ _).trans (by simp),
    (foldl_keep (fun s => s.links.shore) _ (by simp) _ _).trans (by simp),
    (foldl_keep (fun s => s.links.enables) _ (by simp) _ _).trans (by simp),
    (foldl_keep (fun s => s.links.rate) _ (by simp) _ _).trans (by simp),
    (foldl_keep (fun s => s.seq.active) _ (by simp) _ _).trans (by simp),
    (foldl_keep (fun s => s.seq.standby) _ (by simp) _ _).trans (by simp),
    (foldl_keep (fun s => s.seq.stage) _ (by simp) _ _).trans (by simp),
    (foldl_keep (fun s => s.engine.published) _ (by simp) _ _).trans (by simp),
    (foldl_keep (fun s => s.engine.nextSeq) _ (by simp) _ _).trans (by simp),
    (foldl_keep (fun s => s.engine.result) _ (by simp) _ _).trans (by simp),
    (foldl_keep (fun s => s.engine.lastKind) _ (by simp) _ _).trans (by simp),
    (foldl_keep (fun s => s.engine.fixed) _ (by simp) _ _).trans (by simp),
    (foldl_keep (fun s => s.gauge.currentMask) _ (by simp) _ _).trans (by simp),
    (foldl_keep (fun s => s.gauge.nextMask) _ (by simp) _ _).trans (by simp),
    (foldl_keep (fun s => s.gauge.sweeping) _ (by simp) _ _).trans (by simp),
    (foldl_keep (fun s => s.gauge.slot) _ (by simp) _ _).trans (by simp),
    (foldl_keep (fun s => s.gauge.poll) _ (by simp) _ _).trans (by simp),
    (foldl_keep (fun s => s.gauge.countdown) _ (by simp) _ _).trans (by simp),
    (foldl_keep (fun s => s.gauge.readings) _ (by simp) _ _).trans (by simp),
    (foldl_keep (fun s => s.gauge.lastStamp) _ (by simp) _ _).trans (by simp),
    (foldl_keep (fun s => s.gauge.prevStamp) _ (by simp) _ _).trans (by simp),
    (foldl_keep (fun s => s.gauge.swept) _ (by simp) _ _).trans (by simp),
    (foldl_keep (fun s => s.console.state) _ (by simp) _ _).trans (by simp),
    (foldl_keep (fun s => s.console.grantLine) _ (by simp) _ _).trans (by simp),
    (foldl_keep (fun s => s.console.grantStamp) _ (by simp) _ _).trans (by simp),
    (foldl_keep (fun s => s.console.releaseStamp) _ (by simp) _ _).trans (by simp),
    (foldl_keep (fun s => s.console.snapshot) _ (by simp) _ _).trans (by simp),
    (foldl_keep (fun s => s.console.handed) _ (by simp) _ _).trans (by simp),
    (foldl_keep (fun s => s.console.reached) _ (by simp) _ _).trans (by simp)⟩

@[simp] theorem judgeLimits_frame (before s : State) (ch : Nat) :
    (judgeLimits before s ch).store = s.store ∧ (judgeLimits before s ch).limits = s.limits ∧
      (judgeLimits before s ch).tracker = s.tracker ∧ (judgeLimits before s ch).time = s.time ∧
      (judgeLimits before s ch).inputs = s.inputs ∧ (judgeLimits before s ch).pending = s.pending := by
  simp only [judgeLimits]; (repeat' split) <;> simp

@[simp] theorem judgeLimits_fields (before s : State) (ch : Nat) :
    (judgeLimits before s ch).links.ship = s.links.ship ∧ (judgeLimits before s ch).links.shore = s.links.shore ∧
      (judgeLimits before s ch).links.enables = s.links.enables ∧ (judgeLimits before s ch).links.rate = s.links.rate ∧
      (judgeLimits before s ch).seq.active = s.seq.active ∧ (judgeLimits before s ch).seq.standby = s.seq.standby ∧
      (judgeLimits before s ch).seq.stage = s.seq.stage ∧
      (judgeLimits before s ch).engine.published = s.engine.published ∧
      (judgeLimits before s ch).engine.nextSeq = s.engine.nextSeq ∧
      (judgeLimits before s ch).engine.result = s.engine.result ∧
      (judgeLimits before s ch).engine.lastKind = s.engine.lastKind ∧
      (judgeLimits before s ch).engine.fixed = s.engine.fixed ∧
      (judgeLimits before s ch).gauge.currentMask = s.gauge.currentMask ∧
      (judgeLimits before s ch).gauge.nextMask = s.gauge.nextMask ∧
      (judgeLimits before s ch).gauge.sweeping = s.gauge.sweeping ∧
      (judgeLimits before s ch).gauge.slot = s.gauge.slot ∧ (judgeLimits before s ch).gauge.poll = s.gauge.poll ∧
      (judgeLimits before s ch).gauge.countdown = s.gauge.countdown ∧
      (judgeLimits before s ch).gauge.readings = s.gauge.readings ∧
      (judgeLimits before s ch).gauge.lastStamp = s.gauge.lastStamp ∧
      (judgeLimits before s ch).gauge.prevStamp = s.gauge.prevStamp ∧
      (judgeLimits before s ch).gauge.swept = s.gauge.swept ∧
      (judgeLimits before s ch).console.state = s.console.state ∧
      (judgeLimits before s ch).console.grantLine = s.console.grantLine ∧
      (judgeLimits before s ch).console.grantStamp = s.console.grantStamp ∧
      (judgeLimits before s ch).console.releaseStamp = s.console.releaseStamp ∧
      (judgeLimits before s ch).console.snapshot = s.console.snapshot ∧
      (judgeLimits before s ch).console.handed = s.console.handed ∧
      (judgeLimits before s ch).console.reached = s.console.reached := by
  simp only [judgeLimits]; (repeat' split) <;> simp

@[simp] theorem paceOne_frame (lag : Int) (s : State) (p : Pump) :
    (paceOne lag s p).store = s.store ∧ (paceOne lag s p).gauge = s.gauge ∧ (paceOne lag s p).meter = s.meter ∧
      (paceOne lag s p).engine = s.engine ∧ (paceOne lag s p).limits = s.limits ∧ (paceOne lag s p).seq = s.seq ∧
      (paceOne lag s p).tracker = s.tracker ∧ (paceOne lag s p).console = s.console ∧
      (paceOne lag s p).records = s.records ∧ (paceOne lag s p).links = s.links ∧ (paceOne lag s p).time = s.time ∧
      (paceOne lag s p).inputs = s.inputs ∧ (paceOne lag s p).pending = s.pending := by
  simp only [paceOne]; (repeat' split) <;> simp

@[simp] theorem takeLag_frame (lag : Int) (s : State) :
    (takeLag lag s).store = s.store ∧ (takeLag lag s).gauge = s.gauge ∧ (takeLag lag s).meter = s.meter ∧
      (takeLag lag s).engine = s.engine ∧ (takeLag lag s).limits = s.limits ∧ (takeLag lag s).seq = s.seq ∧
      (takeLag lag s).tracker = s.tracker ∧ (takeLag lag s).console = s.console ∧ (takeLag lag s).records = s.records ∧
      (takeLag lag s).links = s.links ∧ (takeLag lag s).time = s.time ∧ (takeLag lag s).inputs = s.inputs ∧
      (takeLag lag s).pending = s.pending := by
  unfold takeLag
  refine ⟨(foldl_keep (fun s => s.store) _ (by simp) _ _).trans (by simp),
    (foldl_keep (fun s => s.gauge) _ (by simp) _ _).trans (by simp),
    (foldl_keep (fun s => s.meter) _ (by simp) _ _).trans (by simp),
    (foldl_keep (fun s => s.engine) _ (by simp) _ _).trans (by simp),
    (foldl_keep (fun s => s.limits) _ (by simp) _ _).trans (by simp),
    (foldl_keep (fun s => s.seq) _ (by simp) _ _).trans (by simp),
    (foldl_keep (fun s => s.tracker) _ (by simp) _ _).trans (by simp),
    (foldl_keep (fun s => s.console) _ (by simp) _ _).trans (by simp),
    (foldl_keep (fun s => s.records) _ (by simp) _ _).trans (by simp),
    (foldl_keep (fun s => s.links) _ (by simp) _ _).trans (by simp),
    (foldl_keep (fun s => s.time) _ (by simp) _ _).trans (by simp),
    (foldl_keep (fun s => s.inputs) _ (by simp) _ _).trans (by simp),
    (foldl_keep (fun s => s.pending) _ (by simp) _ _).trans (by simp)⟩

@[simp] theorem headCheck_frame (s : State) (d : Driver) :
    (headCheck s d).store = s.store ∧ (headCheck s d).limits = s.limits ∧ (headCheck s d).tracker = s.tracker ∧
      (headCheck s d).time = s.time ∧ (headCheck s d).inputs = s.inputs ∧ (headCheck s d).pending = s.pending := by
  simp only [headCheck]; (repeat' split) <;> simp

@[simp] theorem headCheck_fields (s : State) (d : Driver) :
    (headCheck s d).links.ship = s.links.ship ∧ (headCheck s d).links.shore = s.links.shore ∧
      (headCheck s d).links.enables = s.links.enables ∧ (headCheck s d).links.rate = s.links.rate ∧
      (headCheck s d).seq.active = s.seq.active ∧ (headCheck s d).seq.standby = s.seq.standby ∧
      (headCheck s d).seq.stage = s.seq.stage ∧ (headCheck s d).engine.published = s.engine.published ∧
      (headCheck s d).engine.nextSeq = s.engine.nextSeq ∧ (headCheck s d).engine.result = s.engine.result ∧
      (headCheck s d).engine.lastKind = s.engine.lastKind ∧ (headCheck s d).engine.fixed = s.engine.fixed ∧
      (headCheck s d).gauge.currentMask = s.gauge.currentMask ∧ (headCheck s d).gauge.nextMask = s.gauge.nextMask ∧
      (headCheck s d).gauge.sweeping = s.gauge.sweeping ∧ (headCheck s d).gauge.slot = s.gauge.slot ∧
      (headCheck s d).gauge.poll = s.gauge.poll ∧ (headCheck s d).gauge.countdown = s.gauge.countdown ∧
      (headCheck s d).gauge.readings = s.gauge.readings ∧ (headCheck s d).gauge.lastStamp = s.gauge.lastStamp ∧
      (headCheck s d).gauge.prevStamp = s.gauge.prevStamp ∧
      (headCheck s d).gauge.swept = s.gauge.swept ∧ (headCheck s d).console.state = s.console.state ∧
      (headCheck s d).console.grantLine = s.console.grantLine ∧
      (headCheck s d).console.grantStamp = s.console.grantStamp ∧
      (headCheck s d).console.releaseStamp = s.console.releaseStamp ∧
      (headCheck s d).console.snapshot = s.console.snapshot ∧ (headCheck s d).console.handed = s.console.handed ∧
      (headCheck s d).console.reached = s.console.reached := by
  simp only [headCheck]; (repeat' split) <;> simp

@[simp] theorem headChecks_frame (s : State) :
    (headChecks s).store = s.store ∧ (headChecks s).limits = s.limits ∧ (headChecks s).tracker = s.tracker ∧
      (headChecks s).time = s.time ∧ (headChecks s).inputs = s.inputs ∧ (headChecks s).pending = s.pending := by
  unfold headChecks
  refine ⟨(foldl_keep (fun s => s.store) _ (by simp) _ _).trans (by simp),
    (foldl_keep (fun s => s.limits) _ (by simp) _ _).trans (by simp),
    (foldl_keep (fun s => s.tracker) _ (by simp) _ _).trans (by simp),
    (foldl_keep (fun s => s.time) _ (by simp) _ _).trans (by simp),
    (foldl_keep (fun s => s.inputs) _ (by simp) _ _).trans (by simp),
    (foldl_keep (fun s => s.pending) _ (by simp) _ _).trans (by simp)⟩

@[simp] theorem headChecks_fields (s : State) :
    (headChecks s).links.ship = s.links.ship ∧ (headChecks s).links.shore = s.links.shore ∧
      (headChecks s).links.enables = s.links.enables ∧ (headChecks s).links.rate = s.links.rate ∧
      (headChecks s).seq.active = s.seq.active ∧ (headChecks s).seq.standby = s.seq.standby ∧
      (headChecks s).seq.stage = s.seq.stage ∧ (headChecks s).engine.published = s.engine.published ∧
      (headChecks s).engine.nextSeq = s.engine.nextSeq ∧ (headChecks s).engine.result = s.engine.result ∧
      (headChecks s).engine.lastKind = s.engine.lastKind ∧ (headChecks s).engine.fixed = s.engine.fixed ∧
      (headChecks s).gauge.currentMask = s.gauge.currentMask ∧ (headChecks s).gauge.nextMask = s.gauge.nextMask ∧
      (headChecks s).gauge.sweeping = s.gauge.sweeping ∧ (headChecks s).gauge.slot = s.gauge.slot ∧
      (headChecks s).gauge.poll = s.gauge.poll ∧ (headChecks s).gauge.countdown = s.gauge.countdown ∧
      (headChecks s).gauge.readings = s.gauge.readings ∧ (headChecks s).gauge.lastStamp = s.gauge.lastStamp ∧
      (headChecks s).gauge.prevStamp = s.gauge.prevStamp ∧
      (headChecks s).gauge.swept = s.gauge.swept ∧ (headChecks s).console.state = s.console.state ∧
      (headChecks s).console.grantLine = s.console.grantLine ∧
      (headChecks s).console.grantStamp = s.console.grantStamp ∧
      (headChecks s).console.releaseStamp = s.console.releaseStamp ∧
      (headChecks s).console.snapshot = s.console.snapshot ∧ (headChecks s).console.handed = s.console.handed ∧
      (headChecks s).console.reached = s.console.reached := by
  unfold headChecks
  refine ⟨(foldl_keep (fun s => s.links.ship) _ (by simp) _ _).trans (by simp),
    (foldl_keep (fun s => s.links.shore) _ (by simp) _ _).trans (by simp),
    (foldl_keep (fun s => s.links.enables) _ (by simp) _ _).trans (by simp),
    (foldl_keep (fun s => s.links.rate) _ (by simp) _ _).trans (by simp),
    (foldl_keep (fun s => s.seq.active) _ (by simp) _ _).trans (by simp),
    (foldl_keep (fun s => s.seq.standby) _ (by simp) _ _).trans (by simp),
    (foldl_keep (fun s => s.seq.stage) _ (by simp) _ _).trans (by simp),
    (foldl_keep (fun s => s.engine.published) _ (by simp) _ _).trans (by simp),
    (foldl_keep (fun s => s.engine.nextSeq) _ (by simp) _ _).trans (by simp),
    (foldl_keep (fun s => s.engine.result) _ (by simp) _ _).trans (by simp),
    (foldl_keep (fun s => s.engine.lastKind) _ (by simp) _ _).trans (by simp),
    (foldl_keep (fun s => s.engine.fixed) _ (by simp) _ _).trans (by simp),
    (foldl_keep (fun s => s.gauge.currentMask) _ (by simp) _ _).trans (by simp),
    (foldl_keep (fun s => s.gauge.nextMask) _ (by simp) _ _).trans (by simp),
    (foldl_keep (fun s => s.gauge.sweeping) _ (by simp) _ _).trans (by simp),
    (foldl_keep (fun s => s.gauge.slot) _ (by simp) _ _).trans (by simp),
    (foldl_keep (fun s => s.gauge.poll) _ (by simp) _ _).trans (by simp),
    (foldl_keep (fun s => s.gauge.countdown) _ (by simp) _ _).trans (by simp),
    (foldl_keep (fun s => s.gauge.readings) _ (by simp) _ _).trans (by simp),
    (foldl_keep (fun s => s.gauge.lastStamp) _ (by simp) _ _).trans (by simp),
    (foldl_keep (fun s => s.gauge.prevStamp) _ (by simp) _ _).trans (by simp),
    (foldl_keep (fun s => s.gauge.swept) _ (by simp) _ _).trans (by simp),
    (foldl_keep (fun s => s.console.state) _ (by simp) _ _).trans (by simp),
    (foldl_keep (fun s => s.console.grantLine) _ (by simp) _ _).trans (by simp),
    (foldl_keep (fun s => s.console.grantStamp) _ (by simp) _ _).trans (by simp),
    (foldl_keep (fun s => s.console.releaseStamp) _ (by simp) _ _).trans (by simp),
    (foldl_keep (fun s => s.console.snapshot) _ (by simp) _ _).trans (by simp),
    (foldl_keep (fun s => s.console.handed) _ (by simp) _ _).trans (by simp),
    (foldl_keep (fun s => s.console.reached) _ (by simp) _ _).trans (by simp)⟩

@[simp] theorem targetUnderConsole_frame (d : Driver) (s : State) :
    (targetUnderConsole d s).store = s.store ∧ (targetUnderConsole d s).gauge = s.gauge ∧
      (targetUnderConsole d s).meter = s.meter ∧ (targetUnderConsole d s).engine = s.engine ∧
      (targetUnderConsole d s).limits = s.limits ∧ (targetUnderConsole d s).xfer = s.xfer ∧
      (targetUnderConsole d s).seq = s.seq ∧ (targetUnderConsole d s).tracker = s.tracker ∧
      (targetUnderConsole d s).records = s.records ∧ (targetUnderConsole d s).time = s.time ∧
      (targetUnderConsole d s).inputs = s.inputs ∧ (targetUnderConsole d s).pending = s.pending := by
  simp only [targetUnderConsole]; (repeat' split) <;> simp

@[simp] theorem targetUnderConsole_fields (d : Driver) (s : State) :
    (targetUnderConsole d s).links.ship = s.links.ship ∧ (targetUnderConsole d s).links.shore = s.links.shore ∧
      (targetUnderConsole d s).links.enables = s.links.enables ∧ (targetUnderConsole d s).links.rate = s.links.rate ∧
      (targetUnderConsole d s).console.state = s.console.state ∧
      (targetUnderConsole d s).console.grantLine = s.console.grantLine ∧
      (targetUnderConsole d s).console.grantStamp = s.console.grantStamp ∧
      (targetUnderConsole d s).console.releaseStamp = s.console.releaseStamp ∧
      (targetUnderConsole d s).console.snapshot = s.console.snapshot ∧
      (targetUnderConsole d s).console.handed = s.console.handed := by
  simp only [targetUnderConsole]; (repeat' split) <;> simp

@[simp] theorem sweepCheck_frame (s : State) (d : Driver) :
    (sweepCheck s d).store = s.store ∧ (sweepCheck s d).limits = s.limits ∧ (sweepCheck s d).tracker = s.tracker ∧
      (sweepCheck s d).time = s.time ∧ (sweepCheck s d).inputs = s.inputs ∧ (sweepCheck s d).pending = s.pending := by
  simp only [sweepCheck]; (repeat' split) <;> simp

@[simp] theorem sweepCheck_fields (s : State) (d : Driver) :
    (sweepCheck s d).links.ship = s.links.ship ∧ (sweepCheck s d).links.shore = s.links.shore ∧
      (sweepCheck s d).links.enables = s.links.enables ∧ (sweepCheck s d).links.rate = s.links.rate ∧
      (sweepCheck s d).seq.active = s.seq.active ∧ (sweepCheck s d).seq.standby = s.seq.standby ∧
      (sweepCheck s d).seq.stage = s.seq.stage ∧ (sweepCheck s d).engine.published = s.engine.published ∧
      (sweepCheck s d).engine.nextSeq = s.engine.nextSeq ∧ (sweepCheck s d).engine.result = s.engine.result ∧
      (sweepCheck s d).engine.lastKind = s.engine.lastKind ∧ (sweepCheck s d).engine.fixed = s.engine.fixed ∧
      (sweepCheck s d).gauge.currentMask = s.gauge.currentMask ∧ (sweepCheck s d).gauge.nextMask = s.gauge.nextMask ∧
      (sweepCheck s d).gauge.sweeping = s.gauge.sweeping ∧ (sweepCheck s d).gauge.slot = s.gauge.slot ∧
      (sweepCheck s d).gauge.poll = s.gauge.poll ∧ (sweepCheck s d).gauge.countdown = s.gauge.countdown ∧
      (sweepCheck s d).gauge.readings = s.gauge.readings ∧ (sweepCheck s d).gauge.lastStamp = s.gauge.lastStamp ∧
      (sweepCheck s d).gauge.prevStamp = s.gauge.prevStamp ∧
      (sweepCheck s d).gauge.swept = s.gauge.swept ∧ (sweepCheck s d).console.state = s.console.state ∧
      (sweepCheck s d).console.grantLine = s.console.grantLine ∧
      (sweepCheck s d).console.grantStamp = s.console.grantStamp ∧
      (sweepCheck s d).console.releaseStamp = s.console.releaseStamp ∧
      (sweepCheck s d).console.snapshot = s.console.snapshot ∧ (sweepCheck s d).console.handed = s.console.handed := by
  simp only [sweepCheck]; (repeat' split) <;> simp

@[simp] theorem sweepChecks_frame (s : State) :
    (sweepChecks s).store = s.store ∧ (sweepChecks s).limits = s.limits ∧ (sweepChecks s).tracker = s.tracker ∧
      (sweepChecks s).time = s.time ∧ (sweepChecks s).inputs = s.inputs ∧ (sweepChecks s).pending = s.pending := by
  unfold sweepChecks
  refine ⟨(foldl_keep (fun s => s.store) _ (by simp) _ _).trans (by simp),
    (foldl_keep (fun s => s.limits) _ (by simp) _ _).trans (by simp),
    (foldl_keep (fun s => s.tracker) _ (by simp) _ _).trans (by simp),
    (foldl_keep (fun s => s.time) _ (by simp) _ _).trans (by simp),
    (foldl_keep (fun s => s.inputs) _ (by simp) _ _).trans (by simp),
    (foldl_keep (fun s => s.pending) _ (by simp) _ _).trans (by simp)⟩

@[simp] theorem sweepChecks_fields (s : State) :
    (sweepChecks s).links.ship = s.links.ship ∧ (sweepChecks s).links.shore = s.links.shore ∧
      (sweepChecks s).links.enables = s.links.enables ∧ (sweepChecks s).links.rate = s.links.rate ∧
      (sweepChecks s).seq.active = s.seq.active ∧ (sweepChecks s).seq.standby = s.seq.standby ∧
      (sweepChecks s).seq.stage = s.seq.stage ∧ (sweepChecks s).engine.published = s.engine.published ∧
      (sweepChecks s).engine.nextSeq = s.engine.nextSeq ∧ (sweepChecks s).engine.result = s.engine.result ∧
      (sweepChecks s).engine.lastKind = s.engine.lastKind ∧ (sweepChecks s).engine.fixed = s.engine.fixed ∧
      (sweepChecks s).gauge.currentMask = s.gauge.currentMask ∧ (sweepChecks s).gauge.nextMask = s.gauge.nextMask ∧
      (sweepChecks s).gauge.sweeping = s.gauge.sweeping ∧ (sweepChecks s).gauge.slot = s.gauge.slot ∧
      (sweepChecks s).gauge.poll = s.gauge.poll ∧ (sweepChecks s).gauge.countdown = s.gauge.countdown ∧
      (sweepChecks s).gauge.readings = s.gauge.readings ∧ (sweepChecks s).gauge.lastStamp = s.gauge.lastStamp ∧
      (sweepChecks s).gauge.prevStamp = s.gauge.prevStamp ∧
      (sweepChecks s).gauge.swept = s.gauge.swept ∧ (sweepChecks s).console.state = s.console.state ∧
      (sweepChecks s).console.grantLine = s.console.grantLine ∧
      (sweepChecks s).console.grantStamp = s.console.grantStamp ∧
      (sweepChecks s).console.releaseStamp = s.console.releaseStamp ∧
      (sweepChecks s).console.snapshot = s.console.snapshot ∧ (sweepChecks s).console.handed = s.console.handed := by
  unfold sweepChecks
  refine ⟨(foldl_keep (fun s => s.links.ship) _ (by simp) _ _).trans (by simp),
    (foldl_keep (fun s => s.links.shore) _ (by simp) _ _).trans (by simp),
    (foldl_keep (fun s => s.links.enables) _ (by simp) _ _).trans (by simp),
    (foldl_keep (fun s => s.links.rate) _ (by simp) _ _).trans (by simp),
    (foldl_keep (fun s => s.seq.active) _ (by simp) _ _).trans (by simp),
    (foldl_keep (fun s => s.seq.standby) _ (by simp) _ _).trans (by simp),
    (foldl_keep (fun s => s.seq.stage) _ (by simp) _ _).trans (by simp),
    (foldl_keep (fun s => s.engine.published) _ (by simp) _ _).trans (by simp),
    (foldl_keep (fun s => s.engine.nextSeq) _ (by simp) _ _).trans (by simp),
    (foldl_keep (fun s => s.engine.result) _ (by simp) _ _).trans (by simp),
    (foldl_keep (fun s => s.engine.lastKind) _ (by simp) _ _).trans (by simp),
    (foldl_keep (fun s => s.engine.fixed) _ (by simp) _ _).trans (by simp),
    (foldl_keep (fun s => s.gauge.currentMask) _ (by simp) _ _).trans (by simp),
    (foldl_keep (fun s => s.gauge.nextMask) _ (by simp) _ _).trans (by simp),
    (foldl_keep (fun s => s.gauge.sweeping) _ (by simp) _ _).trans (by simp),
    (foldl_keep (fun s => s.gauge.slot) _ (by simp) _ _).trans (by simp),
    (foldl_keep (fun s => s.gauge.poll) _ (by simp) _ _).trans (by simp),
    (foldl_keep (fun s => s.gauge.countdown) _ (by simp) _ _).trans (by simp),
    (foldl_keep (fun s => s.gauge.readings) _ (by simp) _ _).trans (by simp),
    (foldl_keep (fun s => s.gauge.lastStamp) _ (by simp) _ _).trans (by simp),
    (foldl_keep (fun s => s.gauge.prevStamp) _ (by simp) _ _).trans (by simp),
    (foldl_keep (fun s => s.gauge.swept) _ (by simp) _ _).trans (by simp),
    (foldl_keep (fun s => s.console.state) _ (by simp) _ _).trans (by simp),
    (foldl_keep (fun s => s.console.grantLine) _ (by simp) _ _).trans (by simp),
    (foldl_keep (fun s => s.console.grantStamp) _ (by simp) _ _).trans (by simp),
    (foldl_keep (fun s => s.console.releaseStamp) _ (by simp) _ _).trans (by simp),
    (foldl_keep (fun s => s.console.snapshot) _ (by simp) _ _).trans (by simp),
    (foldl_keep (fun s => s.console.handed) _ (by simp) _ _).trans (by simp)⟩

/-! ## The Sequencer -/

@[simp] theorem completeSeq_frame (s : State) :
    (completeSeq s).store = s.store ∧ (completeSeq s).gauge = s.gauge ∧ (completeSeq s).meter = s.meter ∧
      (completeSeq s).engine = s.engine ∧ (completeSeq s).limits = s.limits ∧ (completeSeq s).xfer = s.xfer ∧
      (completeSeq s).tracker = s.tracker ∧ (completeSeq s).console = s.console ∧ (completeSeq s).records = s.records ∧
      (completeSeq s).time = s.time ∧ (completeSeq s).inputs = s.inputs ∧ (completeSeq s).pending = s.pending := by
  simp [completeSeq]

@[simp] theorem completeSeq_fields (s : State) :
    (completeSeq s).links.ship = s.links.ship ∧ (completeSeq s).links.shore = s.links.shore ∧
      (completeSeq s).links.enables = s.links.enables ∧ (completeSeq s).links.rate = s.links.rate ∧
      (completeSeq s).seq.active = s.seq.active ∧ (completeSeq s).seq.standby = s.seq.standby ∧
      (completeSeq s).seq.stage = s.seq.stage := by
  simp [completeSeq]

@[simp] theorem countPass_frame (s : State) :
    (countPass s).store = s.store ∧ (countPass s).gauge = s.gauge ∧ (countPass s).meter = s.meter ∧
      (countPass s).engine = s.engine ∧ (countPass s).limits = s.limits ∧ (countPass s).xfer = s.xfer ∧
      (countPass s).tracker = s.tracker ∧ (countPass s).console = s.console ∧ (countPass s).records = s.records ∧
      (countPass s).links = s.links ∧ (countPass s).time = s.time ∧ (countPass s).inputs = s.inputs ∧
      (countPass s).pending = s.pending := by
  simp [countPass]

@[simp] theorem countPass_fields (s : State) :
    (countPass s).seq.active = s.seq.active ∧ (countPass s).seq.standby = s.seq.standby ∧
      (countPass s).seq.stage = s.seq.stage := by
  simp [countPass]

@[simp] theorem endPass_frame (s : State) :
    (endPass s).1.store = s.store ∧ (endPass s).1.gauge = s.gauge ∧ (endPass s).1.meter = s.meter ∧
      (endPass s).1.engine = s.engine ∧ (endPass s).1.limits = s.limits ∧ (endPass s).1.xfer = s.xfer ∧
      (endPass s).1.tracker = s.tracker ∧ (endPass s).1.console = s.console ∧ (endPass s).1.records = s.records ∧
      (endPass s).1.time = s.time ∧ (endPass s).1.inputs = s.inputs ∧ (endPass s).1.pending = s.pending := by
  simp only [endPass]; (repeat' split) <;> simp

@[simp] theorem endPass_fields (s : State) :
    (endPass s).1.links.ship = s.links.ship ∧ (endPass s).1.links.shore = s.links.shore ∧
      (endPass s).1.links.enables = s.links.enables ∧ (endPass s).1.links.rate = s.links.rate ∧
      (endPass s).1.seq.active = s.seq.active ∧ (endPass s).1.seq.standby = s.seq.standby ∧
      (endPass s).1.seq.stage = s.seq.stage := by
  simp only [endPass]; (repeat' split) <;> simp

@[simp] theorem nextStep_frame (s : State) :
    (nextStep s).1.store = s.store ∧ (nextStep s).1.gauge = s.gauge ∧ (nextStep s).1.meter = s.meter ∧
      (nextStep s).1.engine = s.engine ∧ (nextStep s).1.limits = s.limits ∧ (nextStep s).1.xfer = s.xfer ∧
      (nextStep s).1.tracker = s.tracker ∧ (nextStep s).1.console = s.console ∧ (nextStep s).1.records = s.records ∧
      (nextStep s).1.time = s.time ∧ (nextStep s).1.inputs = s.inputs ∧ (nextStep s).1.pending = s.pending := by
  simp only [nextStep]; (repeat' split) <;> simp

@[simp] theorem nextStep_fields (s : State) :
    (nextStep s).1.links.ship = s.links.ship ∧ (nextStep s).1.links.shore = s.links.shore ∧
      (nextStep s).1.links.enables = s.links.enables ∧ (nextStep s).1.links.rate = s.links.rate ∧
      (nextStep s).1.seq.active = s.seq.active ∧ (nextStep s).1.seq.standby = s.seq.standby ∧
      (nextStep s).1.seq.stage = s.seq.stage := by
  simp only [nextStep]; (repeat' split) <;> simp

@[simp] theorem waitFor_frame (w : WaitReason) (s : State) :
    (waitFor w s).store = s.store ∧ (waitFor w s).gauge = s.gauge ∧ (waitFor w s).meter = s.meter ∧
      (waitFor w s).engine = s.engine ∧ (waitFor w s).limits = s.limits ∧ (waitFor w s).xfer = s.xfer ∧
      (waitFor w s).tracker = s.tracker ∧ (waitFor w s).console = s.console ∧ (waitFor w s).records = s.records ∧
      (waitFor w s).links = s.links ∧ (waitFor w s).time = s.time ∧ (waitFor w s).inputs = s.inputs ∧
      (waitFor w s).pending = s.pending := by
  simp [waitFor]

@[simp] theorem waitFor_fields (w : WaitReason) (s : State) :
    (waitFor w s).seq.active = s.seq.active ∧ (waitFor w s).seq.standby = s.seq.standby ∧
      (waitFor w s).seq.stage = s.seq.stage := by
  simp [waitFor]

@[simp] theorem judgeLeaving_frame (await : Bool) (p : Progress) (s : State) :
    (judgeLeaving await p s).1.store = s.store ∧ (judgeLeaving await p s).1.gauge = s.gauge ∧
      (judgeLeaving await p s).1.meter = s.meter ∧ (judgeLeaving await p s).1.engine = s.engine ∧
      (judgeLeaving await p s).1.limits = s.limits ∧ (judgeLeaving await p s).1.xfer = s.xfer ∧
      (judgeLeaving await p s).1.tracker = s.tracker ∧ (judgeLeaving await p s).1.console = s.console ∧
      (judgeLeaving await p s).1.records = s.records ∧ (judgeLeaving await p s).1.time = s.time ∧
      (judgeLeaving await p s).1.inputs = s.inputs ∧ (judgeLeaving await p s).1.pending = s.pending := by
  simp only [judgeLeaving]; (repeat' split) <;> simp

@[simp] theorem judgeLeaving_fields (await : Bool) (p : Progress) (s : State) :
    (judgeLeaving await p s).1.links.ship = s.links.ship ∧ (judgeLeaving await p s).1.links.shore = s.links.shore ∧
      (judgeLeaving await p s).1.links.enables = s.links.enables ∧
      (judgeLeaving await p s).1.links.rate = s.links.rate ∧ (judgeLeaving await p s).1.seq.active = s.seq.active ∧
      (judgeLeaving await p s).1.seq.standby = s.seq.standby ∧ (judgeLeaving await p s).1.seq.stage = s.seq.stage := by
  simp only [judgeLeaving]; (repeat' split) <;> simp

@[simp] theorem present_frame (r : StartReq) (await : Bool) (s : State) :
    (present r await s).1.store = s.store ∧ (present r await s).1.engine = s.engine ∧
      (present r await s).1.limits = s.limits ∧ (present r await s).1.tracker = s.tracker ∧
      (present r await s).1.console = s.console ∧ (present r await s).1.records = s.records ∧
      (present r await s).1.time = s.time ∧ (present r await s).1.inputs = s.inputs ∧
      (present r await s).1.pending = s.pending := by
  simp only [present]; (repeat' split) <;> simp

@[simp] theorem present_fields (r : StartReq) (await : Bool) (s : State) :
    (present r await s).1.links.ship = s.links.ship ∧ (present r await s).1.links.shore = s.links.shore ∧
      (present r await s).1.links.enables = s.links.enables ∧ (present r await s).1.links.rate = s.links.rate ∧
      (present r await s).1.seq.active = s.seq.active ∧ (present r await s).1.seq.standby = s.seq.standby ∧
      (present r await s).1.seq.stage = s.seq.stage ∧ (present r await s).1.gauge.currentMask = s.gauge.currentMask ∧
      (present r await s).1.gauge.nextMask = s.gauge.nextMask ∧
      (present r await s).1.gauge.sweeping = s.gauge.sweeping ∧ (present r await s).1.gauge.slot = s.gauge.slot ∧
      (present r await s).1.gauge.poll = s.gauge.poll ∧ (present r await s).1.gauge.countdown = s.gauge.countdown ∧
      (present r await s).1.gauge.readings = s.gauge.readings ∧
      (present r await s).1.gauge.lastStamp = s.gauge.lastStamp ∧
      (present r await s).1.gauge.prevStamp = s.gauge.prevStamp ∧
      (present r await s).1.gauge.swept = s.gauge.swept := by
  simp only [present]; (repeat' split) <;> simp

@[simp] theorem setStage_frame (v : Nat) (s : State) :
    (setStage v s).store = s.store ∧ (setStage v s).gauge = s.gauge ∧ (setStage v s).meter = s.meter ∧
      (setStage v s).engine = s.engine ∧ (setStage v s).limits = s.limits ∧ (setStage v s).xfer = s.xfer ∧
      (setStage v s).console = s.console ∧ (setStage v s).records = s.records ∧ (setStage v s).time = s.time ∧
      (setStage v s).inputs = s.inputs ∧ (setStage v s).pending = s.pending := by
  simp [setStage]

@[simp] theorem setStage_fields (v : Nat) (s : State) :
    (setStage v s).links.ship = s.links.ship ∧ (setStage v s).links.shore = s.links.shore ∧
      (setStage v s).links.enables = s.links.enables ∧ (setStage v s).links.rate = s.links.rate ∧
      (setStage v s).seq.active = s.seq.active ∧ (setStage v s).seq.standby = s.seq.standby ∧
      (setStage v s).tracker.op = s.tracker.op ∧ (setStage v s).tracker.opbgStamp = s.tracker.opbgStamp ∧
      (setStage v s).tracker.opndStamp = s.tracker.opndStamp ∧ (setStage v s).tracker.density = s.tracker.density ∧
      (setStage v s).tracker.active = s.tracker.active ∧ (setStage v s).tracker.standby = s.tracker.standby ∧
      (setStage v s).tracker.pos = s.tracker.pos ∧ (setStage v s).tracker.gen = s.tracker.gen ∧
      (setStage v s).tracker.exchange = s.tracker.exchange ∧ (setStage v s).tracker.prevRob = s.tracker.prevRob ∧
      (setStage v s).tracker.lag = s.tracker.lag ∧ (setStage v s).tracker.lagBefore = s.tracker.lagBefore ∧
      (setStage v s).tracker.standing = s.tracker.standing ∧ (setStage v s).tracker.holds = s.tracker.holds ∧
      (setStage v s).tracker.corrections = s.tracker.corrections ∧ (setStage v s).tracker.history = s.tracker.history ∧
      (setStage v s).tracker.ended = s.tracker.ended := by
  simp [setStage]

@[simp] theorem stopStep_frame (code : Nat) (s : State) :
    (stopStep code s).store = s.store ∧ (stopStep code s).limits = s.limits ∧ (stopStep code s).tracker = s.tracker ∧
      (stopStep code s).time = s.time ∧ (stopStep code s).inputs = s.inputs ∧
      (stopStep code s).pending = s.pending := by
  simp only [stopStep]; (repeat' split) <;> simp

@[simp] theorem stopStep_fields (code : Nat) (s : State) :
    (stopStep code s).links.ship = s.links.ship ∧ (stopStep code s).links.shore = s.links.shore ∧
      (stopStep code s).links.enables = s.links.enables ∧ (stopStep code s).links.rate = s.links.rate ∧
      (stopStep code s).seq.active = s.seq.active ∧ (stopStep code s).seq.standby = s.seq.standby ∧
      (stopStep code s).seq.stage = s.seq.stage ∧ (stopStep code s).engine.published = s.engine.published ∧
      (stopStep code s).engine.nextSeq = s.engine.nextSeq ∧ (stopStep code s).engine.result = s.engine.result ∧
      (stopStep code s).engine.lastKind = s.engine.lastKind ∧ (stopStep code s).engine.fixed = s.engine.fixed ∧
      (stopStep code s).gauge.currentMask = s.gauge.currentMask ∧ (stopStep code s).gauge.nextMask = s.gauge.nextMask ∧
      (stopStep code s).gauge.sweeping = s.gauge.sweeping ∧ (stopStep code s).gauge.slot = s.gauge.slot ∧
      (stopStep code s).gauge.poll = s.gauge.poll ∧ (stopStep code s).gauge.countdown = s.gauge.countdown ∧
      (stopStep code s).gauge.readings = s.gauge.readings ∧ (stopStep code s).gauge.lastStamp = s.gauge.lastStamp ∧
      (stopStep code s).gauge.prevStamp = s.gauge.prevStamp ∧
      (stopStep code s).gauge.swept = s.gauge.swept := by
  simp only [stopStep]; (repeat' split) <;> simp

@[simp] theorem endStep_frame (s : State) :
    (endStep s).store = s.store ∧ (endStep s).gauge = s.gauge ∧ (endStep s).meter = s.meter ∧
      (endStep s).engine = s.engine ∧ (endStep s).limits = s.limits ∧ (endStep s).xfer = s.xfer ∧
      (endStep s).tracker = s.tracker ∧ (endStep s).console = s.console ∧ (endStep s).records = s.records ∧
      (endStep s).time = s.time ∧ (endStep s).inputs = s.inputs ∧ (endStep s).pending = s.pending := by
  simp [endStep]

@[simp] theorem endStep_fields (s : State) :
    (endStep s).links.ship = s.links.ship ∧ (endStep s).links.shore = s.links.shore ∧
      (endStep s).links.enables = s.links.enables ∧ (endStep s).links.rate = s.links.rate ∧
      (endStep s).seq.active = s.seq.active ∧ (endStep s).seq.standby = s.seq.standby ∧
      (endStep s).seq.stage = s.seq.stage := by
  simp [endStep]

@[simp] theorem takeStep_frame (s : State) :
    (takeStep s).1.store = s.store ∧ (takeStep s).1.limits = s.limits ∧ (takeStep s).1.time = s.time ∧
      (takeStep s).1.inputs = s.inputs ∧ (takeStep s).1.pending = s.pending := by
  simp only [takeStep]; (repeat' split) <;> simp

@[simp] theorem takeStep_fields (s : State) :
    (takeStep s).1.links.ship = s.links.ship ∧ (takeStep s).1.links.shore = s.links.shore ∧
      (takeStep s).1.links.enables = s.links.enables ∧ (takeStep s).1.links.rate = s.links.rate ∧
      (takeStep s).1.seq.active = s.seq.active ∧ (takeStep s).1.seq.standby = s.seq.standby ∧
      (takeStep s).1.tracker.op = s.tracker.op ∧ (takeStep s).1.tracker.opbgStamp = s.tracker.opbgStamp ∧
      (takeStep s).1.tracker.opndStamp = s.tracker.opndStamp ∧ (takeStep s).1.tracker.density = s.tracker.density ∧
      (takeStep s).1.tracker.active = s.tracker.active ∧ (takeStep s).1.tracker.standby = s.tracker.standby ∧
      (takeStep s).1.tracker.pos = s.tracker.pos ∧ (takeStep s).1.tracker.gen = s.tracker.gen ∧
      (takeStep s).1.tracker.exchange = s.tracker.exchange ∧ (takeStep s).1.tracker.prevRob = s.tracker.prevRob ∧
      (takeStep s).1.tracker.lag = s.tracker.lag ∧ (takeStep s).1.tracker.lagBefore = s.tracker.lagBefore ∧
      (takeStep s).1.tracker.standing = s.tracker.standing ∧ (takeStep s).1.tracker.holds = s.tracker.holds ∧
      (takeStep s).1.tracker.corrections = s.tracker.corrections ∧ (takeStep s).1.tracker.history = s.tracker.history ∧
      (takeStep s).1.tracker.ended = s.tracker.ended ∧ (takeStep s).1.engine.published = s.engine.published ∧
      (takeStep s).1.engine.nextSeq = s.engine.nextSeq ∧ (takeStep s).1.engine.result = s.engine.result ∧
      (takeStep s).1.engine.lastKind = s.engine.lastKind ∧ (takeStep s).1.engine.fixed = s.engine.fixed ∧
      (takeStep s).1.gauge.currentMask = s.gauge.currentMask ∧ (takeStep s).1.gauge.nextMask = s.gauge.nextMask ∧
      (takeStep s).1.gauge.sweeping = s.gauge.sweeping ∧ (takeStep s).1.gauge.slot = s.gauge.slot ∧
      (takeStep s).1.gauge.poll = s.gauge.poll ∧ (takeStep s).1.gauge.countdown = s.gauge.countdown ∧
      (takeStep s).1.gauge.readings = s.gauge.readings ∧ (takeStep s).1.gauge.lastStamp = s.gauge.lastStamp ∧
      (takeStep s).1.gauge.prevStamp = s.gauge.prevStamp ∧
      (takeStep s).1.gauge.swept = s.gauge.swept := by
  simp only [takeStep]; (repeat' split) <;> simp

@[simp] theorem walkSteps_frame (n : Nat) (s : State) :
    (walkSteps n s).store = s.store ∧ (walkSteps n s).limits = s.limits ∧ (walkSteps n s).time = s.time ∧
      (walkSteps n s).inputs = s.inputs ∧ (walkSteps n s).pending = s.pending := by
  induction n generalizing s with
  | zero => simp [walkSteps]
  | succ n ih =>
    have ht := takeStep_frame s
    unfold walkSteps
    split <;> rename_i s1 h <;> rw [h] at ht <;> simp_all

@[simp] theorem walkSteps_fields (n : Nat) (s : State) :
    (walkSteps n s).links.ship = s.links.ship ∧ (walkSteps n s).links.shore = s.links.shore ∧
      (walkSteps n s).links.enables = s.links.enables ∧ (walkSteps n s).links.rate = s.links.rate ∧
      (walkSteps n s).seq.active = s.seq.active ∧ (walkSteps n s).seq.standby = s.seq.standby ∧
      (walkSteps n s).tracker.op = s.tracker.op ∧ (walkSteps n s).tracker.opbgStamp = s.tracker.opbgStamp ∧
      (walkSteps n s).tracker.opndStamp = s.tracker.opndStamp ∧ (walkSteps n s).tracker.density = s.tracker.density ∧
      (walkSteps n s).tracker.active = s.tracker.active ∧ (walkSteps n s).tracker.standby = s.tracker.standby ∧
      (walkSteps n s).tracker.pos = s.tracker.pos ∧ (walkSteps n s).tracker.gen = s.tracker.gen ∧
      (walkSteps n s).tracker.exchange = s.tracker.exchange ∧ (walkSteps n s).tracker.prevRob = s.tracker.prevRob ∧
      (walkSteps n s).tracker.lag = s.tracker.lag ∧ (walkSteps n s).tracker.lagBefore = s.tracker.lagBefore ∧
      (walkSteps n s).tracker.standing = s.tracker.standing ∧ (walkSteps n s).tracker.holds = s.tracker.holds ∧
      (walkSteps n s).tracker.corrections = s.tracker.corrections ∧
      (walkSteps n s).tracker.history = s.tracker.history ∧ (walkSteps n s).tracker.ended = s.tracker.ended ∧
      (walkSteps n s).engine.published = s.engine.published ∧ (walkSteps n s).engine.nextSeq = s.engine.nextSeq ∧
      (walkSteps n s).engine.result = s.engine.result ∧ (walkSteps n s).engine.lastKind = s.engine.lastKind ∧
      (walkSteps n s).engine.fixed = s.engine.fixed ∧ (walkSteps n s).gauge.currentMask = s.gauge.currentMask ∧
      (walkSteps n s).gauge.nextMask = s.gauge.nextMask ∧ (walkSteps n s).gauge.sweeping = s.gauge.sweeping ∧
      (walkSteps n s).gauge.slot = s.gauge.slot ∧ (walkSteps n s).gauge.poll = s.gauge.poll ∧
      (walkSteps n s).gauge.countdown = s.gauge.countdown ∧ (walkSteps n s).gauge.readings = s.gauge.readings ∧
      (walkSteps n s).gauge.lastStamp = s.gauge.lastStamp ∧ (walkSteps n s).gauge.prevStamp = s.gauge.prevStamp ∧
      (walkSteps n s).gauge.swept = s.gauge.swept := by
  induction n generalizing s with
  | zero => simp [walkSteps]
  | succ n ih =>
    have ht := takeStep_fields s
    unfold walkSteps
    split <;> rename_i s1 h <;> rw [h] at ht <;> simp_all

@[simp] theorem walk_frame (s : State) :
    (walk s).store = s.store ∧ (walk s).limits = s.limits ∧ (walk s).time = s.time ∧ (walk s).inputs = s.inputs ∧
      (walk s).pending = s.pending := by
  simp [walk]

@[simp] theorem walk_fields (s : State) :
    (walk s).links.ship = s.links.ship ∧ (walk s).links.shore = s.links.shore ∧
      (walk s).links.enables = s.links.enables ∧ (walk s).links.rate = s.links.rate ∧
      (walk s).seq.active = s.seq.active ∧ (walk s).seq.standby = s.seq.standby ∧ (walk s).tracker.op = s.tracker.op ∧
      (walk s).tracker.opbgStamp = s.tracker.opbgStamp ∧ (walk s).tracker.opndStamp = s.tracker.opndStamp ∧
      (walk s).tracker.density = s.tracker.density ∧ (walk s).tracker.active = s.tracker.active ∧
      (walk s).tracker.standby = s.tracker.standby ∧ (walk s).tracker.pos = s.tracker.pos ∧
      (walk s).tracker.gen = s.tracker.gen ∧ (walk s).tracker.exchange = s.tracker.exchange ∧
      (walk s).tracker.prevRob = s.tracker.prevRob ∧ (walk s).tracker.lag = s.tracker.lag ∧
      (walk s).tracker.lagBefore = s.tracker.lagBefore ∧ (walk s).tracker.standing = s.tracker.standing ∧
      (walk s).tracker.holds = s.tracker.holds ∧ (walk s).tracker.corrections = s.tracker.corrections ∧
      (walk s).tracker.history = s.tracker.history ∧ (walk s).tracker.ended = s.tracker.ended ∧
      (walk s).engine.published = s.engine.published ∧ (walk s).engine.nextSeq = s.engine.nextSeq ∧
      (walk s).engine.result = s.engine.result ∧ (walk s).engine.lastKind = s.engine.lastKind ∧
      (walk s).engine.fixed = s.engine.fixed ∧ (walk s).gauge.currentMask = s.gauge.currentMask ∧
      (walk s).gauge.nextMask = s.gauge.nextMask ∧ (walk s).gauge.sweeping = s.gauge.sweeping ∧
      (walk s).gauge.slot = s.gauge.slot ∧ (walk s).gauge.poll = s.gauge.poll ∧
      (walk s).gauge.countdown = s.gauge.countdown ∧ (walk s).gauge.readings = s.gauge.readings ∧
      (walk s).gauge.lastStamp = s.gauge.lastStamp ∧ (walk s).gauge.prevStamp = s.gauge.prevStamp ∧
      (walk s).gauge.swept = s.gauge.swept := by
  simp [walk]

@[simp] theorem moveOn_frame (s : State) :
    (moveOn s).store = s.store ∧ (moveOn s).limits = s.limits ∧ (moveOn s).time = s.time ∧
      (moveOn s).inputs = s.inputs ∧ (moveOn s).pending = s.pending := by
  unfold moveOn Walked.goOn; split <;> simp

@[simp] theorem moveOn_fields (s : State) :
    (moveOn s).links.ship = s.links.ship ∧ (moveOn s).links.shore = s.links.shore ∧
      (moveOn s).links.enables = s.links.enables ∧ (moveOn s).links.rate = s.links.rate ∧
      (moveOn s).seq.active = s.seq.active ∧ (moveOn s).seq.standby = s.seq.standby ∧
      (moveOn s).tracker.op = s.tracker.op ∧ (moveOn s).tracker.opbgStamp = s.tracker.opbgStamp ∧
      (moveOn s).tracker.opndStamp = s.tracker.opndStamp ∧ (moveOn s).tracker.density = s.tracker.density ∧
      (moveOn s).tracker.active = s.tracker.active ∧ (moveOn s).tracker.standby = s.tracker.standby ∧
      (moveOn s).tracker.pos = s.tracker.pos ∧ (moveOn s).tracker.gen = s.tracker.gen ∧
      (moveOn s).tracker.exchange = s.tracker.exchange ∧ (moveOn s).tracker.prevRob = s.tracker.prevRob ∧
      (moveOn s).tracker.lag = s.tracker.lag ∧ (moveOn s).tracker.lagBefore = s.tracker.lagBefore ∧
      (moveOn s).tracker.standing = s.tracker.standing ∧ (moveOn s).tracker.holds = s.tracker.holds ∧
      (moveOn s).tracker.corrections = s.tracker.corrections ∧ (moveOn s).tracker.history = s.tracker.history ∧
      (moveOn s).tracker.ended = s.tracker.ended ∧ (moveOn s).engine.published = s.engine.published ∧
      (moveOn s).engine.nextSeq = s.engine.nextSeq ∧ (moveOn s).engine.result = s.engine.result ∧
      (moveOn s).engine.lastKind = s.engine.lastKind ∧ (moveOn s).engine.fixed = s.engine.fixed ∧
      (moveOn s).gauge.currentMask = s.gauge.currentMask ∧ (moveOn s).gauge.nextMask = s.gauge.nextMask ∧
      (moveOn s).gauge.sweeping = s.gauge.sweeping ∧ (moveOn s).gauge.slot = s.gauge.slot ∧
      (moveOn s).gauge.poll = s.gauge.poll ∧ (moveOn s).gauge.countdown = s.gauge.countdown ∧
      (moveOn s).gauge.readings = s.gauge.readings ∧ (moveOn s).gauge.lastStamp = s.gauge.lastStamp ∧
      (moveOn s).gauge.prevStamp = s.gauge.prevStamp ∧
      (moveOn s).gauge.swept = s.gauge.swept := by
  unfold moveOn Walked.goOn; split <;> simp

@[simp] theorem resumeStep_frame (s : State) :
    (resumeStep s).store = s.store ∧ (resumeStep s).limits = s.limits ∧ (resumeStep s).time = s.time ∧
      (resumeStep s).inputs = s.inputs ∧ (resumeStep s).pending = s.pending := by
  simp only [resumeStep]; (repeat' split) <;> simp

@[simp] theorem resumeStep_fields (s : State) :
    (resumeStep s).links.ship = s.links.ship ∧ (resumeStep s).links.shore = s.links.shore ∧
      (resumeStep s).links.enables = s.links.enables ∧ (resumeStep s).links.rate = s.links.rate ∧
      (resumeStep s).seq.active = s.seq.active ∧ (resumeStep s).seq.standby = s.seq.standby ∧
      (resumeStep s).tracker.op = s.tracker.op ∧ (resumeStep s).tracker.opbgStamp = s.tracker.opbgStamp ∧
      (resumeStep s).tracker.opndStamp = s.tracker.opndStamp ∧ (resumeStep s).tracker.density = s.tracker.density ∧
      (resumeStep s).tracker.active = s.tracker.active ∧ (resumeStep s).tracker.standby = s.tracker.standby ∧
      (resumeStep s).tracker.pos = s.tracker.pos ∧ (resumeStep s).tracker.gen = s.tracker.gen ∧
      (resumeStep s).tracker.exchange = s.tracker.exchange ∧ (resumeStep s).tracker.prevRob = s.tracker.prevRob ∧
      (resumeStep s).tracker.lag = s.tracker.lag ∧ (resumeStep s).tracker.lagBefore = s.tracker.lagBefore ∧
      (resumeStep s).tracker.standing = s.tracker.standing ∧ (resumeStep s).tracker.holds = s.tracker.holds ∧
      (resumeStep s).tracker.corrections = s.tracker.corrections ∧ (resumeStep s).tracker.history = s.tracker.history ∧
      (resumeStep s).tracker.ended = s.tracker.ended ∧ (resumeStep s).engine.published = s.engine.published ∧
      (resumeStep s).engine.nextSeq = s.engine.nextSeq ∧ (resumeStep s).engine.result = s.engine.result ∧
      (resumeStep s).engine.lastKind = s.engine.lastKind ∧ (resumeStep s).engine.fixed = s.engine.fixed ∧
      (resumeStep s).gauge.currentMask = s.gauge.currentMask ∧ (resumeStep s).gauge.nextMask = s.gauge.nextMask ∧
      (resumeStep s).gauge.sweeping = s.gauge.sweeping ∧ (resumeStep s).gauge.slot = s.gauge.slot ∧
      (resumeStep s).gauge.poll = s.gauge.poll ∧ (resumeStep s).gauge.countdown = s.gauge.countdown ∧
      (resumeStep s).gauge.readings = s.gauge.readings ∧ (resumeStep s).gauge.lastStamp = s.gauge.lastStamp ∧
      (resumeStep s).gauge.prevStamp = s.gauge.prevStamp ∧
      (resumeStep s).gauge.swept = s.gauge.swept := by
  simp only [resumeStep]; (repeat' split) <;> simp

@[simp] theorem finishSuspending_frame (s : State) :
    (finishSuspending s).store = s.store ∧ (finishSuspending s).gauge = s.gauge ∧
      (finishSuspending s).meter = s.meter ∧ (finishSuspending s).engine = s.engine ∧
      (finishSuspending s).limits = s.limits ∧ (finishSuspending s).xfer = s.xfer ∧
      (finishSuspending s).tracker = s.tracker ∧ (finishSuspending s).console = s.console ∧
      (finishSuspending s).records = s.records ∧ (finishSuspending s).time = s.time ∧
      (finishSuspending s).inputs = s.inputs ∧ (finishSuspending s).pending = s.pending := by
  simp only [finishSuspending]; (repeat' split) <;> simp

@[simp] theorem finishSuspending_fields (s : State) :
    (finishSuspending s).links.ship = s.links.ship ∧ (finishSuspending s).links.shore = s.links.shore ∧
      (finishSuspending s).links.enables = s.links.enables ∧ (finishSuspending s).links.rate = s.links.rate ∧
      (finishSuspending s).seq.active = s.seq.active ∧ (finishSuspending s).seq.standby = s.seq.standby ∧
      (finishSuspending s).seq.stage = s.seq.stage := by
  simp only [finishSuspending]; (repeat' split) <;> simp

@[simp] theorem hostToFault_frame (before s : State) :
    (hostToFault before s).store = s.store ∧ (hostToFault before s).gauge = s.gauge ∧
      (hostToFault before s).meter = s.meter ∧ (hostToFault before s).engine = s.engine ∧
      (hostToFault before s).limits = s.limits ∧ (hostToFault before s).xfer = s.xfer ∧
      (hostToFault before s).tracker = s.tracker ∧ (hostToFault before s).console = s.console ∧
      (hostToFault before s).records = s.records ∧ (hostToFault before s).time = s.time ∧
      (hostToFault before s).inputs = s.inputs ∧ (hostToFault before s).pending = s.pending := by
  simp only [hostToFault]; (repeat' split) <;> simp

@[simp] theorem hostToFault_fields (before s : State) :
    (hostToFault before s).links.ship = s.links.ship ∧ (hostToFault before s).links.shore = s.links.shore ∧
      (hostToFault before s).links.enables = s.links.enables ∧ (hostToFault before s).links.rate = s.links.rate ∧
      (hostToFault before s).seq.active = s.seq.active ∧ (hostToFault before s).seq.standby = s.seq.standby ∧
      (hostToFault before s).seq.stage = s.seq.stage := by
  simp only [hostToFault]; (repeat' split) <;> simp

@[simp] theorem sequencerHears_frame (before s : State) :
    (sequencerHears before s).store = s.store ∧ (sequencerHears before s).limits = s.limits ∧
      (sequencerHears before s).time = s.time ∧ (sequencerHears before s).inputs = s.inputs ∧
      (sequencerHears before s).pending = s.pending := by
  simp only [sequencerHears]; (repeat' split) <;> simp

@[simp] theorem sequencerHears_fields (before s : State) :
    (sequencerHears before s).links.ship = s.links.ship ∧ (sequencerHears before s).links.shore = s.links.shore ∧
      (sequencerHears before s).links.enables = s.links.enables ∧
      (sequencerHears before s).links.rate = s.links.rate ∧ (sequencerHears before s).seq.active = s.seq.active ∧
      (sequencerHears before s).seq.standby = s.seq.standby ∧ (sequencerHears before s).tracker.op = s.tracker.op ∧
      (sequencerHears before s).tracker.opbgStamp = s.tracker.opbgStamp ∧
      (sequencerHears before s).tracker.opndStamp = s.tracker.opndStamp ∧
      (sequencerHears before s).tracker.density = s.tracker.density ∧
      (sequencerHears before s).tracker.active = s.tracker.active ∧
      (sequencerHears before s).tracker.standby = s.tracker.standby ∧
      (sequencerHears before s).tracker.pos = s.tracker.pos ∧
      (sequencerHears before s).tracker.gen = s.tracker.gen ∧
      (sequencerHears before s).tracker.exchange = s.tracker.exchange ∧
      (sequencerHears before s).tracker.prevRob = s.tracker.prevRob ∧
      (sequencerHears before s).tracker.lag = s.tracker.lag ∧
      (sequencerHears before s).tracker.lagBefore = s.tracker.lagBefore ∧
      (sequencerHears before s).tracker.standing = s.tracker.standing ∧
      (sequencerHears before s).tracker.holds = s.tracker.holds ∧
      (sequencerHears before s).tracker.corrections = s.tracker.corrections ∧
      (sequencerHears before s).tracker.history = s.tracker.history ∧
      (sequencerHears before s).tracker.ended = s.tracker.ended ∧
      (sequencerHears before s).engine.published = s.engine.published ∧
      (sequencerHears before s).engine.nextSeq = s.engine.nextSeq ∧
      (sequencerHears before s).engine.result = s.engine.result ∧
      (sequencerHears before s).engine.lastKind = s.engine.lastKind ∧
      (sequencerHears before s).engine.fixed = s.engine.fixed ∧
      (sequencerHears before s).gauge.currentMask = s.gauge.currentMask ∧
      (sequencerHears before s).gauge.nextMask = s.gauge.nextMask ∧
      (sequencerHears before s).gauge.sweeping = s.gauge.sweeping ∧
      (sequencerHears before s).gauge.slot = s.gauge.slot ∧ (sequencerHears before s).gauge.poll = s.gauge.poll ∧
      (sequencerHears before s).gauge.countdown = s.gauge.countdown ∧
      (sequencerHears before s).gauge.readings = s.gauge.readings ∧
      (sequencerHears before s).gauge.lastStamp = s.gauge.lastStamp ∧
      (sequencerHears before s).gauge.prevStamp = s.gauge.prevStamp ∧
      (sequencerHears before s).gauge.swept = s.gauge.swept := by
  simp only [sequencerHears]; (repeat' split) <;> simp

@[simp] theorem hearRecord_frame (s : State) :
    (hearRecord s).store = s.store ∧ (hearRecord s).limits = s.limits ∧ (hearRecord s).time = s.time ∧
      (hearRecord s).inputs = s.inputs ∧ (hearRecord s).pending = s.pending := by
  simp only [hearRecord]; (repeat' split) <;> simp

@[simp] theorem hearRecord_fields (s : State) :
    (hearRecord s).links.ship = s.links.ship ∧ (hearRecord s).links.shore = s.links.shore ∧
      (hearRecord s).links.enables = s.links.enables ∧ (hearRecord s).links.rate = s.links.rate ∧
      (hearRecord s).seq.active = s.seq.active ∧ (hearRecord s).seq.standby = s.seq.standby ∧
      (hearRecord s).tracker.op = s.tracker.op ∧ (hearRecord s).tracker.opbgStamp = s.tracker.opbgStamp ∧
      (hearRecord s).tracker.opndStamp = s.tracker.opndStamp ∧ (hearRecord s).tracker.density = s.tracker.density ∧
      (hearRecord s).tracker.active = s.tracker.active ∧ (hearRecord s).tracker.standby = s.tracker.standby ∧
      (hearRecord s).tracker.pos = s.tracker.pos ∧ (hearRecord s).tracker.gen = s.tracker.gen ∧
      (hearRecord s).tracker.exchange = s.tracker.exchange ∧ (hearRecord s).tracker.prevRob = s.tracker.prevRob ∧
      (hearRecord s).tracker.lag = s.tracker.lag ∧ (hearRecord s).tracker.lagBefore = s.tracker.lagBefore ∧
      (hearRecord s).tracker.standing = s.tracker.standing ∧ (hearRecord s).tracker.holds = s.tracker.holds ∧
      (hearRecord s).tracker.corrections = s.tracker.corrections ∧ (hearRecord s).tracker.history = s.tracker.history ∧
      (hearRecord s).tracker.ended = s.tracker.ended ∧ (hearRecord s).engine.published = s.engine.published ∧
      (hearRecord s).engine.nextSeq = s.engine.nextSeq ∧ (hearRecord s).engine.result = s.engine.result ∧
      (hearRecord s).engine.lastKind = s.engine.lastKind ∧ (hearRecord s).engine.fixed = s.engine.fixed ∧
      (hearRecord s).gauge.currentMask = s.gauge.currentMask ∧ (hearRecord s).gauge.nextMask = s.gauge.nextMask ∧
      (hearRecord s).gauge.sweeping = s.gauge.sweeping ∧ (hearRecord s).gauge.slot = s.gauge.slot ∧
      (hearRecord s).gauge.poll = s.gauge.poll ∧ (hearRecord s).gauge.countdown = s.gauge.countdown ∧
      (hearRecord s).gauge.readings = s.gauge.readings ∧ (hearRecord s).gauge.lastStamp = s.gauge.lastStamp ∧
      (hearRecord s).gauge.prevStamp = s.gauge.prevStamp ∧
      (hearRecord s).gauge.swept = s.gauge.swept := by
  simp only [hearRecord]; (repeat' split) <;> simp

/-! ## The console -/

@[simp] theorem phaseOff_frame (d : Driver) (s : State) :
    (phaseOff d s).store = s.store ∧ (phaseOff d s).gauge = s.gauge ∧ (phaseOff d s).engine = s.engine ∧
      (phaseOff d s).limits = s.limits ∧ (phaseOff d s).xfer = s.xfer ∧ (phaseOff d s).seq = s.seq ∧
      (phaseOff d s).tracker = s.tracker ∧ (phaseOff d s).console = s.console ∧ (phaseOff d s).records = s.records ∧
      (phaseOff d s).links = s.links ∧ (phaseOff d s).time = s.time ∧ (phaseOff d s).inputs = s.inputs ∧
      (phaseOff d s).pending = s.pending := by
  simp only [phaseOff]; (repeat' split) <;> simp

@[simp] theorem handOver_frame (s : State) (d : Driver) :
    (handOver s d).store = s.store ∧ (handOver s d).gauge = s.gauge ∧ (handOver s d).engine = s.engine ∧
      (handOver s d).limits = s.limits ∧ (handOver s d).seq = s.seq ∧ (handOver s d).tracker = s.tracker ∧
      (handOver s d).records = s.records ∧ (handOver s d).links = s.links ∧ (handOver s d).time = s.time ∧
      (handOver s d).inputs = s.inputs ∧ (handOver s d).pending = s.pending := by
  simp only [handOver]; (repeat' split) <;> simp

@[simp] theorem yieldSeq_frame (s : State) :
    (yieldSeq s).store = s.store ∧ (yieldSeq s).gauge = s.gauge ∧ (yieldSeq s).meter = s.meter ∧
      (yieldSeq s).engine = s.engine ∧ (yieldSeq s).limits = s.limits ∧ (yieldSeq s).xfer = s.xfer ∧
      (yieldSeq s).tracker = s.tracker ∧ (yieldSeq s).console = s.console ∧ (yieldSeq s).records = s.records ∧
      (yieldSeq s).links = s.links ∧ (yieldSeq s).time = s.time ∧ (yieldSeq s).inputs = s.inputs ∧
      (yieldSeq s).pending = s.pending := by
  simp [yieldSeq]

@[simp] theorem yieldSeq_fields (s : State) :
    (yieldSeq s).seq.active = s.seq.active ∧ (yieldSeq s).seq.standby = s.seq.standby ∧
      (yieldSeq s).seq.stage = s.seq.stage := by
  simp [yieldSeq]

@[simp] theorem grant_frame (s : State) :
    (grant s).store = s.store ∧ (grant s).gauge = s.gauge ∧ (grant s).engine = s.engine ∧ (grant s).limits = s.limits ∧
      (grant s).tracker = s.tracker ∧ (grant s).records = s.records ∧ (grant s).links = s.links ∧
      (grant s).time = s.time ∧ (grant s).inputs = s.inputs ∧ (grant s).pending = s.pending := by
  have h : ∀ {β : Type} (g : State → β), (∀ s d, g (handOver s d) = g s) → g (drivers.foldl handOver s) = g s :=
    fun g hg => foldl_keep g _ hg _ _
  simp [grant, h]

@[simp] theorem grant_fields (s : State) :
    (grant s).seq.active = s.seq.active ∧ (grant s).seq.standby = s.seq.standby ∧
      (grant s).seq.stage = s.seq.stage := by
  have h : ∀ {β : Type} (g : State → β), (∀ s d, g (handOver s d) = g s) → g (drivers.foldl handOver s) = g s :=
    fun g hg => foldl_keep g _ hg _ _
  simp [grant, h]

@[simp] theorem judgeGrant_frame (s : State) :
    (judgeGrant s).store = s.store ∧ (judgeGrant s).gauge = s.gauge ∧ (judgeGrant s).engine = s.engine ∧
      (judgeGrant s).limits = s.limits ∧ (judgeGrant s).tracker = s.tracker ∧ (judgeGrant s).records = s.records ∧
      (judgeGrant s).links = s.links ∧ (judgeGrant s).time = s.time ∧ (judgeGrant s).inputs = s.inputs ∧
      (judgeGrant s).pending = s.pending := by
  simp only [judgeGrant]; (repeat' split) <;> simp

@[simp] theorem judgeGrant_fields (s : State) :
    (judgeGrant s).seq.active = s.seq.active ∧ (judgeGrant s).seq.standby = s.seq.standby ∧
      (judgeGrant s).seq.stage = s.seq.stage := by
  simp only [judgeGrant]; (repeat' split) <;> simp

@[simp] theorem requestRises_frame (s : State) :
    (requestRises s).store = s.store ∧ (requestRises s).gauge = s.gauge ∧ (requestRises s).engine = s.engine ∧
      (requestRises s).limits = s.limits ∧ (requestRises s).tracker = s.tracker ∧
      (requestRises s).records = s.records ∧ (requestRises s).links = s.links ∧ (requestRises s).time = s.time ∧
      (requestRises s).inputs = s.inputs ∧ (requestRises s).pending = s.pending := by
  simp [requestRises]

@[simp] theorem requestRises_fields (s : State) :
    (requestRises s).seq.active = s.seq.active ∧ (requestRises s).seq.standby = s.seq.standby ∧
      (requestRises s).seq.stage = s.seq.stage := by
  simp [requestRises]

@[simp] theorem takeBackValve_frame (s : State) (ch : Nat) :
    (takeBackValve s ch).store = s.store ∧ (takeBackValve s ch).gauge = s.gauge ∧
      (takeBackValve s ch).meter = s.meter ∧ (takeBackValve s ch).engine = s.engine ∧
      (takeBackValve s ch).limits = s.limits ∧ (takeBackValve s ch).seq = s.seq ∧
      (takeBackValve s ch).tracker = s.tracker ∧ (takeBackValve s ch).console = s.console ∧
      (takeBackValve s ch).records = s.records ∧ (takeBackValve s ch).time = s.time ∧
      (takeBackValve s ch).inputs = s.inputs ∧ (takeBackValve s ch).pending = s.pending := by
  simp only [takeBackValve]; (repeat' split) <;> simp

@[simp] theorem takeBackValve_fields (s : State) (ch : Nat) :
    (takeBackValve s ch).links.ship = s.links.ship ∧ (takeBackValve s ch).links.shore = s.links.shore ∧
      (takeBackValve s ch).links.enables = s.links.enables ∧ (takeBackValve s ch).links.rate = s.links.rate := by
  simp only [takeBackValve]; (repeat' split) <;> simp

@[simp] theorem resumeTransfer_frame (d : Driver) (s : State) :
    (resumeTransfer d s).store = s.store ∧ (resumeTransfer d s).gauge = s.gauge ∧
      (resumeTransfer d s).engine = s.engine ∧ (resumeTransfer d s).limits = s.limits ∧
      (resumeTransfer d s).seq = s.seq ∧ (resumeTransfer d s).tracker = s.tracker ∧
      (resumeTransfer d s).records = s.records ∧ (resumeTransfer d s).links = s.links ∧
      (resumeTransfer d s).time = s.time ∧ (resumeTransfer d s).inputs = s.inputs ∧
      (resumeTransfer d s).pending = s.pending := by
  simp only [resumeTransfer]; (repeat' split) <;> simp

@[simp] theorem endHanded_frame (d : Driver) (reason : EndReason) (s : State) :
    (endHanded d reason s).store = s.store ∧ (endHanded d reason s).limits = s.limits ∧
      (endHanded d reason s).tracker = s.tracker ∧ (endHanded d reason s).time = s.time ∧
      (endHanded d reason s).inputs = s.inputs ∧ (endHanded d reason s).pending = s.pending := by
  simp only [endHanded]; (repeat' split) <;> simp

@[simp] theorem endHanded_fields (d : Driver) (reason : EndReason) (s : State) :
    (endHanded d reason s).links.ship = s.links.ship ∧ (endHanded d reason s).links.shore = s.links.shore ∧
      (endHanded d reason s).links.enables = s.links.enables ∧ (endHanded d reason s).links.rate = s.links.rate ∧
      (endHanded d reason s).seq.active = s.seq.active ∧ (endHanded d reason s).seq.standby = s.seq.standby ∧
      (endHanded d reason s).seq.stage = s.seq.stage ∧ (endHanded d reason s).engine.published = s.engine.published ∧
      (endHanded d reason s).engine.nextSeq = s.engine.nextSeq ∧
      (endHanded d reason s).engine.result = s.engine.result ∧
      (endHanded d reason s).engine.lastKind = s.engine.lastKind ∧
      (endHanded d reason s).engine.fixed = s.engine.fixed ∧
      (endHanded d reason s).gauge.currentMask = s.gauge.currentMask ∧
      (endHanded d reason s).gauge.nextMask = s.gauge.nextMask ∧
      (endHanded d reason s).gauge.sweeping = s.gauge.sweeping ∧ (endHanded d reason s).gauge.slot = s.gauge.slot ∧
      (endHanded d reason s).gauge.poll = s.gauge.poll ∧ (endHanded d reason s).gauge.countdown = s.gauge.countdown ∧
      (endHanded d reason s).gauge.readings = s.gauge.readings ∧
      (endHanded d reason s).gauge.lastStamp = s.gauge.lastStamp ∧
      (endHanded d reason s).gauge.prevStamp = s.gauge.prevStamp ∧
      (endHanded d reason s).gauge.swept = s.gauge.swept := by
  simp only [endHanded]; (repeat' split) <;> simp

@[simp] theorem carryOut_frame (s : State) (j : Driver × Option EndReason) :
    (carryOut s j).store = s.store ∧ (carryOut s j).limits = s.limits ∧ (carryOut s j).tracker = s.tracker ∧
      (carryOut s j).time = s.time ∧ (carryOut s j).inputs = s.inputs ∧ (carryOut s j).pending = s.pending := by
  simp only [carryOut]; (repeat' split) <;> simp

@[simp] theorem carryOut_fields (s : State) (j : Driver × Option EndReason) :
    (carryOut s j).links.ship = s.links.ship ∧ (carryOut s j).links.shore = s.links.shore ∧
      (carryOut s j).links.enables = s.links.enables ∧ (carryOut s j).links.rate = s.links.rate ∧
      (carryOut s j).seq.active = s.seq.active ∧ (carryOut s j).seq.standby = s.seq.standby ∧
      (carryOut s j).seq.stage = s.seq.stage ∧ (carryOut s j).engine.published = s.engine.published ∧
      (carryOut s j).engine.nextSeq = s.engine.nextSeq ∧ (carryOut s j).engine.result = s.engine.result ∧
      (carryOut s j).engine.lastKind = s.engine.lastKind ∧ (carryOut s j).engine.fixed = s.engine.fixed ∧
      (carryOut s j).gauge.currentMask = s.gauge.currentMask ∧ (carryOut s j).gauge.nextMask = s.gauge.nextMask ∧
      (carryOut s j).gauge.sweeping = s.gauge.sweeping ∧ (carryOut s j).gauge.slot = s.gauge.slot ∧
      (carryOut s j).gauge.poll = s.gauge.poll ∧ (carryOut s j).gauge.countdown = s.gauge.countdown ∧
      (carryOut s j).gauge.readings = s.gauge.readings ∧ (carryOut s j).gauge.lastStamp = s.gauge.lastStamp ∧
      (carryOut s j).gauge.prevStamp = s.gauge.prevStamp ∧
      (carryOut s j).gauge.swept = s.gauge.swept := by
  simp only [carryOut]; (repeat' split) <;> simp

@[simp] theorem handEntry_frame (snap : Tab 48 (Option TankSnap)) (s : State) (c : Nat) :
    (handEntry snap s c).store = s.store ∧ (handEntry snap s c).gauge = s.gauge ∧
      (handEntry snap s c).meter = s.meter ∧ (handEntry snap s c).engine = s.engine ∧
      (handEntry snap s c).limits = s.limits ∧ (handEntry snap s c).xfer = s.xfer ∧ (handEntry snap s c).seq = s.seq ∧
      (handEntry snap s c).tracker = s.tracker ∧ (handEntry snap s c).console = s.console ∧
      (handEntry snap s c).links = s.links ∧ (handEntry snap s c).time = s.time ∧
      (handEntry snap s c).inputs = s.inputs ∧ (handEntry snap s c).pending = s.pending := by
  simp only [handEntry]; (repeat' split) <;> simp

@[simp] theorem takeBackValves_frame (s : State) :
    (channels.foldl takeBackValve s).store = s.store ∧ (channels.foldl takeBackValve s).gauge = s.gauge ∧
      (channels.foldl takeBackValve s).meter = s.meter ∧ (channels.foldl takeBackValve s).engine = s.engine ∧
      (channels.foldl takeBackValve s).limits = s.limits ∧ (channels.foldl takeBackValve s).seq = s.seq ∧
      (channels.foldl takeBackValve s).tracker = s.tracker ∧ (channels.foldl takeBackValve s).console = s.console ∧
      (channels.foldl takeBackValve s).records = s.records ∧ (channels.foldl takeBackValve s).time = s.time ∧
      (channels.foldl takeBackValve s).inputs = s.inputs ∧ (channels.foldl takeBackValve s).pending = s.pending := by
  exact ⟨foldl_keep (fun s => s.store) _ (by simp) _ _,
    foldl_keep (fun s => s.gauge) _ (by simp) _ _,
    foldl_keep (fun s => s.meter) _ (by simp) _ _,
    foldl_keep (fun s => s.engine) _ (by simp) _ _,
    foldl_keep (fun s => s.limits) _ (by simp) _ _,
    foldl_keep (fun s => s.seq) _ (by simp) _ _,
    foldl_keep (fun s => s.tracker) _ (by simp) _ _,
    foldl_keep (fun s => s.console) _ (by simp) _ _,
    foldl_keep (fun s => s.records) _ (by simp) _ _,
    foldl_keep (fun s => s.time) _ (by simp) _ _,
    foldl_keep (fun s => s.inputs) _ (by simp) _ _,
    foldl_keep (fun s => s.pending) _ (by simp) _ _⟩

@[simp] theorem takeBackValves_fields (s : State) :
    (channels.foldl takeBackValve s).links.ship = s.links.ship ∧
      (channels.foldl takeBackValve s).links.shore = s.links.shore ∧
      (channels.foldl takeBackValve s).links.enables = s.links.enables ∧
      (channels.foldl takeBackValve s).links.rate = s.links.rate := by
  exact ⟨foldl_keep (fun s => s.links.ship) _ (by simp) _ _,
    foldl_keep (fun s => s.links.shore) _ (by simp) _ _,
    foldl_keep (fun s => s.links.enables) _ (by simp) _ _,
    foldl_keep (fun s => s.links.rate) _ (by simp) _ _⟩

@[simp] theorem carryOuts_frame (l : List (Driver × Option EndReason)) (s : State) :
    (l.foldl carryOut s).store = s.store ∧ (l.foldl carryOut s).limits = s.limits ∧
      (l.foldl carryOut s).tracker = s.tracker ∧ (l.foldl carryOut s).time = s.time ∧
      (l.foldl carryOut s).inputs = s.inputs ∧ (l.foldl carryOut s).pending = s.pending := by
  exact ⟨foldl_keep (fun s => s.store) _ (by simp) _ _,
    foldl_keep (fun s => s.limits) _ (by simp) _ _,
    foldl_keep (fun s => s.tracker) _ (by simp) _ _,
    foldl_keep (fun s => s.time) _ (by simp) _ _,
    foldl_keep (fun s => s.inputs) _ (by simp) _ _,
    foldl_keep (fun s => s.pending) _ (by simp) _ _⟩

@[simp] theorem carryOuts_fields (l : List (Driver × Option EndReason)) (s : State) :
    (l.foldl carryOut s).links.ship = s.links.ship ∧ (l.foldl carryOut s).links.shore = s.links.shore ∧
      (l.foldl carryOut s).links.enables = s.links.enables ∧ (l.foldl carryOut s).links.rate = s.links.rate ∧
      (l.foldl carryOut s).seq.active = s.seq.active ∧ (l.foldl carryOut s).seq.standby = s.seq.standby ∧
      (l.foldl carryOut s).seq.stage = s.seq.stage ∧ (l.foldl carryOut s).engine.published = s.engine.published ∧
      (l.foldl carryOut s).engine.nextSeq = s.engine.nextSeq ∧ (l.foldl carryOut s).engine.result = s.engine.result ∧
      (l.foldl carryOut s).engine.lastKind = s.engine.lastKind ∧ (l.foldl carryOut s).engine.fixed = s.engine.fixed ∧
      (l.foldl carryOut s).gauge.currentMask = s.gauge.currentMask ∧
      (l.foldl carryOut s).gauge.nextMask = s.gauge.nextMask ∧ (l.foldl carryOut s).gauge.sweeping = s.gauge.sweeping ∧
      (l.foldl carryOut s).gauge.slot = s.gauge.slot ∧ (l.foldl carryOut s).gauge.poll = s.gauge.poll ∧
      (l.foldl carryOut s).gauge.countdown = s.gauge.countdown ∧
      (l.foldl carryOut s).gauge.readings = s.gauge.readings ∧
      (l.foldl carryOut s).gauge.lastStamp = s.gauge.lastStamp ∧
      (l.foldl carryOut s).gauge.prevStamp = s.gauge.prevStamp ∧
      (l.foldl carryOut s).gauge.swept = s.gauge.swept := by
  exact ⟨foldl_keep (fun s => s.links.ship) _ (by simp) _ _,
    foldl_keep (fun s => s.links.shore) _ (by simp) _ _,
    foldl_keep (fun s => s.links.enables) _ (by simp) _ _,
    foldl_keep (fun s => s.links.rate) _ (by simp) _ _,
    foldl_keep (fun s => s.seq.active) _ (by simp) _ _,
    foldl_keep (fun s => s.seq.standby) _ (by simp) _ _,
    foldl_keep (fun s => s.seq.stage) _ (by simp) _ _,
    foldl_keep (fun s => s.engine.published) _ (by simp) _ _,
    foldl_keep (fun s => s.engine.nextSeq) _ (by simp) _ _,
    foldl_keep (fun s => s.engine.result) _ (by simp) _ _,
    foldl_keep (fun s => s.engine.lastKind) _ (by simp) _ _,
    foldl_keep (fun s => s.engine.fixed) _ (by simp) _ _,
    foldl_keep (fun s => s.gauge.currentMask) _ (by simp) _ _,
    foldl_keep (fun s => s.gauge.nextMask) _ (by simp) _ _,
    foldl_keep (fun s => s.gauge.sweeping) _ (by simp) _ _,
    foldl_keep (fun s => s.gauge.slot) _ (by simp) _ _,
    foldl_keep (fun s => s.gauge.poll) _ (by simp) _ _,
    foldl_keep (fun s => s.gauge.countdown) _ (by simp) _ _,
    foldl_keep (fun s => s.gauge.readings) _ (by simp) _ _,
    foldl_keep (fun s => s.gauge.lastStamp) _ (by simp) _ _,
    foldl_keep (fun s => s.gauge.prevStamp) _ (by simp) _ _,
    foldl_keep (fun s => s.gauge.swept) _ (by simp) _ _⟩

@[simp] theorem referAll_frame (s : State) :
    (referAll s).store = s.store ∧ (referAll s).meter = s.meter ∧ (referAll s).engine = s.engine ∧
      (referAll s).limits = s.limits ∧ (referAll s).xfer = s.xfer ∧ (referAll s).seq = s.seq ∧
      (referAll s).tracker = s.tracker ∧ (referAll s).console = s.console ∧ (referAll s).records = s.records ∧
      (referAll s).links = s.links ∧ (referAll s).time = s.time ∧ (referAll s).inputs = s.inputs ∧
      (referAll s).pending = s.pending := by
  simp [referAll]

@[simp] theorem referAll_fields (s : State) :
    (referAll s).gauge.currentMask = s.gauge.currentMask ∧ (referAll s).gauge.nextMask = s.gauge.nextMask ∧
      (referAll s).gauge.sweeping = s.gauge.sweeping ∧ (referAll s).gauge.slot = s.gauge.slot ∧
      (referAll s).gauge.poll = s.gauge.poll ∧ (referAll s).gauge.countdown = s.gauge.countdown ∧
      (referAll s).gauge.readings = s.gauge.readings ∧ (referAll s).gauge.lastStamp = s.gauge.lastStamp ∧
      (referAll s).gauge.prevStamp = s.gauge.prevStamp ∧
      (referAll s).gauge.swept = s.gauge.swept := by
  simp [referAll]

@[simp] theorem accountHand_frame (s : State) :
    (accountHand s).store = s.store ∧ (accountHand s).meter = s.meter ∧ (accountHand s).engine = s.engine ∧
      (accountHand s).limits = s.limits ∧ (accountHand s).xfer = s.xfer ∧ (accountHand s).seq = s.seq ∧
      (accountHand s).tracker = s.tracker ∧ (accountHand s).console = s.console ∧ (accountHand s).links = s.links ∧
      (accountHand s).time = s.time ∧ (accountHand s).inputs = s.inputs ∧ (accountHand s).pending = s.pending := by
  have h : ∀ {β : Type} (g : State → β) snap, (∀ s c, g (handEntry snap s c) = g s) →
      g (compartments.foldl (handEntry snap) s) = g s := fun g _ hg => foldl_keep g _ hg _ _
  unfold accountHand
  split <;> simp [h]

@[simp] theorem accountHand_fields (s : State) :
    (accountHand s).gauge.currentMask = s.gauge.currentMask ∧ (accountHand s).gauge.nextMask = s.gauge.nextMask ∧
      (accountHand s).gauge.sweeping = s.gauge.sweeping ∧ (accountHand s).gauge.slot = s.gauge.slot ∧
      (accountHand s).gauge.poll = s.gauge.poll ∧ (accountHand s).gauge.countdown = s.gauge.countdown ∧
      (accountHand s).gauge.readings = s.gauge.readings ∧ (accountHand s).gauge.lastStamp = s.gauge.lastStamp ∧
      (accountHand s).gauge.prevStamp = s.gauge.prevStamp ∧
      (accountHand s).gauge.swept = s.gauge.swept := by
  have h : ∀ {β : Type} (g : State → β) snap, (∀ s c, g (handEntry snap s c) = g s) →
      g (compartments.foldl (handEntry snap) s) = g s := fun g _ hg => foldl_keep g _ hg _ _
  unfold accountHand
  split <;> simp [h]

@[simp] theorem returnSeq_frame (s : State) :
    (returnSeq s).store = s.store ∧ (returnSeq s).limits = s.limits ∧ (returnSeq s).time = s.time ∧
      (returnSeq s).inputs = s.inputs ∧ (returnSeq s).pending = s.pending := by
  simp only [returnSeq]; (repeat' split) <;> simp

@[simp] theorem returnSeq_fields (s : State) :
    (returnSeq s).links.ship = s.links.ship ∧ (returnSeq s).links.shore = s.links.shore ∧
      (returnSeq s).links.enables = s.links.enables ∧ (returnSeq s).links.rate = s.links.rate ∧
      (returnSeq s).seq.active = s.seq.active ∧ (returnSeq s).seq.standby = s.seq.standby ∧
      (returnSeq s).tracker.op = s.tracker.op ∧ (returnSeq s).tracker.opbgStamp = s.tracker.opbgStamp ∧
      (returnSeq s).tracker.opndStamp = s.tracker.opndStamp ∧ (returnSeq s).tracker.density = s.tracker.density ∧
      (returnSeq s).tracker.active = s.tracker.active ∧ (returnSeq s).tracker.standby = s.tracker.standby ∧
      (returnSeq s).tracker.pos = s.tracker.pos ∧ (returnSeq s).tracker.gen = s.tracker.gen ∧
      (returnSeq s).tracker.exchange = s.tracker.exchange ∧ (returnSeq s).tracker.prevRob = s.tracker.prevRob ∧
      (returnSeq s).tracker.lag = s.tracker.lag ∧ (returnSeq s).tracker.lagBefore = s.tracker.lagBefore ∧
      (returnSeq s).tracker.standing = s.tracker.standing ∧ (returnSeq s).tracker.holds = s.tracker.holds ∧
      (returnSeq s).tracker.corrections = s.tracker.corrections ∧ (returnSeq s).tracker.history = s.tracker.history ∧
      (returnSeq s).tracker.ended = s.tracker.ended ∧ (returnSeq s).engine.published = s.engine.published ∧
      (returnSeq s).engine.nextSeq = s.engine.nextSeq ∧ (returnSeq s).engine.result = s.engine.result ∧
      (returnSeq s).engine.lastKind = s.engine.lastKind ∧ (returnSeq s).engine.fixed = s.engine.fixed ∧
      (returnSeq s).gauge.currentMask = s.gauge.currentMask ∧ (returnSeq s).gauge.nextMask = s.gauge.nextMask ∧
      (returnSeq s).gauge.sweeping = s.gauge.sweeping ∧ (returnSeq s).gauge.slot = s.gauge.slot ∧
      (returnSeq s).gauge.poll = s.gauge.poll ∧ (returnSeq s).gauge.countdown = s.gauge.countdown ∧
      (returnSeq s).gauge.readings = s.gauge.readings ∧ (returnSeq s).gauge.lastStamp = s.gauge.lastStamp ∧
      (returnSeq s).gauge.prevStamp = s.gauge.prevStamp ∧
      (returnSeq s).gauge.swept = s.gauge.swept := by
  simp only [returnSeq]; (repeat' split) <;> simp

@[simp] theorem endReconciling_frame (s : State) :
    (endReconciling s).store = s.store ∧ (endReconciling s).limits = s.limits ∧ (endReconciling s).time = s.time ∧
      (endReconciling s).inputs = s.inputs ∧ (endReconciling s).pending = s.pending := by
  simp only [endReconciling]; (repeat' split) <;> simp

@[simp] theorem endReconciling_fields (s : State) :
    (endReconciling s).links.ship = s.links.ship ∧ (endReconciling s).links.shore = s.links.shore ∧
      (endReconciling s).links.enables = s.links.enables ∧ (endReconciling s).links.rate = s.links.rate ∧
      (endReconciling s).seq.active = s.seq.active ∧ (endReconciling s).seq.standby = s.seq.standby ∧
      (endReconciling s).tracker.op = s.tracker.op ∧ (endReconciling s).tracker.opbgStamp = s.tracker.opbgStamp ∧
      (endReconciling s).tracker.opndStamp = s.tracker.opndStamp ∧
      (endReconciling s).tracker.density = s.tracker.density ∧ (endReconciling s).tracker.active = s.tracker.active ∧
      (endReconciling s).tracker.standby = s.tracker.standby ∧ (endReconciling s).tracker.pos = s.tracker.pos ∧
      (endReconciling s).tracker.gen = s.tracker.gen ∧ (endReconciling s).tracker.exchange = s.tracker.exchange ∧
      (endReconciling s).tracker.prevRob = s.tracker.prevRob ∧ (endReconciling s).tracker.lag = s.tracker.lag ∧
      (endReconciling s).tracker.lagBefore = s.tracker.lagBefore ∧
      (endReconciling s).tracker.standing = s.tracker.standing ∧ (endReconciling s).tracker.holds = s.tracker.holds ∧
      (endReconciling s).tracker.corrections = s.tracker.corrections ∧
      (endReconciling s).tracker.history = s.tracker.history ∧ (endReconciling s).tracker.ended = s.tracker.ended ∧
      (endReconciling s).engine.published = s.engine.published ∧ (endReconciling s).engine.nextSeq = s.engine.nextSeq ∧
      (endReconciling s).engine.result = s.engine.result ∧ (endReconciling s).engine.lastKind = s.engine.lastKind ∧
      (endReconciling s).engine.fixed = s.engine.fixed ∧ (endReconciling s).gauge.currentMask = s.gauge.currentMask ∧
      (endReconciling s).gauge.nextMask = s.gauge.nextMask ∧ (endReconciling s).gauge.sweeping = s.gauge.sweeping ∧
      (endReconciling s).gauge.slot = s.gauge.slot ∧ (endReconciling s).gauge.poll = s.gauge.poll ∧
      (endReconciling s).gauge.countdown = s.gauge.countdown ∧ (endReconciling s).gauge.readings = s.gauge.readings ∧
      (endReconciling s).gauge.lastStamp = s.gauge.lastStamp ∧
      (endReconciling s).gauge.prevStamp = s.gauge.prevStamp ∧
      (endReconciling s).gauge.swept = s.gauge.swept := by
  simp only [endReconciling]; (repeat' split) <;> simp

@[simp] theorem releaseConsole_frame (s : State) :
    (releaseConsole s).store = s.store ∧ (releaseConsole s).limits = s.limits ∧ (releaseConsole s).time = s.time ∧
      (releaseConsole s).inputs = s.inputs ∧ (releaseConsole s).pending = s.pending := by
  simp [releaseConsole]

@[simp] theorem releaseConsole_fields (s : State) :
    (releaseConsole s).links.ship = s.links.ship ∧ (releaseConsole s).links.shore = s.links.shore ∧
      (releaseConsole s).links.enables = s.links.enables ∧ (releaseConsole s).links.rate = s.links.rate ∧
      (releaseConsole s).seq.active = s.seq.active ∧ (releaseConsole s).seq.standby = s.seq.standby ∧
      (releaseConsole s).tracker.op = s.tracker.op ∧ (releaseConsole s).tracker.opbgStamp = s.tracker.opbgStamp ∧
      (releaseConsole s).tracker.opndStamp = s.tracker.opndStamp ∧
      (releaseConsole s).tracker.density = s.tracker.density ∧ (releaseConsole s).tracker.active = s.tracker.active ∧
      (releaseConsole s).tracker.standby = s.tracker.standby ∧ (releaseConsole s).tracker.pos = s.tracker.pos ∧
      (releaseConsole s).tracker.gen = s.tracker.gen ∧ (releaseConsole s).tracker.exchange = s.tracker.exchange ∧
      (releaseConsole s).tracker.prevRob = s.tracker.prevRob ∧ (releaseConsole s).tracker.lag = s.tracker.lag ∧
      (releaseConsole s).tracker.lagBefore = s.tracker.lagBefore ∧
      (releaseConsole s).tracker.standing = s.tracker.standing ∧ (releaseConsole s).tracker.holds = s.tracker.holds ∧
      (releaseConsole s).tracker.corrections = s.tracker.corrections ∧
      (releaseConsole s).tracker.history = s.tracker.history ∧ (releaseConsole s).tracker.ended = s.tracker.ended ∧
      (releaseConsole s).engine.published = s.engine.published ∧ (releaseConsole s).engine.nextSeq = s.engine.nextSeq ∧
      (releaseConsole s).engine.result = s.engine.result ∧ (releaseConsole s).engine.lastKind = s.engine.lastKind ∧
      (releaseConsole s).engine.fixed = s.engine.fixed ∧ (releaseConsole s).gauge.currentMask = s.gauge.currentMask ∧
      (releaseConsole s).gauge.nextMask = s.gauge.nextMask ∧ (releaseConsole s).gauge.sweeping = s.gauge.sweeping ∧
      (releaseConsole s).gauge.slot = s.gauge.slot ∧ (releaseConsole s).gauge.poll = s.gauge.poll ∧
      (releaseConsole s).gauge.countdown = s.gauge.countdown ∧ (releaseConsole s).gauge.readings = s.gauge.readings ∧
      (releaseConsole s).gauge.lastStamp = s.gauge.lastStamp ∧
      (releaseConsole s).gauge.prevStamp = s.gauge.prevStamp ∧
      (releaseConsole s).gauge.swept = s.gauge.swept := by
  simp [releaseConsole]

@[simp] theorem settle_frame (before s : State) :
    (settle before s).store = s.store ∧ (settle before s).limits = s.limits ∧ (settle before s).time = s.time ∧
      (settle before s).inputs = s.inputs ∧ (settle before s).pending = s.pending := by
  simp [settle]

@[simp] theorem settle_fields (before s : State) :
    (settle before s).links.ship = s.links.ship ∧ (settle before s).links.shore = s.links.shore ∧
      (settle before s).links.enables = s.links.enables ∧ (settle before s).links.rate = s.links.rate ∧
      (settle before s).seq.active = s.seq.active ∧ (settle before s).seq.standby = s.seq.standby ∧
      (settle before s).tracker.op = s.tracker.op ∧ (settle before s).tracker.opbgStamp = s.tracker.opbgStamp ∧
      (settle before s).tracker.opndStamp = s.tracker.opndStamp ∧
      (settle before s).tracker.density = s.tracker.density ∧ (settle before s).tracker.active = s.tracker.active ∧
      (settle before s).tracker.standby = s.tracker.standby ∧ (settle before s).tracker.pos = s.tracker.pos ∧
      (settle before s).tracker.gen = s.tracker.gen ∧ (settle before s).tracker.exchange = s.tracker.exchange ∧
      (settle before s).tracker.prevRob = s.tracker.prevRob ∧ (settle before s).tracker.lag = s.tracker.lag ∧
      (settle before s).tracker.lagBefore = s.tracker.lagBefore ∧
      (settle before s).tracker.standing = s.tracker.standing ∧ (settle before s).tracker.holds = s.tracker.holds ∧
      (settle before s).tracker.corrections = s.tracker.corrections ∧
      (settle before s).tracker.history = s.tracker.history ∧ (settle before s).tracker.ended = s.tracker.ended ∧
      (settle before s).engine.published = s.engine.published ∧ (settle before s).engine.nextSeq = s.engine.nextSeq ∧
      (settle before s).engine.result = s.engine.result ∧ (settle before s).engine.lastKind = s.engine.lastKind ∧
      (settle before s).engine.fixed = s.engine.fixed ∧ (settle before s).gauge.currentMask = s.gauge.currentMask ∧
      (settle before s).gauge.nextMask = s.gauge.nextMask ∧ (settle before s).gauge.sweeping = s.gauge.sweeping ∧
      (settle before s).gauge.slot = s.gauge.slot ∧ (settle before s).gauge.poll = s.gauge.poll ∧
      (settle before s).gauge.countdown = s.gauge.countdown ∧ (settle before s).gauge.readings = s.gauge.readings ∧
      (settle before s).gauge.lastStamp = s.gauge.lastStamp ∧
      (settle before s).gauge.prevStamp = s.gauge.prevStamp ∧
      (settle before s).gauge.swept = s.gauge.swept := by
  simp [settle]

/-! ## Gauging and metering -/

@[simp] theorem pollSlot_frame (slot : Nat) (s : State) :
    (pollSlot slot s).store = s.store ∧ (pollSlot slot s).meter = s.meter ∧ (pollSlot slot s).engine = s.engine ∧
      (pollSlot slot s).limits = s.limits ∧ (pollSlot slot s).xfer = s.xfer ∧ (pollSlot slot s).seq = s.seq ∧
      (pollSlot slot s).tracker = s.tracker ∧ (pollSlot slot s).console = s.console ∧
      (pollSlot slot s).records = s.records ∧ (pollSlot slot s).links = s.links ∧ (pollSlot slot s).time = s.time ∧
      (pollSlot slot s).inputs = s.inputs ∧ (pollSlot slot s).pending = s.pending := by
  simp [pollSlot]

@[simp] theorem beginSweep_frame (s : State) :
    (beginSweep s).store = s.store ∧ (beginSweep s).meter = s.meter ∧ (beginSweep s).engine = s.engine ∧
      (beginSweep s).limits = s.limits ∧ (beginSweep s).xfer = s.xfer ∧ (beginSweep s).seq = s.seq ∧
      (beginSweep s).tracker = s.tracker ∧ (beginSweep s).console = s.console ∧ (beginSweep s).records = s.records ∧
      (beginSweep s).links = s.links ∧ (beginSweep s).time = s.time ∧ (beginSweep s).inputs = s.inputs ∧
      (beginSweep s).pending = s.pending := by
  simp only [beginSweep]; (repeat' split) <;> simp

@[simp] theorem stopSweep_frame (s : State) :
    (stopSweep s).store = s.store ∧ (stopSweep s).meter = s.meter ∧ (stopSweep s).engine = s.engine ∧
      (stopSweep s).limits = s.limits ∧ (stopSweep s).xfer = s.xfer ∧ (stopSweep s).seq = s.seq ∧
      (stopSweep s).tracker = s.tracker ∧ (stopSweep s).console = s.console ∧ (stopSweep s).records = s.records ∧
      (stopSweep s).links = s.links ∧ (stopSweep s).time = s.time ∧ (stopSweep s).inputs = s.inputs ∧
      (stopSweep s).pending = s.pending := by
  simp [stopSweep]

@[simp] theorem updateGauges_frame (s : State) :
    (updateGauges s).store = s.store ∧ (updateGauges s).meter = s.meter ∧ (updateGauges s).engine = s.engine ∧
      (updateGauges s).limits = s.limits ∧ (updateGauges s).xfer = s.xfer ∧ (updateGauges s).seq = s.seq ∧
      (updateGauges s).tracker = s.tracker ∧ (updateGauges s).console = s.console ∧
      (updateGauges s).records = s.records ∧ (updateGauges s).links = s.links ∧ (updateGauges s).time = s.time ∧
      (updateGauges s).inputs = s.inputs ∧ (updateGauges s).pending = s.pending := by
  simp [updateGauges]

@[simp] theorem raiseGauge_frame (before s : State) :
    (raiseGauge before s).store = s.store ∧ (raiseGauge before s).gauge = s.gauge ∧
      (raiseGauge before s).meter = s.meter ∧ (raiseGauge before s).engine = s.engine ∧
      (raiseGauge before s).limits = s.limits ∧ (raiseGauge before s).xfer = s.xfer ∧
      (raiseGauge before s).seq = s.seq ∧ (raiseGauge before s).tracker = s.tracker ∧
      (raiseGauge before s).console = s.console ∧ (raiseGauge before s).records = s.records ∧
      (raiseGauge before s).time = s.time ∧ (raiseGauge before s).inputs = s.inputs ∧
      (raiseGauge before s).pending = s.pending := by
  simp only [raiseGauge]; (repeat' split) <;> simp

@[simp] theorem raiseGauge_fields (before s : State) :
    (raiseGauge before s).links.ship = s.links.ship ∧ (raiseGauge before s).links.shore = s.links.shore ∧
      (raiseGauge before s).links.enables = s.links.enables ∧ (raiseGauge before s).links.rate = s.links.rate := by
  simp only [raiseGauge]; (repeat' split) <;> simp

@[simp] theorem examineTank_frame (s : State) (c : Nat) :
    (examineTank s c).store = s.store ∧ (examineTank s c).meter = s.meter ∧ (examineTank s c).engine = s.engine ∧
      (examineTank s c).limits = s.limits ∧ (examineTank s c).xfer = s.xfer ∧ (examineTank s c).seq = s.seq ∧
      (examineTank s c).tracker = s.tracker ∧ (examineTank s c).console = s.console ∧
      (examineTank s c).records = s.records ∧ (examineTank s c).time = s.time ∧ (examineTank s c).inputs = s.inputs ∧
      (examineTank s c).pending = s.pending := by
  simp only [examineTank]; (repeat' split) <;> simp

@[simp] theorem examineTank_fields (s : State) (c : Nat) :
    (examineTank s c).links.ship = s.links.ship ∧ (examineTank s c).links.shore = s.links.shore ∧
      (examineTank s c).links.enables = s.links.enables ∧ (examineTank s c).links.rate = s.links.rate := by
  simp only [examineTank]; (repeat' split) <;> simp

@[simp] theorem examineTanks_frame (s : State) :
    (examineTanks s).store = s.store ∧ (examineTanks s).meter = s.meter ∧ (examineTanks s).engine = s.engine ∧
      (examineTanks s).limits = s.limits ∧ (examineTanks s).xfer = s.xfer ∧ (examineTanks s).seq = s.seq ∧
      (examineTanks s).tracker = s.tracker ∧ (examineTanks s).console = s.console ∧
      (examineTanks s).records = s.records ∧ (examineTanks s).time = s.time ∧ (examineTanks s).inputs = s.inputs ∧
      (examineTanks s).pending = s.pending := by
  unfold examineTanks
  refine ⟨(foldl_keep (fun s => s.store) _ (by simp) _ _).trans (by simp),
    (foldl_keep (fun s => s.meter) _ (by simp) _ _).trans (by simp),
    (foldl_keep (fun s => s.engine) _ (by simp) _ _).trans (by simp),
    (foldl_keep (fun s => s.limits) _ (by simp) _ _).trans (by simp),
    (foldl_keep (fun s => s.xfer) _ (by simp) _ _).trans (by simp),
    (foldl_keep (fun s => s.seq) _ (by simp) _ _).trans (by simp),
    (foldl_keep (fun s => s.tracker) _ (by simp) _ _).trans (by simp),
    (foldl_keep (fun s => s.console) _ (by simp) _ _).trans (by simp),
    (foldl_keep (fun s => s.records) _ (by simp) _ _).trans (by simp),
    (foldl_keep (fun s => s.time) _ (by simp) _ _).trans (by simp),
    (foldl_keep (fun s => s.inputs) _ (by simp) _ _).trans (by simp),
    (foldl_keep (fun s => s.pending) _ (by simp) _ _).trans (by simp)⟩

@[simp] theorem examineTanks_fields (s : State) :
    (examineTanks s).links.ship = s.links.ship ∧ (examineTanks s).links.shore = s.links.shore ∧
      (examineTanks s).links.enables = s.links.enables ∧ (examineTanks s).links.rate = s.links.rate := by
  unfold examineTanks
  refine ⟨(foldl_keep (fun s => s.links.ship) _ (by simp) _ _).trans (by simp),
    (foldl_keep (fun s => s.links.shore) _ (by simp) _ _).trans (by simp),
    (foldl_keep (fun s => s.links.enables) _ (by simp) _ _).trans (by simp),
    (foldl_keep (fun s => s.links.rate) _ (by simp) _ _).trans (by simp)⟩

@[simp] theorem updateLine_frame (s : State) (d : Driver) :
    (updateLine s d).store = s.store ∧ (updateLine s d).gauge = s.gauge ∧ (updateLine s d).engine = s.engine ∧
      (updateLine s d).limits = s.limits ∧ (updateLine s d).xfer = s.xfer ∧ (updateLine s d).seq = s.seq ∧
      (updateLine s d).tracker = s.tracker ∧ (updateLine s d).console = s.console ∧
      (updateLine s d).records = s.records ∧ (updateLine s d).links = s.links ∧ (updateLine s d).time = s.time ∧
      (updateLine s d).inputs = s.inputs ∧ (updateLine s d).pending = s.pending := by
  simp only [updateLine]; (repeat' split) <;> simp

@[simp] theorem updateLines_frame (s : State) :
    (updateLines s).store = s.store ∧ (updateLines s).gauge = s.gauge ∧ (updateLines s).engine = s.engine ∧
      (updateLines s).limits = s.limits ∧ (updateLines s).xfer = s.xfer ∧ (updateLines s).seq = s.seq ∧
      (updateLines s).tracker = s.tracker ∧ (updateLines s).console = s.console ∧ (updateLines s).records = s.records ∧
      (updateLines s).links = s.links ∧ (updateLines s).time = s.time ∧ (updateLines s).inputs = s.inputs ∧
      (updateLines s).pending = s.pending := by
  simp [updateLines]

@[simp] theorem sweepEnd_frame (s : State) :
    (sweepEnd s).store = s.store ∧ (sweepEnd s).limits = s.limits ∧ (sweepEnd s).time = s.time ∧
      (sweepEnd s).inputs = s.inputs ∧ (sweepEnd s).pending = s.pending := by
  simp [sweepEnd]

@[simp] theorem sweepEnd_fields (s : State) :
    (sweepEnd s).links.ship = s.links.ship ∧ (sweepEnd s).links.shore = s.links.shore ∧
      (sweepEnd s).links.enables = s.links.enables ∧ (sweepEnd s).links.rate = s.links.rate ∧
      (sweepEnd s).seq.active = s.seq.active ∧ (sweepEnd s).seq.standby = s.seq.standby ∧
      (sweepEnd s).tracker.op = s.tracker.op ∧ (sweepEnd s).tracker.opbgStamp = s.tracker.opbgStamp ∧
      (sweepEnd s).tracker.opndStamp = s.tracker.opndStamp ∧ (sweepEnd s).tracker.density = s.tracker.density ∧
      (sweepEnd s).tracker.active = s.tracker.active ∧ (sweepEnd s).tracker.standby = s.tracker.standby ∧
      (sweepEnd s).tracker.pos = s.tracker.pos ∧ (sweepEnd s).tracker.gen = s.tracker.gen ∧
      (sweepEnd s).tracker.exchange = s.tracker.exchange ∧ (sweepEnd s).tracker.prevRob = s.tracker.prevRob ∧
      (sweepEnd s).tracker.lag = s.tracker.lag ∧ (sweepEnd s).tracker.lagBefore = s.tracker.lagBefore ∧
      (sweepEnd s).tracker.standing = s.tracker.standing ∧ (sweepEnd s).tracker.holds = s.tracker.holds ∧
      (sweepEnd s).tracker.corrections = s.tracker.corrections ∧ (sweepEnd s).tracker.history = s.tracker.history ∧
      (sweepEnd s).tracker.ended = s.tracker.ended ∧ (sweepEnd s).engine.published = s.engine.published ∧
      (sweepEnd s).engine.nextSeq = s.engine.nextSeq ∧ (sweepEnd s).engine.result = s.engine.result ∧
      (sweepEnd s).engine.lastKind = s.engine.lastKind ∧ (sweepEnd s).engine.fixed = s.engine.fixed := by
  simp [sweepEnd]

@[simp] theorem finishSweep_frame (s : State) :
    (finishSweep s).store = s.store ∧ (finishSweep s).limits = s.limits ∧ (finishSweep s).time = s.time ∧
      (finishSweep s).inputs = s.inputs ∧ (finishSweep s).pending = s.pending := by
  simp [finishSweep]

@[simp] theorem finishSweep_fields (s : State) :
    (finishSweep s).links.ship = s.links.ship ∧ (finishSweep s).links.shore = s.links.shore ∧
      (finishSweep s).links.enables = s.links.enables ∧ (finishSweep s).links.rate = s.links.rate ∧
      (finishSweep s).seq.active = s.seq.active ∧ (finishSweep s).seq.standby = s.seq.standby ∧
      (finishSweep s).tracker.op = s.tracker.op ∧ (finishSweep s).tracker.opbgStamp = s.tracker.opbgStamp ∧
      (finishSweep s).tracker.opndStamp = s.tracker.opndStamp ∧ (finishSweep s).tracker.density = s.tracker.density ∧
      (finishSweep s).tracker.active = s.tracker.active ∧ (finishSweep s).tracker.standby = s.tracker.standby ∧
      (finishSweep s).tracker.pos = s.tracker.pos ∧ (finishSweep s).tracker.gen = s.tracker.gen ∧
      (finishSweep s).tracker.exchange = s.tracker.exchange ∧ (finishSweep s).tracker.prevRob = s.tracker.prevRob ∧
      (finishSweep s).tracker.lag = s.tracker.lag ∧ (finishSweep s).tracker.lagBefore = s.tracker.lagBefore ∧
      (finishSweep s).tracker.standing = s.tracker.standing ∧ (finishSweep s).tracker.holds = s.tracker.holds ∧
      (finishSweep s).tracker.corrections = s.tracker.corrections ∧
      (finishSweep s).tracker.history = s.tracker.history ∧ (finishSweep s).tracker.ended = s.tracker.ended ∧
      (finishSweep s).engine.published = s.engine.published ∧ (finishSweep s).engine.nextSeq = s.engine.nextSeq ∧
      (finishSweep s).engine.result = s.engine.result ∧ (finishSweep s).engine.lastKind = s.engine.lastKind ∧
      (finishSweep s).engine.fixed = s.engine.fixed := by
  simp [finishSweep]

@[simp] theorem takeReading_frame (r : Reading) (s : State) :
    (takeReading r s).store = s.store ∧ (takeReading r s).limits = s.limits ∧ (takeReading r s).time = s.time ∧
      (takeReading r s).inputs = s.inputs ∧ (takeReading r s).pending = s.pending := by
  simp only [takeReading]; (repeat' split) <;> simp

@[simp] theorem takeReading_fields (r : Reading) (s : State) :
    (takeReading r s).links.ship = s.links.ship ∧ (takeReading r s).links.shore = s.links.shore ∧
      (takeReading r s).links.enables = s.links.enables ∧ (takeReading r s).links.rate = s.links.rate ∧
      (takeReading r s).seq.active = s.seq.active ∧ (takeReading r s).seq.standby = s.seq.standby ∧
      (takeReading r s).tracker.op = s.tracker.op ∧ (takeReading r s).tracker.opbgStamp = s.tracker.opbgStamp ∧
      (takeReading r s).tracker.opndStamp = s.tracker.opndStamp ∧
      (takeReading r s).tracker.density = s.tracker.density ∧ (takeReading r s).tracker.active = s.tracker.active ∧
      (takeReading r s).tracker.standby = s.tracker.standby ∧ (takeReading r s).tracker.pos = s.tracker.pos ∧
      (takeReading r s).tracker.gen = s.tracker.gen ∧ (takeReading r s).tracker.exchange = s.tracker.exchange ∧
      (takeReading r s).tracker.prevRob = s.tracker.prevRob ∧ (takeReading r s).tracker.lag = s.tracker.lag ∧
      (takeReading r s).tracker.lagBefore = s.tracker.lagBefore ∧
      (takeReading r s).tracker.standing = s.tracker.standing ∧ (takeReading r s).tracker.holds = s.tracker.holds ∧
      (takeReading r s).tracker.corrections = s.tracker.corrections ∧
      (takeReading r s).tracker.history = s.tracker.history ∧ (takeReading r s).tracker.ended = s.tracker.ended ∧
      (takeReading r s).engine.published = s.engine.published ∧ (takeReading r s).engine.nextSeq = s.engine.nextSeq ∧
      (takeReading r s).engine.result = s.engine.result ∧ (takeReading r s).engine.lastKind = s.engine.lastKind ∧
      (takeReading r s).engine.fixed = s.engine.fixed := by
  simp only [takeReading]; (repeat' split) <;> simp

@[simp] theorem countPulse_frame (p : Pump) (s : State) :
    (countPulse p s).store = s.store ∧ (countPulse p s).gauge = s.gauge ∧ (countPulse p s).engine = s.engine ∧
      (countPulse p s).limits = s.limits ∧ (countPulse p s).seq = s.seq ∧ (countPulse p s).tracker = s.tracker ∧
      (countPulse p s).console = s.console ∧ (countPulse p s).records = s.records ∧ (countPulse p s).links = s.links ∧
      (countPulse p s).time = s.time ∧ (countPulse p s).inputs = s.inputs ∧ (countPulse p s).pending = s.pending := by
  simp only [countPulse]; (repeat' split) <;> simp

@[simp] theorem watchFlow_frame (p : Pump) (s : State) :
    (watchFlow p s).store = s.store ∧ (watchFlow p s).gauge = s.gauge ∧ (watchFlow p s).engine = s.engine ∧
      (watchFlow p s).limits = s.limits ∧ (watchFlow p s).xfer = s.xfer ∧ (watchFlow p s).seq = s.seq ∧
      (watchFlow p s).tracker = s.tracker ∧ (watchFlow p s).console = s.console ∧ (watchFlow p s).records = s.records ∧
      (watchFlow p s).links = s.links ∧ (watchFlow p s).time = s.time ∧ (watchFlow p s).inputs = s.inputs ∧
      (watchFlow p s).pending = s.pending := by
  simp [watchFlow]

@[simp] theorem firstPulse_frame (d : Driver) (s : State) :
    (firstPulse d s).store = s.store ∧ (firstPulse d s).gauge = s.gauge ∧ (firstPulse d s).meter = s.meter ∧
      (firstPulse d s).engine = s.engine ∧ (firstPulse d s).limits = s.limits ∧ (firstPulse d s).tracker = s.tracker ∧
      (firstPulse d s).console = s.console ∧ (firstPulse d s).records = s.records ∧ (firstPulse d s).links = s.links ∧
      (firstPulse d s).time = s.time ∧ (firstPulse d s).inputs = s.inputs ∧ (firstPulse d s).pending = s.pending := by
  simp only [firstPulse]; (repeat' split) <;> simp

@[simp] theorem firstPulse_fields (d : Driver) (s : State) :
    (firstPulse d s).seq.active = s.seq.active ∧ (firstPulse d s).seq.standby = s.seq.standby ∧
      (firstPulse d s).seq.stage = s.seq.stage := by
  simp only [firstPulse]; (repeat' split) <;> simp

@[simp] theorem takePulse_frame (p : Pump) (s : State) :
    (takePulse p s).store = s.store ∧ (takePulse p s).gauge = s.gauge ∧ (takePulse p s).engine = s.engine ∧
      (takePulse p s).limits = s.limits ∧ (takePulse p s).tracker = s.tracker ∧ (takePulse p s).console = s.console ∧
      (takePulse p s).records = s.records ∧ (takePulse p s).links = s.links ∧ (takePulse p s).time = s.time ∧
      (takePulse p s).inputs = s.inputs ∧ (takePulse p s).pending = s.pending := by
  simp only [takePulse]; (repeat' split) <;> simp

@[simp] theorem takePulse_fields (p : Pump) (s : State) :
    (takePulse p s).seq.active = s.seq.active ∧ (takePulse p s).seq.standby = s.seq.standby ∧
      (takePulse p s).seq.stage = s.seq.stage := by
  simp only [takePulse]; (repeat' split) <;> simp

@[simp] theorem closeSecond_frame (s : State) (p : Pump) :
    (closeSecond s p).store = s.store ∧ (closeSecond s p).gauge = s.gauge ∧ (closeSecond s p).engine = s.engine ∧
      (closeSecond s p).limits = s.limits ∧ (closeSecond s p).xfer = s.xfer ∧ (closeSecond s p).seq = s.seq ∧
      (closeSecond s p).tracker = s.tracker ∧ (closeSecond s p).console = s.console ∧
      (closeSecond s p).records = s.records ∧ (closeSecond s p).links = s.links ∧ (closeSecond s p).time = s.time ∧
      (closeSecond s p).inputs = s.inputs ∧ (closeSecond s p).pending = s.pending := by
  simp [closeSecond]

@[simp] theorem raiseClock_frame (s : State) :
    (raiseClock s).store = s.store ∧ (raiseClock s).gauge = s.gauge ∧ (raiseClock s).meter = s.meter ∧
      (raiseClock s).engine = s.engine ∧ (raiseClock s).limits = s.limits ∧ (raiseClock s).xfer = s.xfer ∧
      (raiseClock s).seq = s.seq ∧ (raiseClock s).tracker = s.tracker ∧ (raiseClock s).console = s.console ∧
      (raiseClock s).records = s.records ∧ (raiseClock s).links = s.links ∧ (raiseClock s).inputs = s.inputs ∧
      (raiseClock s).pending = s.pending := by
  simp [raiseClock]

@[simp] theorem clearRates_frame (s : State) :
    (clearRates s).store = s.store ∧ (clearRates s).gauge = s.gauge ∧ (clearRates s).engine = s.engine ∧
      (clearRates s).limits = s.limits ∧ (clearRates s).xfer = s.xfer ∧ (clearRates s).seq = s.seq ∧
      (clearRates s).tracker = s.tracker ∧ (clearRates s).console = s.console ∧ (clearRates s).records = s.records ∧
      (clearRates s).links = s.links ∧ (clearRates s).time = s.time ∧ (clearRates s).inputs = s.inputs ∧
      (clearRates s).pending = s.pending := by
  simp [clearRates, pumps]

@[simp] theorem secondBoundary_frame (s : State) :
    (secondBoundary s).store = s.store ∧ (secondBoundary s).gauge = s.gauge ∧ (secondBoundary s).engine = s.engine ∧
      (secondBoundary s).limits = s.limits ∧ (secondBoundary s).xfer = s.xfer ∧ (secondBoundary s).seq = s.seq ∧
      (secondBoundary s).tracker = s.tracker ∧ (secondBoundary s).console = s.console ∧
      (secondBoundary s).records = s.records ∧ (secondBoundary s).links = s.links ∧
      (secondBoundary s).inputs = s.inputs ∧ (secondBoundary s).pending = s.pending := by
  simp [secondBoundary, pumps]

/-! ## The ship data -/

@[simp] theorem withdrawData_frame (before s : State) :
    (withdrawData before s).store = s.store ∧ (withdrawData before s).tracker = s.tracker ∧
      (withdrawData before s).time = s.time ∧ (withdrawData before s).inputs = s.inputs ∧
      (withdrawData before s).pending = s.pending := by
  simp [withdrawData]

@[simp] theorem withdrawData_fields (before s : State) :
    (withdrawData before s).links.ship = s.links.ship ∧ (withdrawData before s).links.shore = s.links.shore ∧
      (withdrawData before s).links.enables = s.links.enables ∧ (withdrawData before s).links.rate = s.links.rate ∧
      (withdrawData before s).seq.active = s.seq.active ∧ (withdrawData before s).seq.standby = s.seq.standby ∧
      (withdrawData before s).seq.stage = s.seq.stage := by
  simp [withdrawData]

@[simp] theorem uncommit_frame (before s : State) :
    (uncommit before s).tracker = s.tracker ∧ (uncommit before s).time = s.time ∧ (uncommit before s).inputs = s.inputs ∧
      (uncommit before s).pending = s.pending := by
  simp only [uncommit]; (repeat' split) <;> simp

@[simp] theorem uncommit_fields (before s : State) :
    (uncommit before s).links.ship = s.links.ship ∧ (uncommit before s).links.shore = s.links.shore ∧
      (uncommit before s).links.enables = s.links.enables ∧ (uncommit before s).links.rate = s.links.rate ∧
      (uncommit before s).seq.active = s.seq.active ∧ (uncommit before s).seq.standby = s.seq.standby ∧
      (uncommit before s).seq.stage = s.seq.stage := by
  simp only [uncommit]; (repeat' split) <;> simp

@[simp] theorem enforceTables_frame (before s : State) :
    (enforceTables before s).store = s.store ∧ (enforceTables before s).limits = s.limits ∧
      (enforceTables before s).tracker = s.tracker ∧ (enforceTables before s).time = s.time ∧
      (enforceTables before s).inputs = s.inputs ∧ (enforceTables before s).pending = s.pending := by
  simp [enforceTables]

@[simp] theorem enforceTables_fields (before s : State) :
    (enforceTables before s).links.ship = s.links.ship ∧ (enforceTables before s).links.shore = s.links.shore ∧
      (enforceTables before s).links.enables = s.links.enables ∧ (enforceTables before s).links.rate = s.links.rate ∧
      (enforceTables before s).seq.active = s.seq.active ∧ (enforceTables before s).seq.standby = s.seq.standby ∧
      (enforceTables before s).seq.stage = s.seq.stage := by
  simp [enforceTables]

@[simp] theorem validate_frame (c : BitVec 32) (s : State) :
    (validate c s).gauge = s.gauge ∧ (validate c s).meter = s.meter ∧ (validate c s).engine = s.engine ∧
      (validate c s).limits = s.limits ∧ (validate c s).xfer = s.xfer ∧ (validate c s).seq = s.seq ∧
      (validate c s).tracker = s.tracker ∧ (validate c s).console = s.console ∧ (validate c s).records = s.records ∧
      (validate c s).links = s.links ∧ (validate c s).time = s.time ∧ (validate c s).inputs = s.inputs ∧
      (validate c s).pending = s.pending := by
  simp [validate]

@[simp] theorem invalidate_frame (f : FaultRecord) (s : State) :
    (invalidate f s).gauge = s.gauge ∧ (invalidate f s).meter = s.meter ∧ (invalidate f s).engine = s.engine ∧
      (invalidate f s).limits = s.limits ∧ (invalidate f s).xfer = s.xfer ∧ (invalidate f s).seq = s.seq ∧
      (invalidate f s).tracker = s.tracker ∧ (invalidate f s).console = s.console ∧
      (invalidate f s).records = s.records ∧ (invalidate f s).links = s.links ∧ (invalidate f s).time = s.time ∧
      (invalidate f s).inputs = s.inputs ∧ (invalidate f s).pending = s.pending := by
  simp [invalidate]

@[simp] theorem startCommit_frame (s : State) :
    (startCommit s).gauge = s.gauge ∧ (startCommit s).meter = s.meter ∧ (startCommit s).engine = s.engine ∧
      (startCommit s).limits = s.limits ∧ (startCommit s).xfer = s.xfer ∧ (startCommit s).seq = s.seq ∧
      (startCommit s).tracker = s.tracker ∧ (startCommit s).console = s.console ∧ (startCommit s).records = s.records ∧
      (startCommit s).links = s.links ∧ (startCommit s).time = s.time ∧ (startCommit s).inputs = s.inputs ∧
      (startCommit s).pending = s.pending := by
  simp [startCommit]

@[simp] theorem endCommit_frame (s : State) :
    (endCommit s).gauge = s.gauge ∧ (endCommit s).meter = s.meter ∧ (endCommit s).engine = s.engine ∧
      (endCommit s).limits = s.limits ∧ (endCommit s).xfer = s.xfer ∧ (endCommit s).seq = s.seq ∧
      (endCommit s).tracker = s.tracker ∧ (endCommit s).console = s.console ∧ (endCommit s).records = s.records ∧
      (endCommit s).links = s.links ∧ (endCommit s).time = s.time ∧ (endCommit s).inputs = s.inputs ∧
      (endCommit s).pending = s.pending := by
  simp [endCommit]

/-! ## The loading operation -/

@[simp] theorem beginEngine_frame (s : State) :
    (beginEngine s).store = s.store ∧ (beginEngine s).gauge = s.gauge ∧ (beginEngine s).meter = s.meter ∧
      (beginEngine s).limits = s.limits ∧ (beginEngine s).xfer = s.xfer ∧ (beginEngine s).seq = s.seq ∧
      (beginEngine s).tracker = s.tracker ∧ (beginEngine s).console = s.console ∧ (beginEngine s).records = s.records ∧
      (beginEngine s).links = s.links ∧ (beginEngine s).time = s.time ∧ (beginEngine s).inputs = s.inputs ∧
      (beginEngine s).pending = s.pending := by
  simp [beginEngine]

@[simp] theorem beginGauges_frame (ρ : Nat) (s : State) :
    (beginGauges ρ s).store = s.store ∧ (beginGauges ρ s).meter = s.meter ∧ (beginGauges ρ s).engine = s.engine ∧
      (beginGauges ρ s).limits = s.limits ∧ (beginGauges ρ s).xfer = s.xfer ∧ (beginGauges ρ s).seq = s.seq ∧
      (beginGauges ρ s).tracker = s.tracker ∧ (beginGauges ρ s).records = s.records ∧
      (beginGauges ρ s).links = s.links ∧ (beginGauges ρ s).time = s.time ∧ (beginGauges ρ s).inputs = s.inputs ∧
      (beginGauges ρ s).pending = s.pending := by
  simp [beginGauges]

@[simp] theorem clearUnattributed_frame (s : State) :
    (clearUnattributed s).store = s.store ∧ (clearUnattributed s).gauge = s.gauge ∧
      (clearUnattributed s).engine = s.engine ∧ (clearUnattributed s).limits = s.limits ∧
      (clearUnattributed s).xfer = s.xfer ∧ (clearUnattributed s).seq = s.seq ∧
      (clearUnattributed s).tracker = s.tracker ∧ (clearUnattributed s).console = s.console ∧
      (clearUnattributed s).records = s.records ∧ (clearUnattributed s).links = s.links ∧
      (clearUnattributed s).time = s.time ∧ (clearUnattributed s).inputs = s.inputs ∧
      (clearUnattributed s).pending = s.pending := by
  simp [clearUnattributed, pumps]

@[simp] theorem beginRecords_frame (s : State) :
    (beginRecords s).store = s.store ∧ (beginRecords s).gauge = s.gauge ∧ (beginRecords s).meter = s.meter ∧
      (beginRecords s).engine = s.engine ∧ (beginRecords s).limits = s.limits ∧ (beginRecords s).xfer = s.xfer ∧
      (beginRecords s).seq = s.seq ∧ (beginRecords s).tracker = s.tracker ∧ (beginRecords s).console = s.console ∧
      (beginRecords s).links = s.links ∧ (beginRecords s).time = s.time ∧ (beginRecords s).inputs = s.inputs ∧
      (beginRecords s).pending = s.pending := by
  simp [beginRecords]

@[simp] theorem beginTracker_frame (p : OpParams) (s : State) :
    (beginTracker p s).store = s.store ∧ (beginTracker p s).gauge = s.gauge ∧ (beginTracker p s).meter = s.meter ∧
      (beginTracker p s).engine = s.engine ∧ (beginTracker p s).limits = s.limits ∧ (beginTracker p s).xfer = s.xfer ∧
      (beginTracker p s).seq = s.seq ∧ (beginTracker p s).console = s.console ∧
      (beginTracker p s).records = s.records ∧ (beginTracker p s).links = s.links ∧ (beginTracker p s).time = s.time ∧
      (beginTracker p s).inputs = s.inputs ∧ (beginTracker p s).pending = s.pending := by
  simp [beginTracker]

@[simp] theorem beginGainAndStage_frame (p : OpParams) (s : State) :
    (beginGainAndStage p s).store = s.store ∧ (beginGainAndStage p s).gauge = s.gauge ∧
      (beginGainAndStage p s).meter = s.meter ∧ (beginGainAndStage p s).engine = s.engine ∧
      (beginGainAndStage p s).limits = s.limits ∧ (beginGainAndStage p s).tracker = s.tracker ∧
      (beginGainAndStage p s).console = s.console ∧ (beginGainAndStage p s).records = s.records ∧
      (beginGainAndStage p s).links = s.links ∧ (beginGainAndStage p s).time = s.time ∧
      (beginGainAndStage p s).inputs = s.inputs ∧ (beginGainAndStage p s).pending = s.pending := by
  simp [beginGainAndStage]

@[simp] theorem beginGainAndStage_fields (p : OpParams) (s : State) :
    (beginGainAndStage p s).seq.active = s.seq.active ∧ (beginGainAndStage p s).seq.standby = s.seq.standby := by
  simp [beginGainAndStage]

@[simp] theorem announcePlanDone_frame (s : State) :
    (announcePlanDone s).store = s.store ∧ (announcePlanDone s).gauge = s.gauge ∧
      (announcePlanDone s).meter = s.meter ∧ (announcePlanDone s).engine = s.engine ∧
      (announcePlanDone s).limits = s.limits ∧ (announcePlanDone s).xfer = s.xfer ∧ (announcePlanDone s).seq = s.seq ∧
      (announcePlanDone s).tracker = s.tracker ∧ (announcePlanDone s).console = s.console ∧
      (announcePlanDone s).records = s.records ∧ (announcePlanDone s).time = s.time ∧
      (announcePlanDone s).inputs = s.inputs ∧ (announcePlanDone s).pending = s.pending := by
  simp only [announcePlanDone]; (repeat' split) <;> simp

@[simp] theorem announcePlanDone_fields (s : State) :
    (announcePlanDone s).links.ship = s.links.ship ∧ (announcePlanDone s).links.shore = s.links.shore ∧
      (announcePlanDone s).links.enables = s.links.enables ∧ (announcePlanDone s).links.rate = s.links.rate := by
  simp only [announcePlanDone]; (repeat' split) <;> simp

@[simp] theorem beginOperation_frame (p : OpParams) (s : State) :
    (beginOperation p s).store = s.store ∧ (beginOperation p s).time = s.time ∧
      (beginOperation p s).inputs = s.inputs ∧ (beginOperation p s).pending = s.pending := by
  simp [beginOperation]

@[simp] theorem beginOperation_fields (p : OpParams) (s : State) :
    (beginOperation p s).links.ship = s.links.ship ∧ (beginOperation p s).links.shore = s.links.shore ∧
      (beginOperation p s).links.enables = s.links.enables ∧ (beginOperation p s).links.rate = s.links.rate ∧
      (beginOperation p s).seq.active = s.seq.active ∧ (beginOperation p s).seq.standby = s.seq.standby := by
  simp [beginOperation]

@[simp] theorem endOperation_frame (s : State) :
    (endOperation s).store = s.store ∧ (endOperation s).gauge = s.gauge ∧ (endOperation s).meter = s.meter ∧
      (endOperation s).engine = s.engine ∧ (endOperation s).xfer = s.xfer ∧ (endOperation s).seq = s.seq ∧
      (endOperation s).console = s.console ∧ (endOperation s).records = s.records ∧ (endOperation s).links = s.links ∧
      (endOperation s).time = s.time ∧ (endOperation s).inputs = s.inputs ∧ (endOperation s).pending = s.pending := by
  simp [endOperation]

@[simp] theorem swapPlans_frame (s : State) :
    (swapPlans s).store = s.store ∧ (swapPlans s).gauge = s.gauge ∧ (swapPlans s).meter = s.meter ∧
      (swapPlans s).engine = s.engine ∧ (swapPlans s).limits = s.limits ∧ (swapPlans s).xfer = s.xfer ∧
      (swapPlans s).seq = s.seq ∧ (swapPlans s).console = s.console ∧ (swapPlans s).records = s.records ∧
      (swapPlans s).links = s.links ∧ (swapPlans s).time = s.time ∧ (swapPlans s).inputs = s.inputs ∧
      (swapPlans s).pending = s.pending := by
  simp [swapPlans]

@[simp] theorem voidPermit_frame (before s : State) :
    (voidPermit before s).store = s.store ∧ (voidPermit before s).gauge = s.gauge ∧
      (voidPermit before s).meter = s.meter ∧ (voidPermit before s).engine = s.engine ∧
      (voidPermit before s).limits = s.limits ∧ (voidPermit before s).xfer = s.xfer ∧
      (voidPermit before s).seq = s.seq ∧ (voidPermit before s).tracker = s.tracker ∧
      (voidPermit before s).console = s.console ∧ (voidPermit before s).records = s.records ∧
      (voidPermit before s).time = s.time ∧ (voidPermit before s).inputs = s.inputs ∧
      (voidPermit before s).pending = s.pending := by
  simp only [voidPermit]; (repeat' split) <;> simp

@[simp] theorem voidPermit_fields (before s : State) :
    (voidPermit before s).links.ship = s.links.ship ∧ (voidPermit before s).links.shore = s.links.shore ∧
      (voidPermit before s).links.enables = s.links.enables ∧ (voidPermit before s).links.rate = s.links.rate := by
  simp only [voidPermit]; (repeat' split) <;> simp

@[simp] theorem applyExchange_frame (s : State) :
    (applyExchange s).store = s.store ∧ (applyExchange s).gauge = s.gauge ∧ (applyExchange s).meter = s.meter ∧
      (applyExchange s).engine = s.engine ∧ (applyExchange s).limits = s.limits ∧ (applyExchange s).xfer = s.xfer ∧
      (applyExchange s).console = s.console ∧ (applyExchange s).records = s.records ∧ (applyExchange s).time = s.time ∧
      (applyExchange s).inputs = s.inputs ∧ (applyExchange s).pending = s.pending := by
  simp [applyExchange]

@[simp] theorem applyExchange_fields (s : State) :
    (applyExchange s).links.ship = s.links.ship ∧ (applyExchange s).links.shore = s.links.shore ∧
      (applyExchange s).links.enables = s.links.enables ∧ (applyExchange s).links.rate = s.links.rate ∧
      (applyExchange s).seq.active = s.seq.active ∧ (applyExchange s).seq.standby = s.seq.standby ∧
      (applyExchange s).seq.stage = s.seq.stage := by
  simp [applyExchange]

@[simp] theorem setHold_frame (h m : Nat) (s : State) :
    (setHold h m s).store = s.store ∧ (setHold h m s).gauge = s.gauge ∧ (setHold h m s).meter = s.meter ∧
      (setHold h m s).limits = s.limits ∧ (setHold h m s).xfer = s.xfer ∧ (setHold h m s).console = s.console ∧
      (setHold h m s).records = s.records ∧ (setHold h m s).time = s.time ∧ (setHold h m s).inputs = s.inputs ∧
      (setHold h m s).pending = s.pending := by
  simp [setHold]

@[simp] theorem setHold_fields (h m : Nat) (s : State) :
    (setHold h m s).links.ship = s.links.ship ∧ (setHold h m s).links.shore = s.links.shore ∧
      (setHold h m s).links.enables = s.links.enables ∧ (setHold h m s).links.rate = s.links.rate ∧
      (setHold h m s).seq.active = s.seq.active ∧ (setHold h m s).seq.standby = s.seq.standby ∧
      (setHold h m s).seq.stage = s.seq.stage ∧ (setHold h m s).engine.published = s.engine.published ∧
      (setHold h m s).engine.nextSeq = s.engine.nextSeq ∧ (setHold h m s).engine.result = s.engine.result ∧
      (setHold h m s).engine.lastKind = s.engine.lastKind ∧ (setHold h m s).engine.fixed = s.engine.fixed := by
  simp [setHold]

@[simp] theorem startPour_frame (p : CurrentPour) (s : State) :
    (startPour p s).store = s.store ∧ (startPour p s).gauge = s.gauge ∧ (startPour p s).meter = s.meter ∧
      (startPour p s).engine = s.engine ∧ (startPour p s).limits = s.limits ∧ (startPour p s).xfer = s.xfer ∧
      (startPour p s).seq = s.seq ∧ (startPour p s).console = s.console ∧ (startPour p s).records = s.records ∧
      (startPour p s).time = s.time ∧ (startPour p s).inputs = s.inputs ∧ (startPour p s).pending = s.pending := by
  simp [startPour]

@[simp] theorem startPour_fields (p : CurrentPour) (s : State) :
    (startPour p s).links.ship = s.links.ship ∧ (startPour p s).links.shore = s.links.shore ∧
      (startPour p s).links.enables = s.links.enables ∧ (startPour p s).links.rate = s.links.rate := by
  simp [startPour]

@[simp] theorem openUnexpected_frame (pour hold : Nat) (s : State) :
    (openUnexpected pour hold s).store = s.store ∧ (openUnexpected pour hold s).gauge = s.gauge ∧
      (openUnexpected pour hold s).meter = s.meter ∧ (openUnexpected pour hold s).engine = s.engine ∧
      (openUnexpected pour hold s).limits = s.limits ∧ (openUnexpected pour hold s).xfer = s.xfer ∧
      (openUnexpected pour hold s).seq = s.seq ∧ (openUnexpected pour hold s).console = s.console ∧
      (openUnexpected pour hold s).records = s.records ∧ (openUnexpected pour hold s).time = s.time ∧
      (openUnexpected pour hold s).inputs = s.inputs ∧ (openUnexpected pour hold s).pending = s.pending := by
  simp [openUnexpected]

@[simp] theorem openUnexpected_fields (pour hold : Nat) (s : State) :
    (openUnexpected pour hold s).links.ship = s.links.ship ∧ (openUnexpected pour hold s).links.shore = s.links.shore ∧
      (openUnexpected pour hold s).links.enables = s.links.enables ∧
      (openUnexpected pour hold s).links.rate = s.links.rate := by
  simp [openUnexpected]

@[simp] theorem changePour_frame (f : CurrentPour → CurrentPour) (s : State) :
    (changePour f s).store = s.store ∧ (changePour f s).gauge = s.gauge ∧ (changePour f s).meter = s.meter ∧
      (changePour f s).engine = s.engine ∧ (changePour f s).limits = s.limits ∧ (changePour f s).xfer = s.xfer ∧
      (changePour f s).seq = s.seq ∧ (changePour f s).console = s.console ∧ (changePour f s).records = s.records ∧
      (changePour f s).links = s.links ∧ (changePour f s).time = s.time ∧ (changePour f s).inputs = s.inputs ∧
      (changePour f s).pending = s.pending := by
  simp [changePour]

@[simp] theorem latchRise_frame (p : CurrentPour) (tally : Nat) (s : State) :
    (latchRise p tally s).store = s.store ∧ (latchRise p tally s).gauge = s.gauge ∧
      (latchRise p tally s).meter = s.meter ∧ (latchRise p tally s).engine = s.engine ∧
      (latchRise p tally s).xfer = s.xfer ∧ (latchRise p tally s).console = s.console ∧
      (latchRise p tally s).records = s.records ∧ (latchRise p tally s).time = s.time ∧
      (latchRise p tally s).inputs = s.inputs ∧ (latchRise p tally s).pending = s.pending := by
  simp only [latchRise]; (repeat' split) <;> simp

@[simp] theorem latchRise_fields (p : CurrentPour) (tally : Nat) (s : State) :
    (latchRise p tally s).links.ship = s.links.ship ∧ (latchRise p tally s).links.shore = s.links.shore ∧
      (latchRise p tally s).links.enables = s.links.enables ∧ (latchRise p tally s).links.rate = s.links.rate ∧
      (latchRise p tally s).seq.active = s.seq.active ∧ (latchRise p tally s).seq.standby = s.seq.standby ∧
      (latchRise p tally s).seq.stage = s.seq.stage ∧ (latchRise p tally s).tracker.op = s.tracker.op ∧
      (latchRise p tally s).tracker.opbgStamp = s.tracker.opbgStamp ∧
      (latchRise p tally s).tracker.opndStamp = s.tracker.opndStamp ∧
      (latchRise p tally s).tracker.density = s.tracker.density ∧
      (latchRise p tally s).tracker.active = s.tracker.active ∧
      (latchRise p tally s).tracker.standby = s.tracker.standby ∧ (latchRise p tally s).tracker.pos = s.tracker.pos ∧
      (latchRise p tally s).tracker.gen = s.tracker.gen ∧ (latchRise p tally s).tracker.exchange = s.tracker.exchange ∧
      (latchRise p tally s).tracker.prevRob = s.tracker.prevRob ∧ (latchRise p tally s).tracker.lag = s.tracker.lag ∧
      (latchRise p tally s).tracker.lagBefore = s.tracker.lagBefore ∧
      (latchRise p tally s).tracker.standing = s.tracker.standing ∧
      (latchRise p tally s).tracker.holds = s.tracker.holds ∧
      (latchRise p tally s).tracker.corrections = s.tracker.corrections ∧
      (latchRise p tally s).tracker.history = s.tracker.history ∧
      (latchRise p tally s).tracker.ended = s.tracker.ended := by
  simp only [latchRise]; (repeat' split) <;> simp

@[simp] theorem storeTally_frame (p : CurrentPour) (tally : Nat) (s : State) :
    (storeTally p tally s).store = s.store ∧ (storeTally p tally s).gauge = s.gauge ∧
      (storeTally p tally s).meter = s.meter ∧ (storeTally p tally s).engine = s.engine ∧
      (storeTally p tally s).limits = s.limits ∧ (storeTally p tally s).xfer = s.xfer ∧
      (storeTally p tally s).seq = s.seq ∧ (storeTally p tally s).console = s.console ∧
      (storeTally p tally s).records = s.records ∧ (storeTally p tally s).links = s.links ∧
      (storeTally p tally s).time = s.time ∧ (storeTally p tally s).inputs = s.inputs ∧
      (storeTally p tally s).pending = s.pending := by
  simp [storeTally]

@[simp] theorem takeTally_frame (p : CurrentPour) (tally : Nat) (s : State) :
    (takeTally p tally s).store = s.store ∧ (takeTally p tally s).gauge = s.gauge ∧
      (takeTally p tally s).meter = s.meter ∧ (takeTally p tally s).engine = s.engine ∧
      (takeTally p tally s).xfer = s.xfer ∧ (takeTally p tally s).console = s.console ∧
      (takeTally p tally s).records = s.records ∧ (takeTally p tally s).time = s.time ∧
      (takeTally p tally s).inputs = s.inputs ∧ (takeTally p tally s).pending = s.pending := by
  simp [takeTally]

@[simp] theorem takeTally_fields (p : CurrentPour) (tally : Nat) (s : State) :
    (takeTally p tally s).links.ship = s.links.ship ∧ (takeTally p tally s).links.shore = s.links.shore ∧
      (takeTally p tally s).links.enables = s.links.enables ∧ (takeTally p tally s).links.rate = s.links.rate ∧
      (takeTally p tally s).seq.active = s.seq.active ∧ (takeTally p tally s).seq.standby = s.seq.standby ∧
      (takeTally p tally s).seq.stage = s.seq.stage := by
  simp [takeTally]

@[simp] theorem applyTally_frame (p : CurrentPour) (tally : Nat) (s : State) :
    (applyTally p tally s).store = s.store ∧ (applyTally p tally s).gauge = s.gauge ∧
      (applyTally p tally s).meter = s.meter ∧ (applyTally p tally s).xfer = s.xfer ∧
      (applyTally p tally s).console = s.console ∧ (applyTally p tally s).records = s.records ∧
      (applyTally p tally s).time = s.time ∧ (applyTally p tally s).inputs = s.inputs ∧
      (applyTally p tally s).pending = s.pending := by
  simp [applyTally]

@[simp] theorem applyTally_fields (p : CurrentPour) (tally : Nat) (s : State) :
    (applyTally p tally s).links.ship = s.links.ship ∧ (applyTally p tally s).links.shore = s.links.shore ∧
      (applyTally p tally s).links.enables = s.links.enables ∧ (applyTally p tally s).links.rate = s.links.rate ∧
      (applyTally p tally s).seq.active = s.seq.active ∧ (applyTally p tally s).seq.standby = s.seq.standby ∧
      (applyTally p tally s).seq.stage = s.seq.stage ∧ (applyTally p tally s).engine.published = s.engine.published ∧
      (applyTally p tally s).engine.nextSeq = s.engine.nextSeq ∧
      (applyTally p tally s).engine.result = s.engine.result ∧
      (applyTally p tally s).engine.lastKind = s.engine.lastKind ∧
      (applyTally p tally s).engine.fixed = s.engine.fixed := by
  simp [applyTally]

@[simp] theorem writeRecord_frame (p : CurrentPour) (s : State) :
    (writeRecord p s).store = s.store ∧ (writeRecord p s).gauge = s.gauge ∧ (writeRecord p s).meter = s.meter ∧
      (writeRecord p s).engine = s.engine ∧ (writeRecord p s).limits = s.limits ∧ (writeRecord p s).xfer = s.xfer ∧
      (writeRecord p s).seq = s.seq ∧ (writeRecord p s).console = s.console ∧ (writeRecord p s).records = s.records ∧
      (writeRecord p s).links = s.links ∧ (writeRecord p s).time = s.time ∧ (writeRecord p s).inputs = s.inputs ∧
      (writeRecord p s).pending = s.pending := by
  simp only [writeRecord]; (repeat' split) <;> simp

@[simp] theorem closePour_frame (p : CurrentPour) (s : State) :
    (closePour p s).store = s.store ∧ (closePour p s).gauge = s.gauge ∧ (closePour p s).meter = s.meter ∧
      (closePour p s).engine = s.engine ∧ (closePour p s).limits = s.limits ∧ (closePour p s).xfer = s.xfer ∧
      (closePour p s).seq = s.seq ∧ (closePour p s).console = s.console ∧ (closePour p s).records = s.records ∧
      (closePour p s).links = s.links ∧ (closePour p s).time = s.time ∧ (closePour p s).inputs = s.inputs ∧
      (closePour p s).pending = s.pending := by
  simp [closePour]

@[simp] theorem nextState_frame (s : State) :
    (nextState s).store = s.store ∧ (nextState s).gauge = s.gauge ∧ (nextState s).meter = s.meter ∧
      (nextState s).engine = s.engine ∧ (nextState s).limits = s.limits ∧ (nextState s).xfer = s.xfer ∧
      (nextState s).seq = s.seq ∧ (nextState s).console = s.console ∧ (nextState s).records = s.records ∧
      (nextState s).links = s.links ∧ (nextState s).time = s.time ∧ (nextState s).inputs = s.inputs ∧
      (nextState s).pending = s.pending := by
  simp [nextState]

@[simp] theorem applyPending_frame (s : State) :
    (applyPending s).store = s.store ∧ (applyPending s).gauge = s.gauge ∧ (applyPending s).meter = s.meter ∧
      (applyPending s).engine = s.engine ∧ (applyPending s).limits = s.limits ∧ (applyPending s).xfer = s.xfer ∧
      (applyPending s).console = s.console ∧ (applyPending s).records = s.records ∧ (applyPending s).time = s.time ∧
      (applyPending s).inputs = s.inputs ∧ (applyPending s).pending = s.pending := by
  simp only [applyPending]; (repeat' split) <;> simp

@[simp] theorem applyPending_fields (s : State) :
    (applyPending s).links.ship = s.links.ship ∧ (applyPending s).links.shore = s.links.shore ∧
      (applyPending s).links.enables = s.links.enables ∧ (applyPending s).links.rate = s.links.rate ∧
      (applyPending s).seq.active = s.seq.active ∧ (applyPending s).seq.standby = s.seq.standby ∧
      (applyPending s).seq.stage = s.seq.stage := by
  simp only [applyPending]; (repeat' split) <;> simp

@[simp] theorem recordPour_frame (p : CurrentPour) (s : State) :
    (recordPour p s).store = s.store ∧ (recordPour p s).limits = s.limits ∧ (recordPour p s).time = s.time ∧
      (recordPour p s).inputs = s.inputs ∧ (recordPour p s).pending = s.pending := by
  simp [recordPour]

@[simp] theorem recordPour_fields (p : CurrentPour) (s : State) :
    (recordPour p s).links.ship = s.links.ship ∧ (recordPour p s).links.shore = s.links.shore ∧
      (recordPour p s).links.enables = s.links.enables ∧ (recordPour p s).links.rate = s.links.rate ∧
      (recordPour p s).seq.active = s.seq.active ∧ (recordPour p s).seq.standby = s.seq.standby ∧
      (recordPour p s).engine.published = s.engine.published ∧ (recordPour p s).engine.nextSeq = s.engine.nextSeq ∧
      (recordPour p s).engine.result = s.engine.result ∧ (recordPour p s).engine.lastKind = s.engine.lastKind ∧
      (recordPour p s).engine.fixed = s.engine.fixed := by
  simp [recordPour]

@[simp] theorem endPour_frame (p : CurrentPour) (tally : Nat) (s : State) :
    (endPour p tally s).store = s.store ∧ (endPour p tally s).time = s.time ∧ (endPour p tally s).inputs = s.inputs ∧
      (endPour p tally s).pending = s.pending := by
  simp [endPour]

@[simp] theorem endPour_fields (p : CurrentPour) (tally : Nat) (s : State) :
    (endPour p tally s).links.ship = s.links.ship ∧ (endPour p tally s).links.shore = s.links.shore ∧
      (endPour p tally s).links.enables = s.links.enables ∧ (endPour p tally s).links.rate = s.links.rate ∧
      (endPour p tally s).seq.active = s.seq.active ∧ (endPour p tally s).seq.standby = s.seq.standby ∧
      (endPour p tally s).engine.published = s.engine.published ∧
      (endPour p tally s).engine.nextSeq = s.engine.nextSeq ∧ (endPour p tally s).engine.result = s.engine.result ∧
      (endPour p tally s).engine.lastKind = s.engine.lastKind ∧ (endPour p tally s).engine.fixed = s.engine.fixed := by
  simp [endPour]

@[simp] theorem becomeHeld_frame (s : State) :
    (becomeHeld s).store = s.store ∧ (becomeHeld s).gauge = s.gauge ∧ (becomeHeld s).meter = s.meter ∧
      (becomeHeld s).engine = s.engine ∧ (becomeHeld s).limits = s.limits ∧ (becomeHeld s).xfer = s.xfer ∧
      (becomeHeld s).seq = s.seq ∧ (becomeHeld s).console = s.console ∧ (becomeHeld s).records = s.records ∧
      (becomeHeld s).links = s.links ∧ (becomeHeld s).time = s.time ∧ (becomeHeld s).inputs = s.inputs ∧
      (becomeHeld s).pending = s.pending := by
  simp [becomeHeld]

@[simp] theorem acknowledge_frame (pour : Nat) (s : State) :
    (acknowledge pour s).store = s.store ∧ (acknowledge pour s).gauge = s.gauge ∧
      (acknowledge pour s).meter = s.meter ∧ (acknowledge pour s).engine = s.engine ∧
      (acknowledge pour s).limits = s.limits ∧ (acknowledge pour s).xfer = s.xfer ∧
      (acknowledge pour s).console = s.console ∧ (acknowledge pour s).records = s.records ∧
      (acknowledge pour s).time = s.time ∧ (acknowledge pour s).inputs = s.inputs ∧
      (acknowledge pour s).pending = s.pending := by
  simp only [acknowledge]; (repeat' split) <;> simp

@[simp] theorem acknowledge_fields (pour : Nat) (s : State) :
    (acknowledge pour s).links.ship = s.links.ship ∧ (acknowledge pour s).links.shore = s.links.shore ∧
      (acknowledge pour s).links.enables = s.links.enables ∧ (acknowledge pour s).links.rate = s.links.rate ∧
      (acknowledge pour s).seq.active = s.seq.active ∧ (acknowledge pour s).seq.standby = s.seq.standby ∧
      (acknowledge pour s).seq.stage = s.seq.stage := by
  simp only [acknowledge]; (repeat' split) <;> simp

@[simp] theorem ackExpires_frame (p : CurrentPour) (s : State) :
    (ackExpires p s).store = s.store ∧ (ackExpires p s).gauge = s.gauge ∧ (ackExpires p s).meter = s.meter ∧
      (ackExpires p s).engine = s.engine ∧ (ackExpires p s).xfer = s.xfer ∧ (ackExpires p s).console = s.console ∧
      (ackExpires p s).records = s.records ∧ (ackExpires p s).time = s.time ∧ (ackExpires p s).inputs = s.inputs ∧
      (ackExpires p s).pending = s.pending := by
  simp [ackExpires]

@[simp] theorem ackExpires_fields (p : CurrentPour) (s : State) :
    (ackExpires p s).links.ship = s.links.ship ∧ (ackExpires p s).links.shore = s.links.shore ∧
      (ackExpires p s).links.enables = s.links.enables ∧ (ackExpires p s).links.rate = s.links.rate ∧
      (ackExpires p s).seq.active = s.seq.active ∧ (ackExpires p s).seq.standby = s.seq.standby ∧
      (ackExpires p s).seq.stage = s.seq.stage := by
  simp [ackExpires]

end Sys2Proof.Machine
end

