-- ==== Sys2Proof/Laws/Ops.lean ====
section
/-! SUPPORT. What the shared operations give: arrays, bytes and arguments, the taking of a request, `settle` on a part in
which an act hands nothing on, and the pour that a WAIT_POUR awaits. -/

namespace Sys2Proof

/-! ## Arrays -/

@[simp] theorem Tab.get_set {n : Nat} {α : Type} [Inhabited α] (t : Tab n α) (i j : Nat) (a : α) :
    (t.set i a).get j = if i = j ∧ j < n then a else t.get j := by
  obtain ⟨c, h⟩ := t
  simp only [Tab.get, Tab.set, List.getD_eq_getElem?_getD, List.getElem?_set]
  by_cases hij : i = j
  · subst hij
    by_cases hl : i < c.length
    · simp [hl, ← h]
    · simp [hl, ← h]
  · simp [hij]

@[simp] theorem Tab.set_set {n : Nat} {α : Type} (t : Tab n α) (i : Nat) (a b : α) : (t.set i a).set i b = t.set i b := by
  simp [Tab.set]

@[simp] theorem Tab.get_build {n : Nat} {α : Type} [Inhabited α] (f : Nat → α) (i : Nat) (h : i < n) :
    (Tab.build n f).get i = f i := by
  simp [Tab.get, Tab.build, List.getD_eq_getElem?_getD, h]

@[simp] theorem Tab.get_replicate {n : Nat} {α : Type} [Inhabited α] (a : α) (i : Nat) (h : i < n) :
    (Tab.replicate n a).get i = a := by
  simp [Tab.get, Tab.replicate, List.getD_eq_getElem?_getD, h]

@[simp] theorem Tab.get_map {n : Nat} {α β : Type} [Inhabited α] [Inhabited β] (f : α → β) (t : Tab n α) (i : Nat) (h : i < n) :
    (t.map f).get i = f (t.get i) := by
  obtain ⟨c, hc⟩ := t
  have : i < c.length := by omega
  simp [Tab.get, Tab.map, List.getD_eq_getElem?_getD, this]

end Sys2Proof

namespace Sys2Proof.Machine

/-! ## Bytes and arguments -/

@[simp] theorem toBE_length (v n : Nat) : (toBE v n).length = n := by
  induction n with
  | zero => rfl
  | succ n ih => simp [toBE, ih]

@[simp] theorem field4_length (beyond : Nat → BitVec 32) (v : Nat) : (field4 beyond v).length = 4 := by simp [field4]

@[simp] theorem signedField4_length (beyond : Int → BitVec 32) (v : Int) : (signedField4 beyond v).length = 4 := by
  unfold signedField4; split <;> simp [toBEInt]

theorem beNat_go (bs : List Byte) (a : Nat) :
    bs.foldl (fun a b => a * 256 + b.toNat) a = a * 256 ^ bs.length + beNat bs := by
  induction bs generalizing a with
  | nil => simp [beNat]
  | cons b bs ih =>
    simp only [List.foldl_cons, beNat, List.length_cons]
    rw [ih, ih (0 * 256 + b.toNat), Nat.pow_succ]
    ring

@[simp] theorem beNat_nil : beNat [] = 0 := rfl

theorem beNat_cons (b : Byte) (bs : List Byte) : beNat (b :: bs) = b.toNat * 256 ^ bs.length + beNat bs := by
  have := beNat_go bs (0 * 256 + b.toNat)
  simpa [beNat] using this

/-- Bytes written most significant first are read back, modulo what they hold. -/
theorem beNat_toBE_mod (v n : Nat) : beNat (toBE v n) = v % 256 ^ n := by
  induction n with
  | zero => simp [toBE, Nat.mod_one]
  | succ n ih =>
    have h : v % 256 ^ (n + 1) = v % 256 ^ n + 256 ^ n * (v / 256 ^ n % 256) := by rw [Nat.pow_succ, Nat.mod_mul]
    rw [toBE, beNat_cons, ih, toBE_length, BitVec.toNat_ofNat, h, Nat.mul_comm]
    exact Nat.add_comm _ _

/-- Bytes written most significant first are read back. -/
theorem beNat_toBE (v n : Nat) (h : v < 256 ^ n) : beNat (toBE v n) = v := by
  rw [beNat_toBE_mod, Nat.mod_eq_of_lt h]

theorem beNat_lt (bs : List Byte) : beNat bs < 256 ^ bs.length := by
  induction bs with
  | nil => simp
  | cons b bs ih =>
    rw [beNat_cons, List.length_cons, Nat.pow_succ]
    have := b.isLt
    nlinarith [Nat.pow_pos (n := bs.length) (show 0 < 256 by decide)]

/-- A payload of the right length is a form, and its fields are its bytes cut in order. -/
theorem readArgs_eq (sizes : List Nat) (bs : List Byte) (h : bs.length = sizes.sum) :
    readArgs sizes bs = some (cutFields sizes bs) := by simp [readArgs, h]

theorem readArgs_none (sizes : List Nat) (bs : List Byte) (h : bs.length ≠ sizes.sum) : readArgs sizes bs = none := by
  simp [readArgs, h]

theorem cutFields_append (n : Nat) (ns : List Nat) (v : Nat) (bs : List Byte) (h : v < 256 ^ n) :
    cutFields (n :: ns) (toBE v n ++ bs) = v :: cutFields ns bs := by
  simp [cutFields, beNat_toBE v n h]

theorem cutFields_one (n : Nat) (v : Nat) (h : v < 256 ^ n) : cutFields [n] (toBE v n) = [v] := by
  simpa [cutFields] using cutFields_append n [] v [] h

theorem readOne_toBE (n v : Nat) (h : v < 256 ^ n) : readOne n (toBE v n) = some v := by
  simp [readOne, readArgs, cutFields_one n v h]

theorem readOne_none (n : Nat) (bs : List Byte) (h : bs.length ≠ n) : readOne n bs = none := by
  simp [readOne, readArgs, h]

theorem readOptional_toBE (n v : Nat) (hn : n ≠ 0) (h : v < 256 ^ n) : readOptional n (toBE v n) = some (some v) := by
  have : toBE v n ≠ [] := by
    intro h0; have := congrArg List.length h0; simp at this; exact hn this
  simp [readOptional, this, readOne_toBE n v h]

theorem readOptional_nil (n : Nat) : readOptional n [] = some none := by simp [readOptional]

theorem readOptional_none (n : Nat) (bs : List Byte) (h0 : bs ≠ []) (h : bs.length ≠ n) : readOptional n bs = none := by
  simp [readOptional, h0, readOne_none n bs h]

/-- A two's complement field of four bytes is read back. -/
theorem signed32_toBEInt (v : Int) (h0 : -2147483648 ≤ v) (h1 : v < 2147483648) :
    signed32 (v % (256 ^ 4 : Nat)).toNat = v := by
  unfold signed32; split <;> omega

/-! ## Requests -/

@[simp] theorem letters_length (m : Mnem) : m.letters.length = 4 := by cases m <;> rfl

theorem ofLetters_letters (m : Mnem) : Mnem.ofLetters m.letters = some m := by cases m <;> decide

theorem requestOf_own (l : Link) (m : Mnem) (args : List Byte) (h : m.ofLink l = true) :
    requestOf l (m.letters ++ args) = some m := by
  simp [requestOf, ofLetters_letters, h]

theorem requestOf_foreign (l : Link) (m : Mnem) (args : List Byte) (h : m.ofLink l = false) :
    requestOf l (m.letters ++ args) = none := by
  simp [requestOf, ofLetters_letters, h]

/-- A part that is not in reset does what it does (R207). -/
theorem unlessHeld_free (f : State → State) (s : State) (h : s.inputs.reset = false) : unlessHeld f s = f s := by
  simp [unlessHeld, h]

/-- A part whose reset input is held does nothing (R207). -/
theorem unlessHeld_held (f : State → State) (s : State) (h : s.inputs.reset = true) : unlessHeld f s = s := by
  simp [unlessHeld, h]

/-- A ready link takes a request presented to it, and acts on it at once (R197, R198). -/
theorem presentRequest_ready (l : Link) (m : Mnem) (args : List Byte) (s : State) (hr : Ready l s)
    (ha : args.length ≤ maxArgs) :
    presentRequest l m args s =
      if m.ofLink l then perform m l args (taken l m args s) else refused l m .unknown args s := by
  obtain ⟨hw, hc, ht, hk, hd, hz⟩ := hr
  have : presentRequest l m args s = judgeRequest l (m.letters ++ args) (taken l m args s) := by
    simp only [presentRequest, if_pos ha, unlessHeld_free _ s hz, requestArrives, hw]
    cases l <;> simp_all [serve, linkFree, State.link, State.setLink, taken, payloadOf]
  rw [this, judgeRequest]
  have hs : (taken l m args s).store = s.store := by simp
  rw [hs, if_neg hd]
  cases h : m.ofLink l
  · simp [requestOf_foreign l m args h, refused, replied, sendReply, replyMnemonic]
  · simp [requestOf_own l m args h]

/-- The command of a request is the arrival of that request (log entry 5). -/
theorem exec_command (m : Mnem) (l : Link) (args : List Byte) (s : State) :
    exec (m.command l args) s = .next (presentRequest l m args s) := by
  cases m <;> rfl

/-- A request of a ready link is carried out by the rule of its message on the part that has taken it. -/
theorem exec_ready (m : Mnem) (l : Link) (args : List Byte) (s : State) (hr : Ready l s) (ha : args.length ≤ maxArgs)
    (h : m.ofLink l = true) : exec (m.command l args) s = .next (perform m l args (taken l m args s)) := by
  rw [exec_command, presentRequest_ready _ _ _ _ hr ha, if_pos h]

theorem otherFormsRefused (m : Mnem) (form : List Byte → Prop) (hl : m.ofLink .ship = true)
    (h : ∀ args s, ¬ form args → perform m .ship args s = answer .ship m (refuse .length s)) :
    OtherFormsRefused m form := by
  intro args s hr ha hf
  rw [exec_ready m .ship args s hr ha hl, h _ _ hf]
  rfl

theorem otherFormsRefusedOnShore (m : Mnem) (form : List Byte → Prop) (hl : m.ofLink .shore = true)
    (h : ∀ args s, ¬ form args → perform m .shore args s = answer .shore m (refuse .length s)) :
    OtherFormsRefusedOnShore m form := by
  intro args s hr ha hf
  rw [exec_ready m .shore args s hr ha hl, h _ _ hf]
  rfl

theorem unknownOnShore (m : Mnem) (h : m.ofLink .shore = false) : UnknownOnShore m := by
  intro args s hr ha
  rw [exec_command, presentRequest_ready _ _ _ _ hr ha, if_neg (by simp [h])]

theorem unknownOnShip (m : Mnem) (h : m.ofLink .ship = false) : UnknownOnShip m := by
  intro args s hr ha
  rw [exec_command, presentRequest_ready _ _ _ _ hr ha, if_neg (by simp [h])]

/-! ## Acts that hand nothing on -/

theorem judgeGrant_quiet (s : State) (h : s.console.state ≠ .requested) : judgeGrant s = s := by
  simp [judgeGrant, h]

theorem endReconciling_quiet (s : State) (h : s.console.state ≠ .reconciling) : endReconciling s = s := by
  simp [endReconciling, h]

/-- Where the console is AUTO or GRANTED and the Sequencer neither walks nor is suspended, the end of an act hands nothing
on. -/
theorem settle_handsNothingOn (before s : State) (h : HandsNothingOn s) : settle before s = s := by
  obtain ⟨hc, hs⟩ := h
  have h1 : sequencerHears before s = s := by
    rcases hs with hs | hs | hs | hs <;> simp [sequencerHears, hs]
  rw [settle, h1, endReconciling_quiet _ (by rcases hc with h | h <;> simp [h]),
    judgeGrant_quiet _ (by rcases hc with h | h <;> simp [h])]

/-! ## The pour that a WAIT_POUR awaits (R142) -/

/-- What a prefix taken while `p` holds has, by place. -/
theorem takeWhile_mem_iff {α : Type} (p : α → Bool) (l : List α) (P : α → Prop) :
    (∃ e ∈ l.takeWhile p, P e) ↔ ∃ i, ∃ h : i < l.length, P l[i] ∧ ∀ j, (hj : j ≤ i) → p (l[j]'(by omega)) = true := by
  induction l with
  | nil => simp
  | cons a l ih =>
    by_cases ha : p a = true
    · simp only [List.takeWhile_cons, ha, if_true, List.mem_cons, exists_eq_or_imp, ih]
      constructor
      · rintro (h | ⟨i, hi, hP, hj⟩)
        · exact ⟨0, by simp, h, fun j hj => by simpa [Nat.le_zero.mp hj] using ha⟩
        · refine ⟨i + 1, by simpa using hi, by simpa using hP, ?_⟩
          rintro (_ | j) h
          · simpa using ha
          · simpa using hj j (by omega)
      · rintro ⟨_ | i, hi, hP, hj⟩
        · exact .inl (by simpa using hP)
        · exact .inr ⟨i, by simpa using hi, by simpa using hP, fun j h => by simpa using hj (j + 1) (by omega)⟩
    · simp only [List.takeWhile_cons, ha]
      refine ⟨by simp, ?_⟩
      rintro ⟨i, hi, -, hj⟩
      exact absurd (by simpa using hj 0 (by omega)) ha

theorem planEntry_eq (b : PlanBank) (i : Nat) (h : i < b.cells.length) :
    planEntry b i = PlanEntry.ofRow (b.cells[i]).cells := by
  simp [planEntry, rowBytes, Tab.get?, h]

/-- The entries in use that bear a pour number (R150). -/
theorem planBears_iff (b : PlanBank) (n : Nat) : ((planEntries b).any fun e => e.pour == n) = true ↔ PlanBears b n := by
  have hb := b.full
  rw [List.any_eq_true]
  simp only [beq_iff_eq, planEntries]
  refine (takeWhile_mem_iff _ _ (fun e : PlanEntry => e.pour = n)).trans ⟨?_, ?_⟩
  · rintro ⟨i, hi, h, hj⟩
    rw [List.length_map] at hi
    refine ⟨i, by omega, by rw [planEntry_eq b i hi]; simpa using h, fun j h' => ?_⟩
    rw [planEntry_eq b j (by omega)]; simpa using hj j h'
  · rintro ⟨i, hi, h, hj⟩
    refine ⟨i, by rw [List.length_map]; omega, ?_, fun j h' => ?_⟩
    · rw [planEntry_eq b i (by omega)] at h; simpa using h
    · have := hj j h'; rw [planEntry_eq b j (by omega)] at this; simpa using this

/-- What the deadlock check asks of the step at the pointer (R142). -/
theorem awaitsPlanned_iff (s : State) : awaitsPlanned s = true ↔ AwaitsPlanned s := by
  unfold awaitsPlanned AwaitsPlanned
  split
  · rename_i n h
    rw [planBears_iff]; simp [h]
  · rename_i h
    simp only [Bool.false_eq_true, false_iff]
    rintro ⟨n, hn, -⟩; exact h n hn

end Sys2Proof.Machine
end

