-- ==== Sys2Proof/Laws/Due.lean ====
section
/-! SUPPORT. What falls due while no command waits: the part takes the first command of the order of log entry 22 that has fallen
due, and none where none has; and when a notice may be sent (R201, R203). -/

namespace Sys2Proof.Machine

/-- When a notice may be sent on a link (R201, R203). -/
theorem noticeMay_iff (l : Link) (s : State) : noticeMay l s = true ↔ MaySend l s := by
  simp only [noticeMay, linkFree, MaySend, Bool.and_eq_true, Option.isNone_iff_eq_none, Bool.not_eq_true']
  tauto

/-- The ship notice pending set holds a kind (R200). -/
theorem noticesPending_iff (s : State) : noticesPending s = true ↔ ∃ i < 10, s.links.notices.get i ≠ none := by
  have hn : noticesPending s = s.links.notices.cells.any Option.isSome := rfl
  rw [hn, List.any_eq_true]
  constructor
  · rintro ⟨x, hx, hs⟩
    obtain ⟨i, hi, rfl⟩ := List.mem_iff_getElem.1 hx
    refine ⟨i, s.links.notices.full ▸ hi, ?_⟩
    rw [Tab.get, List.getD_eq_getElem _ _ hi]
    exact Option.isSome_iff_ne_none.1 hs
  · rintro ⟨i, hi, hs⟩
    have hi' : i < s.links.notices.cells.length := by rw [s.links.notices.full]; exact hi
    rw [Tab.get, List.getD_eq_getElem _ _ hi'] at hs
    exact ⟨_, List.getElem_mem hi', Option.isSome_iff_ne_none.2 hs⟩

/-! One lemma for each block: what it has due is the first of its own commands that has fallen due. -/

/-- A choice between two commands, each where it has fallen due. -/
theorem find_two {a b : Instr} {P : Instr → Prop} [DecidablePred P] :
    [a, b].find? (fun c => decide (P c)) = if P a then some a else if P b then some b else none := by
  rw [List.find?_cons, List.find?_cons, List.find?_nil]
  by_cases ha : P a <;> by_cases hb : P b <;> simp only [ha, hb, decide_true, decide_false, if_true, if_false]

/-- The same for one command. -/
theorem find_one {a : Instr} {P : Instr → Prop} [DecidablePred P] :
    [a].find? (fun c => decide (P c)) = if P a then some a else none := by
  rw [List.find?_cons, List.find?_nil]
  by_cases ha : P a <;> simp only [ha, decide_true, decide_false, if_true, if_false]

open Classical in
theorem dueGap_eq (s : State) (l : Link) : dueGap s l = [Instr.byteGapExpiry l].find? fun c => decide (FallsDue s c) := by
  have hf : FallsDue s (.byteGapExpiry l) = ∃ got gap, (s.link l).rx = .inFrame got gap ∧ 50 < gap := rfl
  rw [find_one, dueGap, hf]
  rcases h : (s.link l).rx with _ | ⟨got, n⟩
  · exact (if_neg (by rintro ⟨_, _, h, _⟩; cases h)).symm
  · by_cases hn : 50 < n
    · exact (if_pos hn).trans (if_pos ⟨got, n, rfl, hn⟩).symm
    · refine (if_neg hn).trans (if_neg ?_).symm
      rintro ⟨_, _, h, hm⟩
      cases h
      exact hn hm

open Classical in
theorem dueSweep_eq (s : State) :
    dueSweep s = [Instr.replyWindowExpiry, .sweepCountdownExpiry].find? fun c => decide (FallsDue s c) := by
  rw [find_two, dueSweep]
  congr

theorem ValveState.moving_iff (v : ValveState) : v.moving = true ↔ v = .opening ∨ v = .closing := by
  cases v <;> decide

open Classical in
theorem dueValve_eq (s : State) :
    dueValve s = ((List.finRange 38).map Instr.valveTravelExpiry).find? fun c => decide (FallsDue s c) := by
  rw [dueValve, List.find?_map]
  congr 2
  funext ch
  have hf : FallsDue s (.valveTravelExpiry ch) = (((s.valve ch.val).state = .opening ∨ (s.valve ch.val).state = .closing) ∧
    (s.valve ch.val).countdown = 0) := rfl
  rw [Function.comp, Bool.eq_iff_iff, decide_eq_true_iff, hf, Bool.and_eq_true, beq_iff_eq, ValveState.moving_iff]

open Classical in
theorem duePump_eq (s : State) (p : Pump) :
    duePump s p = [Instr.primingExpiry p, .noFlowExpiry p].find? fun c => decide (FallsDue s c) := by
  have hf : FallsDue s (.primingExpiry p) = ((s.pumpMeter p).phase = .priming ∧ (s.pumpMeter p).countdown = 0) := rfl
  have hg : FallsDue s (.noFlowExpiry p) = ((s.pumpMeter p).phase = .flowWatch ∧ (s.pumpMeter p).countdown = 0) := rfl
  rw [find_two, duePump, hf, hg]
  generalize s.pumpMeter p = m
  by_cases h : m.countdown = 0
  · rcases m.phase with _ | _ | _ <;> simp [h]
  · simp [h]

open Classical in
theorem dueSeq_eq (s : State) : dueSeq s = [Instr.intervalExpiry, .dwellExpiry].find? fun c => decide (FallsDue s c) := by
  have hf : FallsDue s .intervalExpiry =
    (s.seq.core.state = .running ∧ s.seq.core.wait = .interval ∧ s.seq.core.interval = 0) := rfl
  have hg : FallsDue s .dwellExpiry =
    (s.seq.core.state = .running ∧ s.seq.core.wait = .dwell ∧ s.seq.core.dwell = 0) := rfl
  rw [find_two, dueSeq, hf, hg]
  generalize s.seq.core = c
  obtain ⟨⟩ := c
  dsimp only
  split
  · simp
  · simp
  · rename_i h1 h2
    rw [if_neg, if_neg]
    · exact fun h => h2 h.1 h.2.1
    · exact fun h => h1 h.1 h.2.1

open Classical in
theorem dueAck_eq (s : State) : dueAck s = [Instr.ackExpiry].find? fun c => decide (FallsDue s c) := by
  have hf : FallsDue s .ackExpiry = (s.tracker.state = .holdRequested ∧ s.tracker.cur ≠ none ∧ s.tracker.ack = some 0) := rfl
  rw [find_one, dueAck, hf]
  simp only [Option.isSome_iff_ne_none]
  congr

open Classical in
theorem dueNotice_eq (s : State) :
    dueNotice s = [Instr.shipNoticeSend, .shoreNoticeSend].find? fun c => decide (FallsDue s c) := by
  have h1 : (noticesPending s = true ∧ noticeMay .ship s = true) ↔ FallsDue s .shipNoticeSend := by
    rw [noticesPending_iff, noticeMay_iff]; exact and_comm
  have h2 : (s.links.queue ≠ [] ∧ noticeMay .shore s = true) ↔ FallsDue s .shoreNoticeSend := by
    rw [noticeMay_iff]; exact and_comm
  rw [find_two, dueNotice]
  simp only [h1, h2]

open Classical in
/-- What falls due is the first of the order that has fallen due (log entry 22). -/
theorem due_eq (s : State) : due s = dueOrder.find? fun c => decide (FallsDue s c) := by
  have order : dueOrder = [Instr.byteGapExpiry .ship] ++ ([Instr.byteGapExpiry .shore] ++
      ([Instr.replyWindowExpiry, .sweepCountdownExpiry] ++ ((List.finRange 38).map Instr.valveTravelExpiry ++
      ([Instr.primingExpiry .p0, .noFlowExpiry .p0] ++ ([Instr.primingExpiry .p1, .noFlowExpiry .p1] ++
      ([Instr.primingExpiry .p2, .noFlowExpiry .p2] ++ ([Instr.primingExpiry .p3, .noFlowExpiry .p3] ++
      ([Instr.intervalExpiry, .dwellExpiry] ++ ([Instr.ackExpiry] ++
      [Instr.shipNoticeSend, .shoreNoticeSend]))))))))) := rfl
  rw [order, List.find?_append, List.find?_append, List.find?_append, List.find?_append, List.find?_append,
    List.find?_append, List.find?_append, List.find?_append, List.find?_append, List.find?_append, ← dueGap_eq, ← dueGap_eq,
    ← dueSweep_eq, ← dueValve_eq, ← duePump_eq, ← duePump_eq, ← duePump_eq, ← duePump_eq, ← dueSeq_eq, ← dueAck_eq,
    ← dueNotice_eq, due]
  simp only [Option.orElse_eq_orElse, Option.orElse_eq_or]

/-- The command taken is one that has fallen due, none of those before it in the order having done so (log entry 22). -/
theorem due_some_iff {s : State} {c : Instr} :
    due s = some c ↔
      ∃ before after, dueOrder = before ++ c :: after ∧ FallsDue s c ∧ ∀ b ∈ before, ¬ FallsDue s b := by
  classical
  rw [due_eq, List.find?_eq_some_iff_append]
  constructor
  · rintro ⟨hc, before, after, ho, hb⟩
    exact ⟨before, after, ho, by simpa using hc, fun b hm => by simpa using hb b hm⟩
  · rintro ⟨before, after, ho, hc, hb⟩
    exact ⟨by simpa using hc, before, after, ho, fun b hm => by simpa using hb b hm⟩

/-- None is taken exactly where none of the order has fallen due. -/
theorem due_none_iff {s : State} : due s = none ↔ ∀ c ∈ dueOrder, ¬ FallsDue s c := by
  classical
  rw [due_eq, List.find?_eq_none]
  simp

end Sys2Proof.Machine
end

