-- ==== Sys2Proof/Laws/Gauging.lean ====
section
/-! SUPPORT. The conversion of a sounding to a volume: what rounding a quotient gives, and what the pair of points that the
model takes gives (R31). -/

namespace Sys2Proof.Machine

/-- A quotient that is at most a whole number rounds to at most that number. -/
theorem rdivN_le {n d a : Nat} (h : n ≤ a * d) (hd : 0 < d) : rdivN n d ≤ a := by
  have : (2 * n + d) / (2 * d) < a + 1 := by
    rw [Nat.div_lt_iff_lt_mul (by omega)]
    have : (a + 1) * (2 * d) = 2 * (a * d) + 2 * d := by ring
    omega
  exact Nat.lt_succ_iff.mp this

/-- A quotient that is at least a negative whole number rounds to at least that number. -/
theorem rdiv_ge {n : Int} {d a : Nat} (h : -((a : Int) * d) ≤ n) (hd : 0 < d) : -(a : Int) ≤ rdiv n d := by
  unfold rdiv
  split
  · have := Int.natCast_nonneg (rdivN n.toNat d); omega
  · have : rdivN (-n).toNat d ≤ a := rdivN_le (by zify; omega) hd
    omega

theorem rdiv_zero {d : Nat} (hd : 0 < d) : rdiv 0 d = 0 := by
  simp only [rdiv, rdivN, le_refl, if_true, Int.toNat_zero, Nat.mul_zero, Nat.zero_add]
  rw [Nat.div_eq_of_lt (by omega)]; rfl

/-- A whole quotient is not rounded. -/
theorem rdiv_self_mul (a : Int) (d : Nat) (hd : 0 < d) : rdiv (a * d) d = a := by
  have h (k : Nat) : rdivN (k * d) d = k := by
    unfold rdivN
    rw [show 2 * (k * d) + d = d + 2 * d * k by ring, Nat.add_mul_div_left _ _ (by omega), Nat.div_eq_of_lt (by omega)]
    simp
  unfold rdiv
  obtain ⟨k, rfl | rfl⟩ := a.eq_nat_or_neg
  · rw [if_pos (by positivity), show ((k : Int) * d).toNat = k * d by norm_cast, h]
  · split
    · have : (k : Int) * d ≤ 0 := by linarith
      have hk : k = 0 := by
        by_contra hk
        have : 0 < (k : Int) * d := by positivity
        omega
      subst hk; simpa [rdiv] using rdiv_zero hd
    · rw [show (-(-(k : Int) * d)).toNat = k * d by rw [show (-(-(k : Int) * d)) = ((k * d : Nat) : Int) by push_cast; ring, Int.toNat_natCast], h]

/-- Values that rise at each place rise between any two. -/
theorem rising_lt {f : Nat → Nat} {last : Nat} (hf : ∀ k < last, f k < f (k + 1)) {i j : Nat} (hij : i < j) (hj : j ≤ last) :
    f i < f j := by
  induction j with
  | zero => omega
  | succ j ih =>
    have := hf j (by omega)
    rcases Nat.lt_or_ge i j with h | h
    · have := ih h (by omega); omega
    · obtain rfl : i = j := by omega
      exact this

/-- Where the soundings rise, the interpolation by one bracketing pair gives what any bracketing pair gives (R31). -/
theorem interpolated_any (T : Tables) (c x lo k last : Nat) (hf : ∀ k < last, T.sounding c k < T.sounding c (k + 1))
    (hl : lo < last) (hk : k < last) (h1 : T.sounding c lo ≤ x) (h2 : x ≤ T.sounding c (lo + 1))
    (h3 : T.sounding c k ≤ x) (h4 : x ≤ T.sounding c (k + 1)) :
    (interpolated T c x k : Int) = T.volumeAt c lo +
      rdiv (((T.volumeAt c (lo + 1) : Int) - T.volumeAt c lo) * ((x : Int) - T.sounding c lo))
        (T.sounding c (lo + 1) - T.sounding c lo) := by
  have key (k : Nat) (hk : k < last) (h3 : T.sounding c k ≤ x) (h4 : x ≤ T.sounding c (k + 1)) :
      (interpolated T c x k : Int) = T.volumeAt c k +
        rdiv (((T.volumeAt c (k + 1) : Int) - T.volumeAt c k) * ((x : Int) - T.sounding c k))
          (T.sounding c (k + 1) - T.sounding c k) := by
    have hd := hf k hk
    unfold interpolated
    refine Int.toNat_of_nonneg ?_
    have := rdiv_ge (n := ((T.volumeAt c (k + 1) : Int) - T.volumeAt c k) * ((x : Int) - T.sounding c k))
      (d := T.sounding c (k + 1) - T.sounding c k) (a := T.volumeAt c k) (by
        push_cast [Nat.cast_sub hd.le]
        have a1 : (0 : Int) ≤ T.volumeAt c (k + 1) := by positivity
        have a2 : (0 : Int) ≤ T.volumeAt c k := by positivity
        have a3 : (0 : Int) ≤ (x : Int) - T.sounding c k := by omega
        have a4 : (0 : Int) ≤ (T.sounding c (k + 1) : Int) - x := by omega
        nlinarith [mul_nonneg a1 a3, mul_nonneg a2 a4]) (by omega)
    linarith
  rcases Nat.lt_trichotomy lo k with h | rfl | h
  · have e : lo + 1 = k := by
      by_contra hne
      have := rising_lt hf (i := lo + 1) (j := k) (by omega) (by omega)
      omega
    subst e
    have hx : x = T.sounding c (lo + 1) := by omega
    have hd := hf lo hl
    rw [key (lo + 1) hk h3 h4, hx]
    rw [show ((T.sounding c (lo + 1) : Int) - T.sounding c lo) = ((T.sounding c (lo + 1) - T.sounding c lo : Nat) : Int) by omega,
      rdiv_self_mul _ _ (by omega)]
    have := hf (lo + 1) hk
    simp only [sub_self, mul_zero, rdiv_zero (show 0 < T.sounding c (lo + 1 + 1) - T.sounding c (lo + 1) by omega)]
    ring
  · exact key lo hl h1 h2
  · have e : k + 1 = lo := by
      by_contra hne
      have := rising_lt hf (i := k + 1) (j := lo) (by omega) (by omega)
      omega
    subst e
    have hx : x = T.sounding c (k + 1) := by omega
    have hd := hf k hk
    rw [key k hk h3 h4, hx]
    rw [show ((T.sounding c (k + 1) : Int) - T.sounding c k) = ((T.sounding c (k + 1) - T.sounding c k : Nat) : Int) by omega,
      rdiv_self_mul _ _ (by omega)]
    have := hf (k + 1) hl
    simp only [sub_self, mul_zero, rdiv_zero (show 0 < T.sounding c (k + 1 + 1) - T.sounding c (k + 1) by omega)]
    ring

/-- Where a pair of points brackets a sounding, the pair that the model takes brackets it (R31). -/
theorem bracket_spec (T : Tables) (c x lo : Nat)
    (hl : lo < T.points c - 1) (h2 : x ≤ T.sounding c (lo + 1)) (h0 : T.sounding c 0 ≤ x) :
    bracket T c x < T.points c - 1 ∧ T.sounding c (bracket T c x) ≤ x ∧ x ≤ T.sounding c (bracket T c x + 1) := by
  unfold bracket
  cases h : (List.range (T.points c - 1)).find? fun p => decide (x ≤ T.sounding c (p + 1)) with
  | none =>
    rw [List.find?_eq_none] at h
    have := h lo (by simpa using hl)
    simp at this; omega
  | some k =>
    have hs := List.find?_some h
    have hm := List.mem_of_find?_eq_some h
    simp only [decide_eq_true_eq, List.mem_range] at hs hm
    refine ⟨hm, ?_, hs⟩
    simp only [Option.getD_some]
    rcases Nat.eq_zero_or_pos k with rfl | hk
    · exact h0
    · rw [List.find?_range_eq_some] at h
      have := h.2.2 (k - 1) (by omega)
      simp at this
      rw [show k - 1 + 1 = k by omega] at this
      omega

end Sys2Proof.Machine
end

