-- ==== Sys2Proof/Laws/PerInstr.lean ====
section
/-! SUPPORT. Statements for every command, one lemma per constructor. `FrameForm`: a request's mnemonic and arguments are
what its frame carries, so the command is the one its frame spells; a command that is no request carries no arguments. -/

namespace Sys2Proof.Laws

/-- What a command's frame form says (R198): the mnemonic's letters spell it, its arguments are the command's, and the request
is the command. A command that is no request has no argument bytes. -/
def FrameForm.Statement (i : Instr) : Prop :=
  match i.request? with
  | some (m, link, args) =>
    m.command link args = i ∧ i.args = args ∧ Machine.Mnem.ofLetters m.letters = some m ∧ m.letters.length = 4
  | none => i.args = []

theorem FrameForm.hardwareReset (held : Bool) (straps : Straps) : FrameForm.Statement (.hardwareReset held straps) := rfl
theorem FrameForm.verificationEnd  : FrameForm.Statement (.verificationEnd) := rfl
theorem FrameForm.frameByteReceived (link : Link) (byte : Byte) : FrameForm.Statement (.frameByteReceived link byte) := rfl
theorem FrameForm.byteGapExpiry (link : Link) : FrameForm.Statement (.byteGapExpiry link) := rfl
theorem FrameForm.transmitFrameEnd (link : Link) : FrameForm.Statement (.transmitFrameEnd link) := rfl
theorem FrameForm.shipNoticeSend  : FrameForm.Statement (.shipNoticeSend) := rfl
theorem FrameForm.shoreNoticeSend  : FrameForm.Statement (.shoreNoticeSend) := rfl
theorem FrameForm.wsel (link : Link) (args : List Byte) : FrameForm.Statement (.wsel link args) := ⟨rfl, rfl, by decide, by decide⟩
theorem FrameForm.wput (link : Link) (args : List Byte) : FrameForm.Statement (.wput link args) := ⟨rfl, rfl, by decide, by decide⟩
theorem FrameForm.wget (link : Link) (args : List Byte) : FrameForm.Statement (.wget link args) := ⟨rfl, rfl, by decide, by decide⟩
theorem FrameForm.sdcm (link : Link) (args : List Byte) : FrameForm.Statement (.sdcm link args) := ⟨rfl, rfl, by decide, by decide⟩
theorem FrameForm.commitComplete  : FrameForm.Statement (.commitComplete) := rfl
theorem FrameForm.smsk (link : Link) (args : List Byte) : FrameForm.Statement (.smsk link args) := ⟨rfl, rfl, by decide, by decide⟩
theorem FrameForm.tden (link : Link) (args : List Byte) : FrameForm.Statement (.tden link args) := ⟨rfl, rfl, by decide, by decide⟩
theorem FrameForm.tank (link : Link) (args : List Byte) : FrameForm.Statement (.tank link args) := ⟨rfl, rfl, by decide, by decide⟩
theorem FrameForm.metr (link : Link) (args : List Byte) : FrameForm.Statement (.metr link args) := ⟨rfl, rfl, by decide, by decide⟩
theorem FrameForm.cond (link : Link) (args : List Byte) : FrameForm.Statement (.cond link args) := ⟨rfl, rfl, by decide, by decide⟩
theorem FrameForm.proj (link : Link) (args : List Byte) : FrameForm.Statement (.proj link args) := ⟨rfl, rfl, by decide, by decide⟩
theorem FrameForm.fixm (link : Link) (args : List Byte) : FrameForm.Statement (.fixm link args) := ⟨rfl, rfl, by decide, by decide⟩
theorem FrameForm.lims (link : Link) (args : List Byte) : FrameForm.Statement (.lims link args) := ⟨rfl, rfl, by decide, by decide⟩
theorem FrameForm.tide (link : Link) (args : List Byte) : FrameForm.Statement (.tide link args) := ⟨rfl, rfl, by decide, by decide⟩
theorem FrameForm.stpr (link : Link) (args : List Byte) : FrameForm.Statement (.stpr link args) := ⟨rfl, rfl, by decide, by decide⟩
theorem FrameForm.xsta (link : Link) (args : List Byte) : FrameForm.Statement (.xsta link args) := ⟨rfl, rfl, by decide, by decide⟩
theorem FrameForm.xstp (link : Link) (args : List Byte) : FrameForm.Statement (.xstp link args) := ⟨rfl, rfl, by decide, by decide⟩
theorem FrameForm.xfer (link : Link) (args : List Byte) : FrameForm.Statement (.xfer link args) := ⟨rfl, rfl, by decide, by decide⟩
theorem FrameForm.valv (link : Link) (args : List Byte) : FrameForm.Statement (.valv link args) := ⟨rfl, rfl, by decide, by decide⟩
theorem FrameForm.vclr (link : Link) (args : List Byte) : FrameForm.Statement (.vclr link args) := ⟨rfl, rfl, by decide, by decide⟩
theorem FrameForm.sqxc (link : Link) (args : List Byte) : FrameForm.Statement (.sqxc link args) := ⟨rfl, rfl, by decide, by decide⟩
theorem FrameForm.sqgo (link : Link) (args : List Byte) : FrameForm.Statement (.sqgo link args) := ⟨rfl, rfl, by decide, by decide⟩
theorem FrameForm.sqps (link : Link) (args : List Byte) : FrameForm.Statement (.sqps link args) := ⟨rfl, rfl, by decide, by decide⟩
theorem FrameForm.sqrs (link : Link) (args : List Byte) : FrameForm.Statement (.sqrs link args) := ⟨rfl, rfl, by decide, by decide⟩
theorem FrameForm.sqab (link : Link) (args : List Byte) : FrameForm.Statement (.sqab link args) := ⟨rfl, rfl, by decide, by decide⟩
theorem FrameForm.seqq (link : Link) (args : List Byte) : FrameForm.Statement (.seqq link args) := ⟨rfl, rfl, by decide, by decide⟩
theorem FrameForm.opbg (link : Link) (args : List Byte) : FrameForm.Statement (.opbg link args) := ⟨rfl, rfl, by decide, by decide⟩
theorem FrameForm.opnd (link : Link) (args : List Byte) : FrameForm.Statement (.opnd link args) := ⟨rfl, rfl, by decide, by decide⟩
theorem FrameForm.plxc (link : Link) (args : List Byte) : FrameForm.Statement (.plxc link args) := ⟨rfl, rfl, by decide, by decide⟩
theorem FrameForm.pour (link : Link) (args : List Byte) : FrameForm.Statement (.pour link args) := ⟨rfl, rfl, by decide, by decide⟩
theorem FrameForm.phis (link : Link) (args : List Byte) : FrameForm.Statement (.phis link args) := ⟨rfl, rfl, by decide, by decide⟩
theorem FrameForm.hset (link : Link) (args : List Byte) : FrameForm.Statement (.hset link args) := ⟨rfl, rfl, by decide, by decide⟩
theorem FrameForm.lpst (link : Link) (args : List Byte) : FrameForm.Statement (.lpst link args) := ⟨rfl, rfl, by decide, by decide⟩
theorem FrameForm.ltal (link : Link) (args : List Byte) : FrameForm.Statement (.ltal link args) := ⟨rfl, rfl, by decide, by decide⟩
theorem FrameForm.lpnd (link : Link) (args : List Byte) : FrameForm.Statement (.lpnd link args) := ⟨rfl, rfl, by decide, by decide⟩
theorem FrameForm.lhak (link : Link) (args : List Byte) : FrameForm.Statement (.lhak link args) := ⟨rfl, rfl, by decide, by decide⟩
theorem FrameForm.rptb (link : Link) (args : List Byte) : FrameForm.Statement (.rptb link args) := ⟨rfl, rfl, by decide, by decide⟩
theorem FrameForm.rptg (link : Link) (args : List Byte) : FrameForm.Statement (.rptg link args) := ⟨rfl, rfl, by decide, by decide⟩
theorem FrameForm.dlog (link : Link) (args : List Byte) : FrameForm.Statement (.dlog link args) := ⟨rfl, rfl, by decide, by decide⟩
theorem FrameForm.stat (link : Link) (args : List Byte) : FrameForm.Statement (.stat link args) := ⟨rfl, rfl, by decide, by decide⟩
theorem FrameForm.nten (link : Link) (args : List Byte) : FrameForm.Statement (.nten link args) := ⟨rfl, rfl, by decide, by decide⟩
theorem FrameForm.clks (link : Link) (args : List Byte) : FrameForm.Statement (.clks link args) := ⟨rfl, rfl, by decide, by decide⟩
theorem FrameForm.rstr (link : Link) (args : List Byte) : FrameForm.Statement (.rstr link args) := ⟨rfl, rfl, by decide, by decide⟩
theorem FrameForm.sensorAnswer (answer : SensorAnswer) : FrameForm.Statement (.sensorAnswer answer) := rfl
theorem FrameForm.replyWindowExpiry  : FrameForm.Statement (.replyWindowExpiry) := rfl
theorem FrameForm.sweepCountdownExpiry  : FrameForm.Statement (.sweepCountdownExpiry) := rfl
theorem FrameForm.meterPulse (pump : Pump) : FrameForm.Statement (.meterPulse pump) := rfl
theorem FrameForm.secondBoundary  : FrameForm.Statement (.secondBoundary) := rfl
theorem FrameForm.primingExpiry (pump : Pump) : FrameForm.Statement (.primingExpiry pump) := rfl
theorem FrameForm.noFlowExpiry (pump : Pump) : FrameForm.Statement (.noFlowExpiry pump) := rfl
theorem FrameForm.runningFeedbackFall (pump : Pump) : FrameForm.Statement (.runningFeedbackFall pump) := rfl
theorem FrameForm.limitInputChange (channel : Fin 38) (openMade closedMade : Bool) : FrameForm.Statement (.limitInputChange channel openMade closedMade) := rfl
theorem FrameForm.valveTravelExpiry (channel : Fin 38) : FrameForm.Statement (.valveTravelExpiry channel) := rfl
theorem FrameForm.intervalExpiry  : FrameForm.Statement (.intervalExpiry) := rfl
theorem FrameForm.dwellExpiry  : FrameForm.Statement (.dwellExpiry) := rfl
theorem FrameForm.ackExpiry  : FrameForm.Statement (.ackExpiry) := rfl
theorem FrameForm.refreshComplete  : FrameForm.Statement (.refreshComplete) := rfl
theorem FrameForm.projectionComplete  : FrameForm.Statement (.projectionComplete) := rfl
theorem FrameForm.consoleRequestRise  : FrameForm.Statement (.consoleRequestRise) := rfl
theorem FrameForm.consoleRequestDrop  : FrameForm.Statement (.consoleRequestDrop) := rfl
theorem FrameForm.runningFeedbackRise (pump : Pump) : FrameForm.Statement (.runningFeedbackRise pump) := rfl

end Sys2Proof.Laws
end

