-- ==== Sys2Proof/Laws/Transfers.lean ====
section
/-! SUPPORT. What the end of a transfer, its return to IDLE, its going on, and the arrival and the fault of a
valve can do, said once for each (R97 to R100, R110, R114, R115). -/

namespace Sys2Proof.Machine

/-- What the Transfer Unit hands on is written into the step progress it is of (R128). -/
theorem notify_told (d : Driver) (f : Progress → Progress) (s : State) :
    notify d f s = { s with seq := s.seq.told d f } := by
  have h : ∀ c : SeqCore, c.hear d f = { c with progress := c.progress.map fun p => if p.driver = d ∧ p.idle = false then f p else p } := by
    rintro ⟨st, ptr, pr, iv, dw, w, su, de, pa⟩
    cases pr with
    | none => rfl
    | some p => simp only [SeqCore.hear, Option.map_some]; split <;> rfl
  have h' : (SeqCore.hear d f) = fun c : SeqCore => { c with progress := c.progress.map fun p => if p.driver = d ∧ p.idle = false then f p else p } := funext h
  simp [notify, Sequencer.told, h, h']

/-- What a change of one gauge record leaves and writes. -/
theorem gaugeRec_changeGauge (c : Nat) (f : GaugeRec → GaugeRec) (s : State) (k : Nat) :
    (changeGauge c f s).gaugeRec k = if k = c then (s.gaugeRec c).map f else s.gaugeRec k := by
  unfold changeGauge
  cases hg : s.gaugeRec c with
  | none =>
    by_cases hk : k = c
    · subst hk; simp [hg]
    · simp [hk]
  | some g =>
    have hc : c < s.gauge.recs.cells.length := by
      by_contra hn
      simp [State.gaugeRec, Tab.get, List.getElem?_eq_none (Nat.le_of_not_lt hn)] at hg
    by_cases hk : k = c
    · subst hk
      simp [State.gaugeRec, State.setGaugeRec, Tab.get, Tab.set, List.getD_eq_getElem?_getD, hc]
    · simp [State.gaugeRec, State.setGaugeRec, Tab.get, Tab.set, List.getD_eq_getElem?_getD, List.getElem?_set_ne (Ne.symm hk), hk]

@[simp] theorem changeGauge_transfer (c : Nat) (f : GaugeRec → GaugeRec) (s : State) (d : Driver) :
    (changeGauge c f s).transfer d = s.transfer d := State.transfer_congr (by simp) d

@[simp] theorem setRefreshMark_transfer (s : State) (d : Driver) : (setRefreshMark s).transfer d = s.transfer d :=
  State.transfer_congr (by simp) d

@[simp] theorem setRefreshMark_gaugeRec (s : State) (c : Nat) : (setRefreshMark s).gaugeRec c = s.gaugeRec c := by
  simp [State.gaugeRec]

/-- What a raised notice leaves and writes in the pending set. -/
theorem raise_notices (d : Detail) (s : State) (k : NoticeKind) :
    (raise d s).links.notices.get k.place =
      if k = d.kind ∧ k.enabled s.links.enables = true then some d else s.links.notices.get k.place := by
  unfold raise
  by_cases he : d.kind.enabled s.links.enables = true
  · have hl := s.links.notices.full
    by_cases hk : k = d.kind
    · subst hk
      have : d.kind.place < 10 := by cases d.kind <;> decide
      simp [he, Tab.get, Tab.set, List.getD_eq_getElem?_getD, hl, this]
    · have : d.kind.place ≠ k.place := by
        intro h; apply hk; revert h; cases k <;> cases d.kind <;> simp [NoticeKind.place]
      simp [he, hk, Tab.get, Tab.set, List.getD_eq_getElem?_getD, List.getElem?_set_ne this]
  · rw [if_neg he, if_neg]
    rintro ⟨rfl, h⟩; exact he h

theorem raise_links (d : Detail) (s : State) : (raise d s).links = { s.links with notices := (raise d s).links.notices } := by
  unfold raise; split <;> rfl

/-- Step 2 of R115 changes the tank of a fill and the engine's refresh mark. -/
theorem blendFill_gaugeRec (d : Driver) (s : State) (c : Nat) :
    (blendFill d s).gaugeRec c =
      match (s.transfer d).direction, s.tracker.density with
      | .fill, some port =>
        if c = (s.transfer d).tank then
          (s.gaugeRec c).map fun g =>
            g.withDensity (blended (s.transfer d).startVolume g.volume g.density port)
        else s.gaugeRec c
      | _, _ => s.gaugeRec c := by
  unfold blendFill
  cases h1 : (s.transfer d).direction <;> cases h2 : s.tracker.density <;> simp only [h1]
  split <;> (try rw [setRefreshMark_gaugeRec]) <;> rw [gaugeRec_changeGauge] <;> split
  all_goals
    first
    | rfl
    | (next h => subst h; cases hg : s.gaugeRec (s.transfer d).tank <;> simp [tankVolume, tankDensity, hg])

/-- Step 2 of R115 sets the refresh mark where the density changes, and leaves the engine otherwise. -/
theorem blendFill_engine (d : Driver) (s : State) :
    (blendFill d s).engine =
      match (s.transfer d).direction, s.tracker.density with
      | .fill, some port =>
        if blended (s.transfer d).startVolume (tankVolume s (s.transfer d).tank) (tankDensity s (s.transfer d).tank) port =
            tankDensity s (s.transfer d).tank then s.engine
        else (setRefreshMark (changeGauge (s.transfer d).tank (GaugeRec.withDensity
          (blended (s.transfer d).startVolume (tankVolume s (s.transfer d).tank) (tankDensity s (s.transfer d).tank) port)) s)).engine
      | _, _ => s.engine := by
  unfold blendFill
  cases h1 : (s.transfer d).direction <;> cases h2 : s.tracker.density <;> simp only [h1]
  split <;> simp

/-- A busy engine takes no mark: it is set, and waits (R55). -/
theorem setRefreshMark_busy (s : State) (h : s.engine.job.isSome) (hv : s.store.dataState = .valid) :
    (setRefreshMark s).engine = { s.engine with refreshMark := true } := by
  obtain ⟨j, hj⟩ := Option.isSome_iff_exists.mp h
  simp [setRefreshMark, dataValid, hv, engineRun, takeMark, hj]

theorem withDensity_density (ρ : Nat) (g : GaugeRec) : (g.withDensity ρ).density = ρ := by
  unfold GaugeRec.withDensity; split <;> rfl

/-- What the return to IDLE reads of the state it takes its figures from. -/
theorem closeRecord_transfer (d : Driver) (s : State) (e : Driver) :
    (closeRecord d s).transfer e =
      if e = d then
        { s.transfer d with
          state := .idle
          finish := some
            { stamp := s.time.port, mass := tankMass s (s.transfer d).tank, volume := tankVolume s (s.transfer d).tank
              good := gaugeGood s (s.transfer d).tank
              notClosed := valveFaulted s (tankValve s d) || valveFaulted s d.lineValve } }
      else s.transfer e := by
  simp [closeRecord]

@[simp] theorem closeRecord_gaugeRec (d : Driver) (s : State) (c : Nat) : (closeRecord d s).gaugeRec c = s.gaugeRec c := rfl

theorem returnToIdle_returns (d : Driver) (s : State) : ReturnsToIdle d s (returnToIdle d s) := by
  have hx : ∀ e, (returnToIdle d s).transfer e = (closeRecord d s).transfer e := by
    intro e; apply State.transfer_congr; simp [returnToIdle]
  have hb : ∀ e, (blendFill d (closeRecord d s)).transfer e = (closeRecord d s).transfer e := by
    intro e; apply State.transfer_congr; simp
  have hl : ∀ u : State, ∀ e, (logTransfer d u).transfer e = u.transfer e := by
    intro u e; apply State.transfer_congr; simp
  have hr : ∀ (k : Detail) (u : State) e, (raise k u).transfer e = u.transfer e := by
    intro k u e; apply State.transfer_congr; simp
  have htank : ((closeRecord d s).transfer d).tank = (s.transfer d).tank := by simp [closeRecord_transfer]
  have hg : ∀ c, (returnToIdle d s).gaugeRec c =
      if c = (s.transfer d).tank then ((blendFill d (closeRecord d s)).gaugeRec c).map
        (fun g => if d.gravity then { g with refMass := g.mass } else { g with refMass := g.mass, baseMass := g.mass })
      else (blendFill d (closeRecord d s)).gaugeRec c := by
    intro c
    have h1 : (returnToIdle d s).gaugeRec c = (settleTank d (raise (transferDetail (logTransfer d (blendFill d (closeRecord d s))) d)
      (logTransfer d (blendFill d (closeRecord d s))))).gaugeRec c := by simp [returnToIdle, State.gaugeRec]
    have h2 : ∀ (k : Detail) (u : State), (raise k (logTransfer d u)).gaugeRec c = u.gaugeRec c := by
      intro k u; simp [State.gaugeRec]
    rw [h1, settleTank, gaugeRec_changeGauge, hr, hl, hb, htank]
    split
    · next h => subst h; rw [h2]
    · rw [h2]
  have hden : tankDensity (returnToIdle d s) (s.transfer d).tank =
      tankDensity (blendFill d (closeRecord d s)) (s.transfer d).tank := by
    simp only [tankDensity, hg, if_pos, Option.map_map]
    congr 2; funext g; simp only [Function.comp]; split <;> rfl
  refine ⟨?_, ?_, ?_, ?_, ?_, ?_, ?_, ?_, ?_, ?_, ?_, ?_, ?_, ?_, ?_, ?_, ?_, ?_, ?_, ?_, ?_, ?_, ?_, ?_, ?_, ?_⟩
  · rw [hx]; simp [closeRecord_transfer, valveFaulted]
  · intro e he; rw [hx]; simp [closeRecord_transfer, he]
  · intro c
    rw [hg, blendFill_gaugeRec]
    simp only [closeRecord_transfer, if_pos, closeRecord_gaugeRec]
    by_cases hc : c = (s.transfer d).tank
    · simp only [hc, if_pos]
      cases hdir : (s.transfer d).direction <;> cases hp : s.tracker.density <;> cases s.gaugeRec (s.transfer d).tank <;> 
        simp [hp, Transfer.startVolume, blended, GaugeRec.withDensity] <;> (repeat' split) <;> simp_all <;>
        (rw [if_neg (by omega)])
    · simp only [if_neg hc]
      cases hdir : (s.transfer d).direction <;> cases hp : s.tracker.density <;> simp [hp]
  · intro h
    have : (returnToIdle d s).records = (logTransfer d (blendFill d (closeRecord d s))).records := by simp [returnToIdle]
    rw [this]; simp [logTransfer, hb, closeRecord_transfer, h]
  · intro st h
    have : (returnToIdle d s).records = (logTransfer d (blendFill d (closeRecord d s))).records := by simp [returnToIdle]
    rw [this, hden]
    simp only [logTransfer, hb, closeRecord_transfer, if_pos, h]
    have hm : meteredVolume (blendFill d (closeRecord d s)) d =
        if d.gravity then none else some (pumpVolume s.store.tables d (s.transfer d).pulses) := by
      simp [meteredVolume, hb, closeRecord_transfer]
    rw [hm]
    simp only [enterLog, transferCandidate, volumeBasis, disagrees, pumpVolume, meteredOf, blendFill_frame, closeRecord_frame]
    congr 2
    · cases st.good <;> cases gaugeGood s (s.transfer d).tank <;> cases d.gravity <;> simp
    · cases st.good <;> cases gaugeGood s (s.transfer d).tank <;> cases d.gravity <;> simp
    · cases st.good <;> cases gaugeGood s (s.transfer d).tank <;> cases d.gravity <;> simp
  · intro h
    have hn : (returnToIdle d s).links.notices = (raise (transferDetail (logTransfer d (blendFill d (closeRecord d s))) d)
      (logTransfer d (blendFill d (closeRecord d s)))).links.notices := by simp [returnToIdle]
    have := raise_notices (transferDetail (logTransfer d (blendFill d (closeRecord d s))) d)
      (logTransfer d (blendFill d (closeRecord d s))) .transfer
    simp only [NoticeKind.place] at this
    rw [hn, this]
    simp only [transferDetail, Detail.kind, meteredVolume, hl, hb, closeRecord_transfer, if_pos]
    simp [NoticeKind.enabled, NoticeKind.place, h, Transfer.notClosed, Transfer.startVolume, Transfer.endVolume, pumpVolume,
      meteredOf, valveFaulted]
  · intro k hk
    have hn : (returnToIdle d s).links.notices = (raise (transferDetail (logTransfer d (blendFill d (closeRecord d s))) d)
      (logTransfer d (blendFill d (closeRecord d s)))).links.notices := by simp [returnToIdle]
    rw [hn, raise_notices, if_neg]
    · simp
    · rintro ⟨h, -⟩; exact hk (by simpa [transferDetail, Detail.kind] using h)
  · have : (returnToIdle d s).links = (raise (transferDetail (logTransfer d (blendFill d (closeRecord d s))) d)
      (logTransfer d (blendFill d (closeRecord d s)))).links := by simp [returnToIdle]
    rw [this, raise_links]; simp
  · simp [returnToIdle, notify_told]
  · simp [returnToIdle, leaveClosing]
  · intro hs hd
    have he : (returnToIdle d s).engine = (blendFill d (closeRecord d s)).engine := by simp [returnToIdle]
    rw [hden] at hd
    rw [he, blendFill_engine]
    obtain ⟨g, hg⟩ := Option.isSome_iff_exists.mp hs
    simp only [tankDensity, blendFill_gaugeRec, closeRecord_transfer, if_pos, closeRecord_gaugeRec, closeRecord_frame, hg,
      tankVolume] at hd ⊢
    cases h1 : (s.transfer d).direction <;> cases h2 : s.tracker.density <;> simp [h1, h2, Transfer.startVolume] at hd ⊢
    rw [withDensity_density] at hd
    exact if_pos hd
  · intro hd hv hj
    have he : (returnToIdle d s).engine = (blendFill d (closeRecord d s)).engine := by simp [returnToIdle]
    rw [hden] at hd
    rw [he, blendFill_engine]
    cases hg : s.gaugeRec (s.transfer d).tank with
    | none =>
      refine absurd ?_ hd
      simp only [tankDensity, blendFill_gaugeRec, closeRecord_transfer, if_pos, closeRecord_gaugeRec, closeRecord_frame, hg]
      cases (s.transfer d).direction <;> cases s.tracker.density <;> rfl
    | some g =>
      simp only [tankDensity, blendFill_gaugeRec, closeRecord_transfer, if_pos, closeRecord_gaugeRec, closeRecord_frame, hg,
        tankVolume] at hd ⊢
      cases h1 : (s.transfer d).direction <;> cases h2 : s.tracker.density <;> simp [h1, h2, Transfer.startVolume] at hd ⊢
      rw [withDensity_density] at hd
      refine (if_neg hd).trans ?_
      rw [setRefreshMark_busy _ (by simpa using hj) (by simpa using hv)]
      simp
  · simp
  · simp
  · simp
  · have h : ∀ c, (blendFill d (closeRecord d s)).gauge = { s.gauge with recs := c } ∨ True := fun _ => .inr trivial
    have h1 := returnToIdle_fields d s
    obtain ⟨-, -, -, -, -, -, -, -, -, -, -, -, e1, e2, e3, e4, e5, e6, e7, e8, e9, e10, -⟩ := h1
    cases hs : (returnToIdle d s).gauge
    simp_all
  · simp [returnToIdle, closeRecord]
  · intro p; apply Eq.trans (b := (closeRecord d s).pumpOut p)
    · apply State.pumpOut_congr; simp [returnToIdle]
    · simp [closeRecord]
  · simp [returnToIdle, closeRecord]
  · simp [returnToIdle]
  all_goals simp

/-- What a command to a valve leaves and writes. -/
theorem commandValve_valve (ch : Nat) (e : ValveEnd) (s : State) (k : Nat) (hk : k < 38) :
    (commandValve ch e s).valve k =
      if k = ch then (s.valve ch).command e (ticks (s.store.tables.travel ch)) (feedback s ch) else s.valve k := by
  simp only [commandValve, State.setValve, State.valve, Tab.get_set, hk, and_true, eq_comm (a := ch)]

@[simp] theorem commandValve_transfer (ch : Nat) (e : ValveEnd) (s : State) (d : Driver) :
    (commandValve ch e s).transfer d = s.transfer d := State.transfer_congr rfl d

/-- A command to an end given twice is given once. -/
theorem Valve.command_command (e : ValveEnd) (n : Nat) (fb : Feedback) (v : Valve) :
    (v.command e n fb).command e n fb = v.command e n fb := by
  obtain ⟨c, st, why, k, h, dr⟩ := v
  cases e <;> cases st <;> cases fb <;> rfl

/-- What an end does to its transfer before its return to IDLE is judged. -/
def beginEnd (d : Driver) (reason : EndReason) (s : State) : State :=
  let s1 := stopDriver d (s.setTransfer d { s.transfer d with state := .closing, reason := some reason })
  notify d (fun p => { p with ended := some reason })
    (commandValve d.lineValve .closed (commandValve (tankValve s1 d) .closed s1))

theorem beginEnd_begins (d : Driver) (reason : EndReason) (s : State) : BeginsClosing d reason s (beginEnd d reason s) := by
  have hx : ∀ (u : State) (e : Driver), (stopDriver d u).transfer e = u.transfer e := by
    intro u e; apply State.transfer_congr; cases d <;> rfl
  have hv : ∀ (u : State) (ch : Nat), (stopDriver d u).valve ch = u.valve ch := by
    intro u ch; cases d <;> rfl
  have htv : tankValve (stopDriver d (s.setTransfer d { s.transfer d with state := .closing, reason := some reason })) d =
      tankValve s d := by simp [tankValve, hx]
  have hval : ∀ ch < 38, (beginEnd d reason s).valve ch =
      if ch = tankValve s d ∨ ch = d.lineValve then
        (s.valve ch).command .closed (s.store.tables.travel ch * 10) (feedback s ch)
      else s.valve ch := by
    intro ch hch
    have h1 : (beginEnd d reason s).valve ch = (commandValve d.lineValve .closed (commandValve (tankValve s d) .closed
        (stopDriver d (s.setTransfer d { s.transfer d with state := .closing, reason := some reason })))).valve ch := by
      simp only [beginEnd, htv]; rfl
    rw [h1, commandValve_valve _ _ _ _ hch]
    by_cases hl : ch = d.lineValve
    · subst hl
      rw [if_pos rfl, if_pos (Or.inr rfl), commandValve_valve _ _ _ _ hch]
      split
      · next h => simp [hv, feedback, ticks, h, Valve.command_command]
      · simp [hv, feedback, ticks]
    · rw [if_neg hl, commandValve_valve _ _ _ _ hch]
      by_cases ht : ch = tankValve s d
      · simp [ht, hv, feedback, ticks]
      · simp [ht, hl, hv]
  have hps : ∀ p : Pump, (beginEnd d reason s).pumpOut p =
      (stopDriver d (s.setTransfer d { s.transfer d with state := .closing, reason := some reason })).pumpOut p := by
    intro p; cases p <;> rfl
  have hpm : ∀ p : Pump, (beginEnd d reason s).pumpMeter p =
      (stopDriver d (s.setTransfer d { s.transfer d with state := .closing, reason := some reason })).pumpMeter p := by
    intro p; cases p <;> rfl
  refine ⟨?_, ?_, ?_, ?_, hval, ?_, ?_, ?_, ?_, ?_, ?_, ?_, ?_, ?_, ?_, ?_, ?_, ?_, ?_, ?_⟩
  · have : (beginEnd d reason s).transfer d = (stopDriver d (s.setTransfer d { s.transfer d with state := .closing, reason := some reason })).transfer d :=
      State.transfer_congr rfl d
    simp [this, hx]
  · intro e he
    have : (beginEnd d reason s).transfer e = (stopDriver d (s.setTransfer d { s.transfer d with state := .closing, reason := some reason })).transfer e :=
      State.transfer_congr rfl e
    simp [this, hx, he]
  · intro p hp
    rw [hps, hpm]
    cases d <;> simp [Driver.pump?] at hp <;> subst hp <;> exact ⟨rfl, rfl⟩
  · intro p hp
    rw [hps, hpm]
    cases d <;> cases p <;> simp [Driver.pump?] at hp <;> exact ⟨rfl, rfl⟩
  · simp [beginEnd, notify_told]
  · cases d <;> rfl
  · cases d <;> rfl
  · cases d <;> rfl
  all_goals simp [beginEnd]

theorem endTransfer_closes (d : Driver) (reason : EndReason) (s : State) : ClosesWith d reason s (endTransfer d reason s) := by
  have h : endTransfer d reason s = tryIdle d (beginEnd d reason s) := rfl
  obtain ⟨hx, -⟩ := beginEnd_begins d reason s
  refine ⟨beginEnd d reason s, beginEnd_begins d reason s, fun hv => ?_, fun hv => ?_⟩
  · rw [h, tryIdle, if_pos]
    · exact returnToIdle_returns d _
    · refine ⟨by rw [hx], ?_⟩
      simpa [bothValves, ValvesDone] using hv
  · rw [h, tryIdle, if_neg]
    rintro ⟨-, hb⟩
    exact hv (by simpa [bothValves, ValvesDone] using hb)

/-- A transfer that is not CLOSING, or one of whose valves is not done, does not return to IDLE (R115). -/
theorem tryIdle_not {d : Driver} {s : State} (h : ¬ ((s.transfer d).state = .closing ∧ ValvesDone s d)) : tryIdle d s = s := by
  rw [tryIdle, if_neg]
  rintro ⟨h1, h2⟩
  exact h ⟨h1, by simpa [bothValves, ValvesDone] using h2⟩

/-- A transfer in CLOSING whose valves are both done returns to IDLE (R115). -/
theorem tryIdle_returns {d : Driver} {s : State} (h1 : (s.transfer d).state = .closing) (h2 : ValvesDone s d) :
    ReturnsToIdle d s (tryIdle d s) := by
  rw [tryIdle, if_pos ⟨h1, by simpa [bothValves, ValvesDone] using h2⟩]
  exact returnToIdle_returns d s

/-- A transfer that is not OPENING, or one of whose valves is not OPEN, does not go on (R110). -/
theorem goOn_not {d : Driver} {s : State} (h : ¬ ((s.transfer d).state = .opening ∧ ValvesOpen s d)) : goOn d s = s := by
  rw [goOn, if_neg]
  rintro ⟨h1, h2⟩
  exact h ⟨h1, by simpa [bothValves, ValvesOpen] using h2⟩

/-- What going on does to a transfer in OPENING whose valves are both OPEN (R110). -/
theorem goOn_goes {d : Driver} {s : State} (h1 : (s.transfer d).state = .opening) (h2 : ValvesOpen s d) :
    GoesOn d s (goOn d s) := by
  have hg : goOn d s = notify d (fun p => { p with entered := true })
      (match d.pump? with
        | some p => startPump d p s
        | none => s.setTransfer d { s.transfer d with state := .running }) := by
    unfold goOn; exact if_pos ⟨h1, by simpa [bothValves, ValvesOpen] using h2⟩
  have hs : (match d.pump? with
        | some p => startPump d p s
        | none => s.setTransfer d { s.transfer d with state := .running }).seq = s.seq := by
    cases d <;> rfl
  rw [hg, notify_told]
  refine ⟨?_, ?_, ?_, ?_, ?_, ?_, ?_, ?_, ?_, ?_, ?_, ?_, ?_, ?_, ?_, ?_, ?_, ?_, ?_, ?_⟩
  · cases d <;> rfl
  · intro e he; cases d <;> cases e <;> first | rfl | exact absurd rfl he
  · intro p hp; cases d <;> simp [Driver.pump?] at hp <;> subst hp <;> exact ⟨rfl, rfl⟩
  · intro p hp; cases d <;> cases p <;> simp [Driver.pump?] at hp <;> exact ⟨rfl, rfl⟩
  · simp only [hs]
  all_goals (cases d <;> rfl)

/-- All that a valve's fault does (R98, R100). -/
theorem valveFails_fails (ch : Nat) (cause : ValveFault) (s : State) : FailsValve ch cause s (valveFails ch cause s) := by
  have hx : ∀ (k : Detail) (v : Valve) (d : Driver), (raise k (s.setValve ch v)).transfer d = s.transfer d := by
    intro k v d; apply Eq.trans (State.transfer_congr (t := s.setValve ch v) (by simp) d); rfl
  refine ⟨fun h => ?_, fun d h => ⟨fun ha => ?_, fun hc hd => ?_, fun ha hn => ?_⟩⟩
  · simp only [valveFails, h]; rfl
  · have he : valveFails ch cause s = endTransfer d .valveFault (raise (.valve ch cause (feedback s ch) (holderOf s ch))
        (s.setValve ch { s.valve ch with state := .fault, cause := some cause, countdown := 0, drive := none })) := by
      simp only [valveFails, h]
      rw [if_neg (by intro hc; rw [hc] at ha; exact absurd ha (by decide)), endEvent, if_pos (by rw [hx]; exact ha)]
      rfl
    rw [he]; exact endTransfer_closes _ _ _
  · have he : valveFails ch cause s = tryIdle d (raise (.valve ch cause (feedback s ch) (holderOf s ch))
        (s.setValve ch { s.valve ch with state := .fault, cause := some cause, countdown := 0, drive := none })) := by
      simp only [valveFails, h]; rw [if_pos hc]; rfl
    rw [he]; exact tryIdle_returns (by rw [hx]; exact hc) hd
  · simp only [valveFails, h]
    split
    · next hc =>
      rw [tryIdle_not]
      · rfl
      · rintro ⟨-, hd⟩
        exact hn ⟨hc, by simp only [h]; exact hd⟩
    · rw [endEvent, if_neg]
      · rfl
      · rw [hx, ha]; decide

/-- All that a valve's arrival does (R97, R110, R115). -/
theorem valveArrives_arrives (ch : Nat) (s : State) : ArrivesValve ch s (valveArrives ch s) := by
  refine ⟨fun h => ?_, fun d h => ⟨fun ho hv => ?_, fun hc hd => ?_, fun hno hnc => ?_⟩⟩
  · simp only [valveArrives, h]; rfl
  · simp only [valveArrives, h]
    have hg := goOn_goes (s := s.setValve ch ((s.valve ch).arriveAt (s.valve ch).commanded)) (d := d) ho hv
    rw [tryIdle_not]
    · exact hg
    · rintro ⟨h1, -⟩
      have := hg.1
      rw [this] at h1; revert h1; cases d <;> simp [Driver.gravity, Driver.pump?]
  · simp only [valveArrives, h]
    rw [goOn_not]
    · exact tryIdle_returns (s := s.setValve ch ((s.valve ch).arriveAt (s.valve ch).commanded)) hc hd
    · rintro ⟨h1, -⟩; exact absurd (hc.symm.trans h1) (by decide)
  · simp only [valveArrives, h]
    rw [goOn_not hno, tryIdle_not hnc]; rfl

end Sys2Proof.Machine
end

