-- ==== Sys2Proof/Laws/ShipData.lean ====
section
/-! SUPPORT. What the withdrawal of the tables from force, the assignments that tables in force bring, and the
beginning of a sweep can do, said once (R15, R20, R22, R24, R44, R86, R96, R98). -/

namespace Sys2Proof.Machine

/-- A loss of assignment writes at most the valve records (R96). -/
theorem dropAssignment_eq (b s : State) (ch : Nat) :
    dropAssignment b s ch = { s with xfer := { s.xfer with valves := (dropAssignment b s ch).xfer.valves } } := by
  unfold dropAssignment; split <;> rfl

/-- What the losses of assignment of a list of channels leave and write (R96). -/
theorem dropAssignments_list (b : State) : ∀ (l : List Nat) (s : State), l.Nodup → (∀ c ∈ l, c < 38) →
    l.foldl (dropAssignment b) s = { s with xfer := { s.xfer with valves := (l.foldl (dropAssignment b) s).xfer.valves } } ∧
    ∀ ch, (l.foldl (dropAssignment b) s).valve ch =
      if ch ∈ l ∧ assigned b ch = true ∧ assigned s ch = false ∧ (s.valve ch).state.moving = true then
        (s.valve ch).adopt (feedback s ch)
      else s.valve ch := by
  intro l
  induction l with
  | nil => intro s _ _; exact ⟨rfl, fun ch => by simp⟩
  | cons c cs ih =>
    intro s hn hl
    obtain ⟨h1, h2⟩ := ih (dropAssignment b s c) (List.nodup_cons.mp hn).2 (fun x hx => hl x (List.mem_cons_of_mem _ hx))
    have hc : c < 38 := hl c (List.mem_cons_self ..)
    have hf := dropAssignment_eq b s c
    have ha : ∀ ch, assigned (dropAssignment b s c) ch = assigned s ch := by intro ch; rw [hf]; rfl
    have hfb : ∀ ch, feedback (dropAssignment b s c) ch = feedback s ch := by intro ch; rw [hf]; rfl
    have hv : ∀ ch, (dropAssignment b s c).valve ch =
        if ch = c ∧ assigned b ch = true ∧ assigned s ch = false ∧ (s.valve ch).state.moving = true then
          (s.valve ch).adopt (feedback s ch) else s.valve ch := by
      intro ch
      unfold dropAssignment
      by_cases hcc : ch = c
      · subst hcc
        by_cases hk : assigned b ch = true ∧ ¬ assigned s ch = true ∧ (s.valve ch).state.moving = true
        · rw [if_pos hk, if_pos ⟨rfl, hk.1, by simpa using hk.2.1, hk.2.2⟩]
          simp [State.valve, State.setValve, Tab.get, Tab.set, List.getD_eq_getElem?_getD, s.xfer.valves.full, hc]
        · rw [if_neg hk, if_neg (by rintro ⟨-, a, b', c'⟩; exact hk ⟨a, by simpa using b', c'⟩)]
      · by_cases hk : assigned b c = true ∧ ¬ assigned s c = true ∧ (s.valve c).state.moving = true
        · rw [if_pos hk]
          simp [hcc, State.valve, State.setValve, Tab.get, Tab.set, List.getD_eq_getElem?_getD,
            List.getElem?_set_ne (Ne.symm hcc)]
        · rw [if_neg hk]; simp [hcc]
    refine ⟨?_, fun ch => ?_⟩
    · rw [List.foldl_cons, h1, hf]
    · rw [List.foldl_cons, h2 ch, ha, hfb, hv]
      by_cases hcc : ch = c
      · subst hcc
        have hnot := (List.nodup_cons.mp hn).1
        simp [hnot]
      · simp [hcc]

/-- A raised notice writes the links alone (R200). -/
theorem raise_only_links (d : Detail) (w : State) : raise d w = { w with links := (raise d w).links } := by
  unfold raise; split <;> rfl

/-- What a raised notice writes depends on the links alone (R200). -/
theorem raise_links_congr (d : Detail) {v w : State} (h : v.links = w.links) : (raise d v).links = (raise d w).links := by
  unfold raise; rw [h]; split
  · rfl
  · exact h

/-- The LIMIT notice's detail depends on the Limits Unit alone (R85). -/
theorem limitDetail_congr (old : LimitFlags) (b : Bool) {v w : State} (h : v.limits = w.limits) :
    limitDetail old b v = limitDetail old b w := by simp only [limitDetail, h]

/-- The limit status record after a withdrawal (R86). -/
theorem limitsWithdraw_limits (s : State) : (limitsWithdraw s).limits = { s.limits with
    judgedSeq := 0, clearances := Tab.replicate 12 none, deepest := none, trim := none, flags := LimitFlags.clear } := by
  unfold limitsWithdraw
  dsimp only
  split
  · rw [raise_only_links]; rfl
  · rfl

/-- A withdrawal writes the limit status record and raises at most one notice (R86). -/
theorem limitsWithdraw_eq (s : State) :
    limitsWithdraw s = { s with limits := (limitsWithdraw s).limits, links := (limitsWithdraw s).links } := by
  unfold limitsWithdraw
  dsimp only
  split
  · rw [raise_only_links]; rfl
  · rfl

/-- The LIMIT notice of a withdrawal (R86). -/
theorem limitsWithdraw_links (s : State) (l : Limits) (h : (limitsWithdraw s).limits = l) :
    (limitsWithdraw s).links =
      (if s.limits.flags.any = true then
        raise (limitDetail s.limits.flags s.limits.watch.cautionFlag { s with limits := l }) s else s).links := by
  subst h
  rw [limitsWithdraw_limits]
  unfold limitsWithdraw
  by_cases ha : s.limits.flags.any = true
  · simp only [if_pos ha]; exact raise_links_congr _ rfl
  · simp only [if_neg ha]; rfl

/-- The tables leave force in whole (R15, R20, R44, R86, R96). -/
theorem withdrawData_withdraws (s : State) (st : Store) (h : st.dataState ≠ .valid) :
    WithdrawsTables s (withdrawData s (s.setStore st)) := by
  have hs : ∀ w : State, w.store = st → ∀ ch, assigned w ch = false := by
    intro w hw ch; simp [assigned, dataValid, hw, h]
  have hgain : ∀ (l : List Nat) (w : State), w.store = st → l.foldl (gainAssignment s) w = w := by
    intro l
    induction l with
    | nil => intro w _; rfl
    | cons c cs ih =>
      intro w hw
      have : gainAssignment s w c = w := by simp [gainAssignment, hs w hw c]
      rw [List.foldl_cons, this]; exact ih w hw
  let v := s.setStore st
  let e : State := { stopSweep v with engine := withdrawEngine (stopSweep v).engine }
  let w := clearRates (limitsWithdraw e)
  have hw : w.store = st := by show (clearRates (limitsWithdraw e)).store = st; simp [e, v, State.setStore, stopSweep, State.setGauging]
  have hd := dropAssignments_list s channels w (by decide) (by decide)
  have hr : withdrawData s (s.setStore st) = dropAssignments s w := by
    show channels.foldl (gainAssignment s) (dropAssignments s w) = _
    rw [hgain]
    show (channels.foldl (dropAssignment s) w).store = st
    rw [hd.1]; exact hw
  rw [hr]
  have hx : dropAssignments s w = { w with xfer := { w.xfer with valves := (dropAssignments s w).xfer.valves } } := hd.1
  rw [hx]
  have hf := limitsWithdraw_eq e
  have hlim := limitsWithdraw_limits e
  have hm : ∀ p, (clearRates (limitsWithdraw e)).pumpMeter p = { s.pumpMeter p with rate := 0 } := by
    intro p; rw [hf]; cases p <;> rfl
  refine ⟨?_, ?_, hlim, ?_, hm, ?_, ?_, ?_, ?_, ?_, ?_, ?_, ?_, ?_, ?_, ?_⟩
  · show (limitsWithdraw e).gauge = _; rw [hf]; rfl
  · show (limitsWithdraw e).engine = _; rw [hf]; rfl
  · show (limitsWithdraw e).links = _
    rw [limitsWithdraw_links e _ rfl]
    by_cases ha : s.limits.flags.any = true
    · rw [if_pos (show e.limits.flags.any = true from ha), if_pos ha,
        limitDetail_congr _ _ (v := { e with limits := (limitsWithdraw e).limits })
          (w := { s with limits := (clearRates (limitsWithdraw e)).limits }) rfl]
      exact raise_links_congr _ rfl
    · rw [if_neg (show ¬ e.limits.flags.any = true from ha), if_neg ha]; rfl
  · show (limitsWithdraw e).meter.g0 = _; rw [hf]; rfl
  · show (limitsWithdraw e).meter.g1 = _; rw [hf]; rfl
  · intro ch hc
    have hwv : w.valve ch = s.valve ch := by show (limitsWithdraw e).valve ch = _; rw [hf]; rfl
    have hwf : feedback w ch = feedback s ch := by show feedback (limitsWithdraw e) ch = _; rw [hf]; rfl
    have := hd.2 ch
    rw [hs w hw ch, hwv, hwf] at this
    show (List.foldl (dropAssignment s) w channels).valve ch = _
    rw [this]
    have hm : ch ∈ channels := List.mem_range.mpr hc
    simp only [hm, true_and]
    congr 1
  · have hwx : w.xfer = s.xfer := by show (limitsWithdraw e).xfer = _; rw [hf]; rfl
    simp only [hwx]
  · show (limitsWithdraw e).seq = _; rw [hf]; rfl
  · show (limitsWithdraw e).tracker = _; rw [hf]; rfl
  · show (limitsWithdraw e).console = _; rw [hf]; rfl
  · show (limitsWithdraw e).records = _; rw [hf]; rfl
  · show (limitsWithdraw e).time = _; rw [hf]; rfl
  · show (limitsWithdraw e).inputs = _; rw [hf]; rfl
  · show (limitsWithdraw e).pending = _; rw [hf]; rfl

/-! ## The assignments that tables in force bring -/

/-- The gains of assignment are judged channel after channel (R98). -/
theorem gainAssignments_gains (before x : State) : GainsValves before x (channels.foldl (gainAssignment before) x) := by
  refine ⟨fun n => (List.range n).foldl (gainAssignment before) x, rfl, rfl, fun ch _ => ?_⟩
  simp only [List.range_succ, List.foldl_append, List.foldl_cons, List.foldl_nil]
  generalize (List.range ch).foldl (gainAssignment before) x = w
  unfold gainAssignment
  refine ⟨fun h => ?_, fun h => ?_⟩
  · rw [if_pos ⟨by simp [h.1], h.2⟩]; exact valveFails_fails _ _ _
  · rw [if_neg (by rintro ⟨h1, h2⟩; exact h ⟨by simpa using h1, h2⟩)]

/-! ## The beginning of a sweep -/

/-- The sweep polls the first slot found from slot 0 (R22). -/
theorem nextPolled_zero (s : State) : nextPolled s 0 = (List.range s.store.tables.slots).find? (polled s) := rfl

/-- All that the beginning of a sweep does (R22, R24). -/
theorem beginSweep_begins (s : State) (h : s.store.dataState = .valid) : BeginsSweep s (beginSweep s) := by
  have hv : dataValid s = true := by simp [dataValid, h]
  let a : State := s.setGauging
      { s.gauge with
        currentMask := s.gauge.nextMask, sweeping := true, slot := 0, readings := Tab.replicate 32 .notPolled
        poll := none, countdown := none }
  have hp : ∀ (t : State), t.store = s.store → t.gauge.currentMask = s.gauge.nextMask → ∀ n, polled t n = polled a n := by
    intro t h1 h2 n; simp only [polled, h1, h2]; rfl
  cases hn : nextPolled a 0 with
  | some k =>
    have hb : beginSweep s = pollSlot k a := by simp only [beginSweep, hv, if_true]; rw [show nextPolled _ 0 = some k from hn]
    rw [hb]
    have hk := List.find?_range_eq_some.mp hn
    refine ⟨rfl, fun n hlt hpn hm => ?_, fun hall => ?_⟩
    · rw [hp (pollSlot k a) rfl rfl] at hpn
      have : k = n := by
        rcases Nat.lt_trichotomy k n with hlt' | he | hgt
        · have := hm k hlt'; rw [hp (pollSlot k a) rfl rfl] at this; rw [this] at hk; exact absurd hk.1 (by decide)
        · exact he
        · have := hk.2.2 n hgt; rw [hpn] at this; exact absurd this (by decide)
      subst this; exact ⟨rfl, rfl, rfl⟩
    · have := hall k (List.mem_range.mp hk.2.1); rw [hp (pollSlot k a) rfl rfl] at this; rw [this] at hk; exact absurd hk.1 (by decide)
  | none =>
    have hb : beginSweep s = a.setGauging { a.gauge with countdown := some (ticks 1) } := by
      simp only [beginSweep, hv, if_true]; rw [show nextPolled _ 0 = none from hn]
    rw [hb]
    have hk := List.find?_eq_none.mp hn
    refine ⟨rfl, fun n hlt hpn hm => ?_, fun hall => ⟨rfl, rfl, rfl⟩⟩
    rw [hp (a.setGauging { a.gauge with countdown := some (ticks 1) }) rfl rfl] at hpn
    exact absurd hpn (hk n (List.mem_range.mpr hlt))

end Sys2Proof.Machine
end

