-- ==== Sys2Proof/Laws/Starts.lean ====
section
/-! SUPPORT. The start of a transfer: it is refused by the first check that fails and accepted where none does (R106), and what an
accepted start can do (R108). -/

namespace Sys2Proof.Machine

theorem Driver.ofCode_iff (n : Nat) (d : Driver) : Driver.ofCode n = some d ↔ d.code = n := by
  constructor
  · rcases n with _ | _ | _ | _ | _ | _ | n <;> simp only [Driver.ofCode] <;> intro h <;> cases h <;> rfl
  · rintro rfl; cases d <;> rfl

theorem Driver.ofCode_none (n : Nat) : Driver.ofCode n = none ↔ 5 < n := by
  rcases n with _ | _ | _ | _ | _ | _ | n <;> simp [Driver.ofCode]

theorem Driver.gravity_iff (d : Driver) : d.gravity = true ↔ 4 ≤ d.code := by cases d <;> decide

/-- Check 3 fails exactly where the arguments name no start (R106). -/
theorem resolve_none_iff (s : State) (r : StartReq) : r.resolve s.store.tables = none ↔ StartFails s r .badArgument := by
  obtain ⟨d, tank, dir, target, paced, base⟩ := r
  simp only [StartFails]
  rcases hd : Driver.ofCode d with _ | e
  · simp only [StartReq.resolve, hd, true_iff]
    exact .inl ((Driver.ofCode_none d).1 hd)
  have hd5 : ¬ 5 < d := fun h => by rw [(Driver.ofCode_none d).2 h] at hd; cases hd
  have hg : e.gravity = true ↔ 4 ≤ d := by rw [Driver.gravity_iff, (Driver.ofCode_iff d e).1 hd]
  rcases dir with _ | _ | dir
  · rcases paced with _ | _ | paced
    all_goals
      by_cases hk : s.store.tables.kind tank = some .ballast <;> by_cases ht : target = 4294967295 <;>
        by_cases hm : target ≤ 4000000 <;>
        simp [StartReq.resolve, hd, Direction.ofCode, Target.ofCode, flagOfCode, emptyMarker, massMax, Tables.isBallast, hk, ht,
          hm, hd5] <;> omega
  · rcases paced with _ | _ | paced
    all_goals
      by_cases hk : s.store.tables.kind tank = some .ballast <;> by_cases ht : target = 4294967295 <;>
        by_cases hm : target ≤ 4000000 <;>
        simp [StartReq.resolve, hd, Direction.ofCode, Target.ofCode, flagOfCode, emptyMarker, massMax, Tables.isBallast, hk, ht,
          hm, hd5, hg] <;> omega
  · simp [StartReq.resolve, hd, Direction.ofCode]

/-- The start that check 3 makes of the arguments. -/
theorem resolve_some {T : Tables} {r : StartReq} {st : Start} (h : r.resolve T = some st) :
    st.driver.code = r.driver ∧ st = startNamed st.driver r := by
  obtain ⟨d, tank, dir, target, paced, base⟩ := r
  simp only [StartReq.resolve] at h
  split at h
  · next e dd t p h1 h2 h3 h4 =>
    split at h
    · cases h
    · cases h
      refine ⟨(Driver.ofCode_iff d e).1 h1, ?_⟩
      have e2 : dd = if dir = 1 then Direction.fill else .discharge := by
        rcases dir with _ | _ | _ <;> simp [Direction.ofCode] at h2 <;> simp [h2]
      have e3 : t = if target = 4294967295 then Target.empty else .mass target := by
        rw [Target.ofCode] at h3
        by_cases ht : target = emptyMarker
        · rw [if_pos ht] at h3; cases h3; exact (if_pos ht).symm
        · rw [if_neg ht] at h3
          refine Eq.trans ?_ (if_neg ht).symm
          by_cases hm : target ≤ massMax
          · rw [if_pos hm] at h3; cases h3; rfl
          · rw [if_neg hm] at h3; cases h3
      have e4 : p = (paced == 1) := by
        rcases paced with _ | _ | _ <;> simp [flagOfCode] at h4 <;> simp [h4]
      subst e2 e3 e4
      rfl
  · cases h

/-! Each of the checks 4 to 11 on the start that check 3 makes. -/

theorem allows_iff {s : State} {r : StartReq} {e : Driver} (he : e.code = r.driver) :
    s.store.tables.allows e r.tank = false ↔ StartFails s r .notEligible := by
  obtain ⟨d, tank, dir, target, paced, base⟩ := r
  simp only at he
  subst he
  simp only [StartFails, Tables.allows]
  generalize s.store.tables.gravityLine tank = n
  cases e <;> rcases n with _ | _ | _ | n <;> simp [Driver.gravity, Driver.pump?, Driver.code, gravityDriver]

theorem estimated_iff (s : State) (c : Nat) :
    estimated s c = true ↔ ∃ g, s.gaugeRec c = some g ∧ (g.state = .lost ∨ g.state = .masked) := by
  rcases h : s.gaugeRec c with _ | g
  · simp [estimated, h]
  · rcases hs : g.state with _ | _ | _ | _ | _ <;> simp [estimated, h, GaugeRec.source, GaugeState.source, hs]

theorem headLow_iff (s : State) (c : Nat) :
    headLow s c = true ↔ ∃ p, s.engine.published = some p ∧ gravityHead s c p < s.store.tables.minHead := by
  rcases h : s.engine.published with _ | p <;> simp [headLow, h]

theorem tankBusy_iff (s : State) (c : Nat) :
    tankBusy s c = true ↔ ∃ d : Driver, (s.transfer d).state ≠ .idle ∧ (s.transfer d).tank = c := by
  have hall : ∀ d : Driver, d ∈ drivers := by intro d; cases d <;> decide
  simp [tankBusy, busyDrivers, hall]

/-- Checks 4 to 11: none fails, or the first that fails gives the cause (R106). -/
theorem startFault_spec {s : State} {r : StartReq} {e : Driver} (he : e.code = r.driver) :
    match startFault s (startNamed e r) with
    | none => ∀ x : StartCause, 3 < x.check → ¬ StartFails s r x
    | some c => 3 < c.check ∧ StartFails s r c ∧ ∀ x : StartCause, 3 < x.check → x.check < c.check → ¬ StartFails s r x := by
  have h4 := allows_iff (s := s) he
  have hg : e.gravity = true ↔ 4 ≤ r.driver := by rw [Driver.gravity_iff, he]
  have code : ∀ d : Driver, d.code = r.driver ↔ d = e := by
    intro d; rw [← he]; constructor
    · cases d <;> cases e <;> simp [Driver.code]
    · rintro rfl; rfl
  have h5 : ((startNamed e r).paced = true ∧ (e.gravity = true ∨ ¬ s.store.tables.variable e = true)) ↔
      StartFails s r .paceFixed := by simp [StartFails, startNamed, code, hg]
  have h6 : (s.transfer e).state ≠ .idle ↔ StartFails s r .driverBusy := by simp [StartFails, code]
  have h7 : tankBusy s r.tank = true ↔ StartFails s r .tankBusy := tankBusy_iff s r.tank
  have h8 : (valveFaulted s (s.store.tables.gaugeSlot r.tank) = true ∨ valveFaulted s e.lineValve = true) ↔
      StartFails s r .valveFault := by simp [StartFails, code, valveFaulted]
  have h9 : (e.gravity = true ∧ estimated s r.tank = true) ↔ StartFails s r .noMeasure := by
    rw [estimated_iff, hg]; exact Iff.rfl
  have h10 : (e.gravity = true ∧ s.engine.published.isNone = true) ↔ StartFails s r .noCondition := by
    rw [Option.isNone_iff_eq_none, hg]; exact Iff.rfl
  have h11 : (e.gravity = true ∧ headLow s r.tank = true) ↔ StartFails s r .lowHead := by
    rw [headLow_iff, hg]; exact Iff.rfl
  have hd : (startNamed e r).driver = e := rfl
  have ht : (startNamed e r).tank = r.tank := rfl
  have h4' : ¬ s.store.tables.allows e r.tank = true ↔ StartFails s r .notEligible := by rw [← h4]; simp
  unfold startFault
  dsimp only
  rw [hd, ht]
  by_cases n4 : StartFails s r .notEligible
  · rw [if_pos (h4'.2 n4)]
    exact ⟨by decide, n4, fun x a b => by
      cases x <;> first | exact absurd a (by decide) | exact absurd b (by decide)⟩
  rw [if_neg (mt h4'.1 n4)]
  by_cases n5 : StartFails s r .paceFixed
  · rw [if_pos (h5.2 n5)]
    exact ⟨by decide, n5, fun x a b => by
      cases x <;> first | exact absurd a (by decide) | exact absurd b (by decide) | assumption⟩
  rw [if_neg (mt h5.1 n5)]
  by_cases n6 : StartFails s r .driverBusy
  · rw [if_pos (h6.2 n6)]
    exact ⟨by decide, n6, fun x a b => by
      cases x <;> first | exact absurd a (by decide) | exact absurd b (by decide) | assumption⟩
  rw [if_neg (mt h6.1 n6)]
  by_cases n7 : StartFails s r .tankBusy
  · rw [if_pos (h7.2 n7)]
    exact ⟨by decide, n7, fun x a b => by
      cases x <;> first | exact absurd a (by decide) | exact absurd b (by decide) | assumption⟩
  rw [if_neg (mt h7.1 n7)]
  by_cases n8 : StartFails s r .valveFault
  · rw [if_pos (h8.2 n8)]
    exact ⟨by decide, n8, fun x a b => by
      cases x <;> first | exact absurd a (by decide) | exact absurd b (by decide) | assumption⟩
  rw [if_neg (mt h8.1 n8)]
  by_cases n9 : StartFails s r .noMeasure
  · rw [if_pos (h9.2 n9)]
    exact ⟨by decide, n9, fun x a b => by
      cases x <;> first | exact absurd a (by decide) | exact absurd b (by decide) | assumption⟩
  rw [if_neg (mt h9.1 n9)]
  by_cases n10 : StartFails s r .noCondition
  · rw [if_pos (h10.2 n10)]
    exact ⟨by decide, n10, fun x a b => by
      cases x <;> first | exact absurd a (by decide) | exact absurd b (by decide) | assumption⟩
  rw [if_neg (mt h10.1 n10)]
  by_cases n11 : StartFails s r .lowHead
  · rw [if_pos (h11.2 n11)]
    exact ⟨by decide, n11, fun x a b => by
      cases x <;> first | exact absurd a (by decide) | exact absurd b (by decide) | assumption⟩
  rw [if_neg (mt h11.1 n11)]
  exact fun x a => by cases x <;> first | exact absurd a (by decide) | assumption

/-- What the start checks answer (R106). -/
theorem judgeStart_spec (s : State) (r : StartReq) :
    match judgeStart s r with
    | .error cause => StartRefused s r cause
    | .ok st => StartPasses s r ∧ st.driver.code = r.driver ∧ st = startNamed st.driver r := by
  unfold judgeStart
  by_cases n1 : StartFails s r .notLoading
  · rw [if_pos (c := s.tracker.op ≠ .loading) n1]
    exact ⟨n1, fun x a => by cases x <;> exact absurd a (by decide)⟩
  rw [if_neg (c := s.tracker.op ≠ .loading) n1]
  by_cases n2 : StartFails s r .console
  · rw [if_pos (c := s.console.state ≠ .auto) n2]
    exact ⟨n2, fun x a => by cases x <;> first | exact absurd a (by decide) | assumption⟩
  rw [if_neg (c := s.console.state ≠ .auto) n2]
  rcases hr : r.resolve s.store.tables with _ | st
  · exact ⟨(resolve_none_iff s r).1 hr, fun x a => by cases x <;> first | exact absurd a (by decide) | assumption⟩
  have n3 : ¬ StartFails s r .badArgument := fun h => by rw [(resolve_none_iff s r).2 h] at hr; cases hr
  obtain ⟨hc, hst⟩ := resolve_some hr
  have hp : ∀ x : StartCause, x.check ≤ 3 → ¬ StartFails s r x := by
    intro x hx; cases x <;> first | exact absurd hx (by decide) | assumption
  have := startFault_spec (s := s) hc
  rw [← hst] at this
  dsimp only
  rcases hf : startFault s st with _ | cause <;> rw [hf] at this <;> dsimp only at this ⊢
  · exact ⟨fun x => (Nat.lt_or_ge 3 x.check).elim (this x) (hp x), hc, hst⟩
  · exact ⟨this.2.1, fun x hx => (Nat.lt_or_ge 3 x.check).elim (fun h => this.2.2 x h hx) (hp x)⟩

/-- A start is refused with a cause exactly where that check is the first that fails (R106). -/
theorem judgeStart_error_iff (s : State) (r : StartReq) (cause : StartCause) :
    judgeStart s r = .error cause ↔ StartRefused s r cause := by
  have h := judgeStart_spec s r
  rcases hj : judgeStart s r with c | st <;> rw [hj] at h <;> dsimp only at h
  · constructor
    · rintro ⟨⟩; exact h
    · intro hc
      have : c.check = cause.check :=
        Nat.le_antisymm (Nat.le_of_not_lt fun l => h.2 _ l hc.1) (Nat.le_of_not_lt fun l => hc.2 _ l h.1)
      have : c = cause := by revert this; cases c <;> cases cause <;> decide
      rw [this]
  · exact ⟨fun h => (nomatch h), fun hc => absurd hc.1 (h.1 cause)⟩

/-- A start of a driver is accepted exactly where no check fails, as the start that the arguments name (R106). -/
theorem judgeStart_ok_iff {s : State} {r : StartReq} {d : Driver} (hd : d.code = r.driver) :
    judgeStart s r = .ok (startNamed d r) ↔ StartPasses s r := by
  have h := judgeStart_spec s r
  rcases hj : judgeStart s r with c | st <;> rw [hj] at h <;> dsimp only at h
  · exact ⟨fun h => (nomatch h), fun hp => absurd h.1 (hp c)⟩
  · refine ⟨fun _ => h.1, fun _ => ?_⟩
    have : st.driver = d := by
      have := h.2.1.trans hd.symm
      revert this; cases st.driver <;> cases d <;> decide
    rw [h.2.2, this]

/-- A start that is accepted names a driver (R106). -/
theorem StartPasses.driver {s : State} {r : StartReq} (h : StartPasses s r) : ∃ d : Driver, d.code = r.driver := by
  have hn : ¬ 5 < r.driver := fun hn => h .badArgument (.inl hn)
  rcases hd : Driver.ofCode r.driver with _ | d
  · exact absurd ((Driver.ofCode_none _).1 hd) hn
  · exact ⟨d, (Driver.ofCode_iff _ _).1 hd⟩

/-- An accepted start up to its step 7 (R108). -/
def openingStart (owner : Owner) (step : Option Nat) (r : Start) (s : State) : State :=
  commandValve r.driver.lineValve .opened (commandValve (s.store.tables.gaugeSlot r.tank) .opened
    (startBase r (s.setTransfer r.driver (r.record s owner step))))

theorem startBase_gaugeRec (r : Start) (s : State) (c : Nat) :
    (startBase r s).gaugeRec c = (s.gaugeRec c).map fun g =>
      match r.driver.pump? with
      | some p =>
        if c = r.tank ∧ (g.state = .lost ∨ g.state = .masked) then
          { g with baseMass := g.mass, baseCount := (s.pumpMeter p).total }
        else g
      | none => g := by
  rw [startBase]
  rcases r.driver.pump? with _ | p
  · simp
  dsimp only
  by_cases he : estimated s r.tank = true
  · obtain ⟨g, hg, hs⟩ := (estimated_iff s r.tank).1 he
    rw [if_pos he, gaugeRec_changeGauge]
    by_cases hc : c = r.tank
    · subst hc; simp [hg, hs, takeBase]
    · simp [hc]
  · rw [if_neg he]
    by_cases hc : c = r.tank
    · subst hc
      rcases hg : s.gaugeRec r.tank with _ | g
      · rfl
      · have : ¬ (g.state = .lost ∨ g.state = .masked) := fun hs => he ((estimated_iff s r.tank).2 ⟨g, hg, hs⟩)
        simp [this]
    · simp [hc]

theorem openingStart_begins (owner : Owner) (step : Option Nat) (r : Start) (s : State) :
    BeginsOpening owner step r s (openingStart owner step r s) := by
  have hx : ∀ e, (openingStart owner step r s).transfer e = (s.setTransfer r.driver (r.record s owner step)).transfer e := by
    intro e
    simp only [openingStart, commandValve_transfer]
    exact State.transfer_congr (by simp) e
  have hv : ∀ ch, (startBase r (s.setTransfer r.driver (r.record s owner step))).valve ch = s.valve ch := by
    intro ch; simp [State.valve]
  refine ⟨⟨r.targetMass s, r.setpoint s.store.tables, ?_, ?_, ?_, ?_, ?_, ?_⟩, ?_, ?_, ?_, ?_, ?_, ?_, ?_, ?_, ?_, ?_, ?_, ?_, ?_,
    ?_, ?_, ?_, ?_⟩
  · rw [hx]; simp [Start.record]
  · intro h; simp [Start.targetMass, h]
  · intro x h; simp [Start.targetMass, h]
  · intro h; simp [Start.setpoint, h]
  · intro h hp; simp [Start.setpoint, h, hp]
  · intro h hp
    simp only [Start.setpoint, h, hp, limitSpeed]
    simp
    omega
  · intro e he; rw [hx]; simp [he]
  · intro c
    exact startBase_gaugeRec r (s.setTransfer r.driver (r.record s owner step)) c
  · intro ch hch
    simp only [openingStart]
    rw [commandValve_valve _ _ _ _ hch]
    by_cases hl : ch = r.driver.lineValve
    · subst hl
      rw [if_pos rfl, if_pos (Or.inr rfl), commandValve_valve _ _ _ _ hch]
      split
      · next h => simp [hv, feedback, ticks, h, Valve.command_command]
      · simp [hv, feedback, ticks]
    · rw [if_neg hl, commandValve_valve _ _ _ _ hch]
      by_cases ht : ch = s.store.tables.gaugeSlot r.tank
      · simp [ht, hv, feedback, ticks]
      · simp [ht, hl, hv]
  · have h : (openingStart owner step r s).gauge = (startBase r (s.setTransfer r.driver (r.record s owner step))).gauge := rfl
    obtain ⟨h1, h2, h3, h4, h5, h6, h7, h8, h9, h10⟩ := startBase_fields r (s.setTransfer r.driver (r.record s owner step))
    rw [h]
    rcases hg : (startBase r (s.setTransfer r.driver (r.record s owner step))).gauge
    simp_all
  · have h : (openingStart owner step r s).xfer =
        { (startBase r (s.setTransfer r.driver (r.record s owner step))).xfer with
          valves := (openingStart owner step r s).xfer.valves } := rfl
    have h' : (openingStart owner step r s).xfer.transfers = (s.setTransfer r.driver (r.record s owner step)).xfer.transfers := by
      rw [h]; simp
    rw [h', h, (startBase_frame _ _).2.2.2.2.1]
    rfl
  all_goals simp [openingStart]

/-- All that an accepted start does (R108, R110). -/
theorem acceptStart_starts (owner : Owner) (step : Option Nat) (r : Start) (s : State) :
    StartsTransfer owner step r s (acceptStart owner step r s) := by
  have h : acceptStart owner step r s = goOn r.driver (openingStart owner step r s) := rfl
  have hb := openingStart_begins owner step r s
  obtain ⟨⟨m, sp, hx, -⟩, -⟩ := hb
  refine ⟨_, openingStart_begins owner step r s, fun hv => ?_, fun hv => ?_⟩
  · rw [h]; exact goOn_goes (by rw [hx]) hv
  · rw [h]; exact goOn_not fun hn => hv hn.2

end Sys2Proof.Machine
end

