-- ==== Sys2Proof/Tests/Slice0.lean ====
section
/-! SUPPORT. Tests of the model against the worked examples of spec/, the well-formedness smoke, and the witnesses: for each
statement with hypotheses, states and operands that meet them. -/

namespace Sys2Proof.Tests

open Sys2Proof.Machine

set_option Elab.async false

/-! ## Helpers -/

def b1 (n : Nat) : List Byte := toBE n 1
def b2 (n : Nat) : List Byte := toBE n 2
def b3 (n : Nat) : List Byte := toBE n 3
def b4 (n : Nat) : List Byte := toBE n 4

/-- The next state of an outcome. -/
def nextOf (o : Host.Outcome State Fault Refusal) : Option State :=
  match o with
  | .next s => some s
  | _ => none

/-- The state after a command; the state before where there is none. -/
def after (c : Instr) (s : State) : State := (nextOf (exec c s)).getD s

/-- The reply that a link's transmitter holds: its code and its data. -/
def replyOf (l : Link) (s : State) : Option (ReplyCode × List Item) :=
  match (s.link l).tx with
  | some (.reply _ code _ data) => some (code, data)
  | _ => none

/-- The code of the reply to a command on the ship link. -/
def codeOf (c : Instr) (s : State) : Option ReplyCode := (replyOf .ship (after c s)).map Prod.fst

/-- The row of a ballast tank: gauge slot, gauge position, bottom, points, residual, travel time, line, pumps, ends. -/
def tankRow (slot gx bottom points residual travel line pumps aft fore : Nat) : List Byte :=
  b1 1 ++ b4 aft ++ b4 fore ++ b1 slot ++ b4 gx ++ b4 bottom ++ b1 points ++ b4 residual ++ b2 travel ++ b1 line ++ b1 pumps

/-- The hull: T0, a checkpoint, two hydrostatic rows with their buoyancy, and the light ship. -/
def hull : Tables :=
  let T := Tables.delivered.write .t0 0 ([24000, 4, 3, 50, 900, 50, 1025, 3500, 1500, 1000, 2, 1, 2].flatMap b4)
  let T := T.write .t1 0 (b1 4 ++ b4 0 ++ b4 24000 ++ b4 200000)
  let T := T.write .t2 0 (b4 12000 ++ b4 4000000 ++ b4 4000000 ++ b4 100000000 ++ b4 100000000)
  let T := T.write .t3 0 (b4 1 ++ b4 0 ++ b4 12000 ++ b4 12000 ++ b4 8000)
  let T := T.write .t3 1 (b4 1000000 ++ b4 20000 ++ b4 12000 ++ b4 12000 ++ b4 8000)
  T.write .t4 16 (b3 500000)

/-- The hull with two ballast tanks, 1 and 2 on channels 0 and 1, a hold 5, a fixed compartment 4, pumps P0 (variable speed,
minimum 40) and P1, and gravity line G0. -/
def tables : Tables :=
  let T := hull.write .t1 1 (tankRow 0 5000 1500 2 800 40 1 3 0 10000)
  let T := T.write .t1 2 (tankRow 1 15000 1500 2 800 40 0 3 10000 20000)
  let T := T.write .t1 3 (b1 2 ++ b4 12000 ++ b4 16000 ++ b1 5 ++ b4 21000 ++ b4 150000)
  let T := T.write .t1 4 (b1 3 ++ b4 1000 ++ b4 2000 ++ b4 500)
  let T := T.write .t5 21 (b2 10000 ++ b3 50000)
  let T := T.write .t5 41 (b2 10000 ++ b3 50000)
  let T := T.write .t6 0 (b1 1 ++ b1 60 ++ b4 1000 ++ b1 30 ++ b1 20 ++ b1 1 ++ b1 40 ++ b2 1000)
  let T := T.write .t6 1 (b1 1 ++ b1 60 ++ b4 1000 ++ b1 30 ++ b1 20 ++ b1 0 ++ b1 0 ++ b2 1000)
  T.write .t6 4 (b1 1 ++ b1 60)

/-- A gauge record GOOD with a volume, at 1,000 kg/m³. -/
def good (v : Nat) : GaugeRec := { GaugeRec.unread 1000 with volume := v, mass := v, refMass := v, state := .good, neverRead := false }

/-- The part with the tables in force, in IDLE. -/
def valid : State :=
  { State.reset with
    store := { State.reset.store with tables := tables, dataState := .valid }
    gauge := { State.reset.gauge with
      recs := ((Tab.replicate 48 none).set 1 (some (good 20000))).set 2 (some (good 30000)), swept := true } }

/-- Plan entries: pour 1 into hold 5, 20,000 planned; pour 2 into hold 6 at stage 2. -/
def planRows : List (List Byte) :=
  [b2 1 ++ b1 5 ++ b4 20000 ++ b4 40000 ++ b4 3000 ++ b4 500 ++ b1 0,
    b2 2 ++ b1 6 ++ b4 10000 ++ b4 30000 ++ b4 3000 ++ b4 500 ++ b1 2]

def plan : PlanBank := ((Tab.replicate 96 (rowOf 20 [])).set 0 (rowOf 20 (planRows.getD 0 []))).set 1 (rowOf 20 (planRows.getD 1 []))

/-- A program bank of a header and steps: one pass, interval 60 s. -/
def program (mode : Nat) (steps : List (List Byte)) : ProgramBank :=
  steps.zipIdx.foldl (fun b (r, i) => b.set (i + 1) (rowOf 11 r))
    ((Tab.replicate 65 (rowOf 11 [])).set 0 (rowOf 11 (b1 mode ++ b1 2 ++ b1 0 ++ b2 60 ++ b1 steps.length)))

def startRow (d tank dir target paced base : Nat) : List Byte :=
  b1 0 ++ b1 d ++ b1 tank ++ b1 dir ++ b4 target ++ b1 paced ++ b1 base ++ b1 1

/-- The part in LOADING with a plan and a parameter set, nothing moving. -/
def loading : State :=
  { valid with
    tracker := { valid.tracker with op := .loading, opbgStamp := some 0, state := .evaluating, active := plan, standby := plan }
    limits := { valid.limits with pourEnable := true, maxDraft := some 14000, boom := some 20000, minClear := some 1500 } }

/-- The current pour of plan entry 0. -/
def pour1 (started : Bool) (tally : Nat) : CurrentPour :=
  { origin := .plan 0, entry := planEntry plan 0, started := started, startStamp := 0, holdAtStart := 0, stageAtStart := 0
    tally := tally, revised := false, reasons := 0#13, holds := 0, union := 0#13 }

/-- The part in LOADING with the tracker in a state and a current pour. -/
def tracking (st : TrackerState) (cur : Option CurrentPour) : State :=
  { loading with tracker := { loading.tracker with state := st, cur := cur } }

/-- A computed condition with these stress figures. -/
def condWith (sf bm : Nat) : Condition :=
  { disp := 300000, lcg := 12000, draft := 6000, tRef := 6162, tAft := 6162, tFwd := 5219, trim := 943, rob := 50000, cargo := 0
    cps := [], maxSf := sf, maxSfAt := 4, maxBm := bm, maxBmAt := 7, quality := ⟨false, false, false, false, false, false⟩ }

def cond : Condition := condWith 500 400

/-- A part with a condition published and judged. -/
def judged (s : State) : State :=
  { s with
    engine := { s.engine with published := some ⟨1, 0, cond⟩, nextSeq := 2 }
    limits := { s.limits with judgedSeq := 1 } }

/-- A refresh in flight. -/
def refreshing (s : State) (c : Condition) : State :=
  { s with engine := { s.engine with job := some ⟨.refresh, ⟨[], []⟩, [c], 1⟩ } }

/-- A projection of pour 1 in flight. -/
def projecting (s : State) (void : Bool) : State :=
  { s with engine := { s.engine with job := some ⟨.projection ⟨1, 5, 20000, 0⟩ void, ⟨[], []⟩, [cond, cond], 1⟩ } }

/-- A transfer of a tank in a state, started with 30,000. -/
def moving (st : XferState) (owner : Owner) (tank : Nat) : Transfer :=
  { Transfer.cleared with
    state := st, owner := some owner, tank := tank, start := some ⟨0, 30000, 30000, true⟩, setpoint := some 100 }

def atEnd (e : ValveEnd) : Valve := { Valve.shut with commanded := e, state := e.standing }
def inTravel (e : ValveEnd) : Valve := { Valve.shut with commanded := e, state := if e = .opened then .opening else .closing, countdown := 400, drive := some e }
def stuck : Valve := { Valve.shut with state := .fault, cause := some .stuck }

/-- A part with the transfer of P0 on tank 2 in a state, its valves open and its pump in the phase. -/
def pumping (s : State) (st : XferState) (ph : Phase) : State :=
  let s1 := s.setTransfer .p0 (moving st .link 2)
  let s2 := (s1.setValve 1 (atEnd .opened)).setValve 32 (atEnd .opened)
  (s2.setPumpMeter .p0 { s2.pumpMeter .p0 with phase := ph, countdown := 200 }).setPumpOut .p0 ⟨true, 100⟩

/-- The Sequencer in a state with a program active. -/
def sequencing (s : State) (b : ProgramBank) (core : SeqCore) : State :=
  { s with seq := { s.seq with active := b, standby := b, core := core } }

/-- The console granted, with a program's state saved. -/
def granted (s : State) : State :=
  { s with
    console := { s.console with state := .granted, grantLine := true, grantStamp := some 0, snapshot := some (snapTanks s) }
    seq := { s.seq with core := SeqCore.fresh .yielded, saved := some (SeqCore.fresh .ready) }
    inputs := { s.inputs with consoleRequest := true } }

/-- A frame in the transmitter of a link. -/
def sending (l : Link) (f : Frame) (s : State) : State := s.setLink l { s.link l with tx := some f }

/-- A request held as current by a link. -/
def holding (l : Link) (s : State) : State := s.setLink l { s.link l with current := some (payloadOf .stat []) }

/-- A request held as waiting by a link. -/
def waiting (l : Link) (s : State) : State := s.setLink l { s.link l with waiting := some (payloadOf .stat []) }

/-- A pour record of pour 1. -/
def record1 : PourRec :=
  { place := 1, pour := 1, hold := 5, origin := .plan 0, planned := 20000, tally := 20000, revised := false, startStamp := 0
    endStamp := 9, holds := 0, union := 0#13, stage := 0, cond := none, lag := 0, correction := none }

/-- The part with a tank estimated, and with its head under the published condition at 999 and at 1,000 mm. -/
def estimating (s : State) : State := s.setGaugeRec 1 { good 20000 with state := .lost, faultCount := 3 }
def headAt (sounding : Nat) : State :=
  let s : State := { loading with engine := { loading.engine with published := some ⟨1, 0, { cond with tRef := 8200, trim := 0 }⟩ } }
  s.setGaugeRec 1 { good 20000 with corrected := sounding }

/-- The reset input held. -/
def inReset (s : State) : State := { s with inputs := { s.inputs with reset := true } }

/-- The no-flow countdown of P0 run out. -/
def runOut (s : State) : State := s.setPumpMeter .p0 { s.pumpMeter .p0 with countdown := 0 }

/-- Every transfer is IDLE where a list of the six says so. -/
theorem allIdle_of_list (s : State) (h : (drivers.all fun d => (s.transfer d).state == .idle) = true) : AllIdle s := by
  intro d
  have : d ∈ drivers := by cases d <;> decide
  simpa using List.all_eq_true.mp h d this

/-! ## Which commands are well formed -/

theorem test_arguments_of_236_bytes : (Instr.wput .ship (List.replicate 236 0#8)).wellFormed = true := by decide +kernel
theorem test_arguments_of_237_bytes_refused : (Instr.wput .ship (List.replicate 237 0#8)).wellFormed = false := by decide +kernel
theorem test_slot_31 : (Instr.sensorAnswer (.level 31 0)).wellFormed = true := by decide
theorem test_slot_32_refused : (Instr.sensorAnswer (.level 32 0)).wellFormed = false := by decide
theorem test_slot_32_of_a_fault_refused : (Instr.sensorAnswer (.fault 32)).wellFormed = false := by decide
theorem test_no_word_spells_a_command : decodeTableWord 8 0 = none := rfl

/-! ## Sums and rounding -/

/-- The check value of the CRC-16 of R195 (polynomial 0x1021, initial 0xFFFF). -/
theorem test_crc16 : crc16 (bytesOf [49, 50, 51, 52, 53, 54, 55, 56, 57]) = 0x29B1#16 := by decide +kernel
/-- The check value of the CRC-32 of R19. -/
theorem test_crc32 : crc32 (bytesOf [49, 50, 51, 52, 53, 54, 55, 56, 57]) = 0xCBF43926#32 := by decide +kernel
/-- R1: halves away from zero; the last is the setpoint example's −3.5. -/
theorem test_rounding : rdiv 5 2 = 3 ∧ rdiv 4 3 = 1 ∧ rdiv (-35) 10 = -4 := by decide

/-! ## Ship data (the examples of section 1) -/

theorem test_the_tables_pass_every_check : tables.firstFault = none := by decide +kernel

/-- Tables as delivered are all zeros, and fail the first check of all. -/
theorem test_delivered_tables_fail_check_1 : FirstFailure Tables.delivered ⟨.validation, some 0, some 0, 1⟩ :=
  firstFault_some_iff.1 (by decide +kernel)

/-- Check 26 of compartment 2 is reported before check 28 of compartment 1 (the example of R18). -/
theorem test_which_fault_is_reported :
    ((tables.write .t1 1 (tankRow 0 5000 1500 2 800 200 1 3 0 10000)).write .t1 2
        (tankRow 1 15000 1500 25 800 40 0 3 10000 20000)).firstFault = some ⟨.validation, some 1, some 2, 26⟩ ∧
      (tables.write .t1 1 (tankRow 0 5000 1500 2 800 200 1 3 0 10000)).firstFault =
        some ⟨.validation, some 1, some 1, 28⟩ := by decide +kernel

/-- Each table's checks report their table and row, the values just outside the bounds of R18: 33 slots; a residual mass above the
capacity of 51,250; a light ship of mass 0, which names no row; a checkpoint at the LBP; a displacement that does not rise; a
buoyancy of 4,000,001; a last point of no volume; and a fitted byte of 2. -/
theorem test_each_table_reports_its_check :
    let T0 (slots lbp : Nat) : List Byte := [lbp, slots, 3, 50, 900, 50, 1025, 3500, 1500, 1000, 2, 1, 2].flatMap b4
    [tables.write .t0 0 (T0 33 24000), tables.write .t1 1 (tankRow 0 5000 1500 2 51251 40 1 3 0 10000),
      tables.write .t1 0 (b1 4 ++ b4 0 ++ b4 24000), tables.write .t0 0 (T0 4 12000),
      tables.write .t3 0 (b4 1000000 ++ b4 0 ++ b4 12000 ++ b4 12000 ++ b4 8000), tables.write .t4 16 (b3 4000001),
      tables.write .t5 21 (b2 10000), tables.write .t6 5 (b1 2)].map Tables.firstFault =
    [(0, some 0, 2), (1, some 1, 83), (1, none, 38), (2, some 0, 40), (3, some 1, 51), (4, some 16, 60), (5, some 21, 69),
      (6, some 5, 70)].map fun (table, row, check) => some ⟨.validation, some table, row, check⟩ := by decide +kernel

/-- The bounds themselves pass: 32 slots, a residual mass of the capacity, a travel time of 180 s, a buoyancy of 4,000,000. -/
theorem test_the_bounds_of_the_checks_pass :
    (((tables.write .t0 0 ([24000, 32, 3, 50, 900, 50, 1025, 3500, 1500, 1000, 2, 1, 2].flatMap b4)).write .t1 1
      (tankRow 0 5000 1500 2 51250 180 1 3 0 10000)).write .t4 16 (b3 4000000)).firstFault = none := by decide +kernel

/-- The part with a window open on five rows of T1 from 10 on, at a position. -/
def windowed (pos : Nat) (d : DataState) : State :=
  { valid with store := { valid.store with window := some ⟨.t1, 10, 5, pos⟩, dataState := d } }

def rowsOf (n : Nat) : List Byte := List.replicate (27 * n) 7#8

theorem test_wsel : (after (.wsel .ship (b1 1 ++ b2 10 ++ b2 5)) valid).store.window = some ⟨.t1, 10, 5, 10⟩ := by
  decide +kernel
theorem test_wput_four_rows :
    let t := after (.wput .ship (rowsOf 4)) (windowed 10 .valid)
    t.store.window = some ⟨.t1, 10, 5, 14⟩ ∧ t.store.dataState = .uncommitted ∧ readRow t .t1 13 = rowsOf 1 := by
  decide +kernel
theorem test_wput_past_the_window :
    codeOf (.wput .ship (rowsOf 2)) (windowed 14 .uncommitted) = some .range ∧
      codeOf (.wput .ship (rowsOf 5)) (windowed 14 .uncommitted) = some .length := by decide +kernel
theorem test_wget_exhausted :
    codeOf (.wget .ship (b1 1)) (windowed 15 .uncommitted) = some .range ∧
      codeOf (.wget .ship (b1 4)) (windowed 10 .uncommitted) = some .done := by decide +kernel

/-- A write that takes a tank out of T1 stops its valve's travel and adopts the feedback (R96). -/
theorem test_wput_stops_an_unassigned_valve :
    let s : State := { valid with store := { valid.store with window := some ⟨.t1, 1, 1, 1⟩ } }
    let t := after (.wput .ship (List.replicate 27 0#8)) (s.setValve 0 (inTravel .closed))
    (t.valve 0).state = .closed ∧ (t.valve 0).drive = none := by decide +kernel

/-! ## Gauging (the examples of section 2) -/

/-- The blended density of the example. -/
theorem test_blend : blended 10000 15000 1000 1025 = 1008 ∧ rdivN (15000 * 1008) 1000 = 15120 := by decide

/-- Sweep ends 4 and 5 of "a gauge lost during a pumped discharge", with P0 on tank 2 and the hold count 3. -/
def lostAt (total : Nat) : State :=
  let s := pumping valid .running .flowWatch
  s.setPumpMeter .p0 { s.pumpMeter .p0 with total := total }

def held : GaugeRec :=
  { good 39024 with density := 1025, mass := 40000, refMass := 40000, state := .held, faultCount := 2 }

theorem test_gauge_enters_estimation :
    let g := updateGauge (lostAt 512000) 0 2 (.fault .noReply) held
    g.state = .lost ∧ g.faultCount = 3 ∧ g.baseMass = 40000 ∧ g.baseCount = 512000 ∧ g.mass = 40000 ∧ g.volume = 39024 := by
  decide +kernel
theorem test_gauge_estimates :
    let g := updateGauge (lostAt 520000) 0 2 (.fault .noReply)
      { held with state := .lost, faultCount := 3, baseMass := 40000, baseCount := 512000 }
    g.state = .lost ∧ g.mass = 39180 ∧ g.volume = 38224 := by decide +kernel

/-- TDEN in GOOD recomputes mass and reference mass (R33): 20,000 at 1,025 is 20,500. -/
theorem test_tden :
    ((after (.tden .ship (b1 1 ++ b2 1025)) valid).gaugeRec 1).map (fun g => (g.mass, g.refMass)) = some (20500, 20500) := by
  decide +kernel

/-! ## Metering (the examples of section 3) -/

/-- The rate window, with P0 in place of P1: 2,498 and then 2,509. -/
def binned : State :=
  let m : PumpMeter := valid.pumpMeter .p0
  valid.setPumpMeter .p0 { m with bins := ⟨[69, 70, 69, 70, 69, 69, 70, 69, 70, 69], rfl⟩ }

theorem test_rate_window :
    let t := after .secondBoundary binned
    let u := t.setPumpMeter .p0 { t.pumpMeter .p0 with bins := (t.pumpMeter .p0).bins.set 9 72 }
    t.meter.p0.rate = 2498 ∧ (after .secondBoundary u).meter.p0.rate = 2509 := by decide +kernel

theorem test_metered_volumes :
    meteredOf 52347 2500 = 13087 ∧ meteredOf 52361 2500 = 13090 ∧ meteredOf 6 2500 = 2 := by decide

/-- Sweep ends 2, 3 and 5 of "a gravity line's rate". -/
theorem test_gravity_rate :
    (GravityLine.mk 0 (some ⟨52000, 1000⟩)).measure 51995 1003 = ⟨600, some ⟨51995, 1003⟩⟩ ∧
      (GravityLine.mk 600 (some ⟨51995, 1003⟩)).measure 51994 1003 = ⟨600, some ⟨51995, 1003⟩⟩ ∧
      (GravityLine.mk 600 (some ⟨51995, 1003⟩)).measure 51990 1006 = ⟨600, some ⟨51990, 1006⟩⟩ := by decide

/-! ## Limits (the examples of section 5) -/

/-- "Clearance and a rising tide": hold 5 with its coaming at 21,000 and its centre at 14,000 under the judged condition. -/
theorem test_rising_tide :
    let t := after (.tide .ship (b4 3200)) { judged loading with limits := { (judged loading).limits with tide := 3000 } }
    t.limits.clearances.get 4 = some 1412 ∧ t.limits.flags.air.get 4 = true ∧
      (after (.tide .ship (b4 3100)) (judged loading)).limits.clearances.get 4 = some 1512 := by decide +kernel

/-- "The stress watch through a run of publishes". -/
theorem test_stress_watch :
    nextWatch .normal 850 900 50 = .normal ∧ nextWatch .normal 905 900 50 = .caution ∧
      nextWatch .caution 870 900 50 = .caution ∧ nextWatch .caution 1003 900 50 = .breach ∧
      nextWatch .breach 960 900 50 = .breach ∧ nextWatch .breach 940 900 50 = .caution ∧
      nextWatch .caution 820 900 50 = .normal ∧ nextWatch .breach 820 900 50 = .normal := by decide

/-- Publish 63: the entry into BREACH sets the latch and turns the line off. -/
theorem test_a_publish_breaches :
    let t := after .refreshComplete (refreshing loading (condWith 1003 500))
    t.limits.watch = .breach ∧ t.limits.latch = true ∧ t.limits.pourEnable = false ∧
      t.links.notices.get 1 = some (.stop .breach 1) := by decide +kernel

/-- "A latch with two causes", its second row: the part with the latch set once, the pour HELD. -/
def latchedOnce : State :=
  let s := tracking .held (some (pour1 true 100))
  { s with limits := { s.limits with latch := true, causes := ⟨false, true, false⟩, settings := 3, pourEnable := false } }

theorem test_latch_with_two_causes :
    let t := after (.ltal .shore (b2 1 ++ b4 200)) latchedOnce
    t.limits.causes = ⟨false, true, true⟩ ∧ t.limits.settings = 4 ∧
      replyOf .ship (after (.stpr .ship []) t) = some (.done, [.flag false, .flag true, .flag true]) ∧
      (after (.stpr .ship []) t).limits.pourEnable = true := by decide +kernel

/-! ## Transfers (the examples of section 6) -/

/-- A gravity transfer on G0 and tank 1 in OPENING, both valves in travel. -/
def openingG0 : State :=
  ((loading.setTransfer .g0 (moving .opening .link 1)).setValve 0 (inTravel .opened)).setValve 36 (inTravel .opened)

/-- "A tank valve that sticks", the second and third rows. -/
theorem test_a_valve_sticks :
    let t := after (.valveTravelExpiry 0) { openingG0 with inputs := { openingG0.inputs with closedLimit := Tab.replicate 38 false } }
    (t.valve 0).cause = some .stuck ∧ (t.valve 36).state = .closing ∧ (t.valve 36).countdown = 600 ∧
      (t.transfer .g0).state = .closing ∧ (t.transfer .g0).reason = some .valveFault := by decide +kernel
theorem test_the_line_valve_closes :
    let s := ((loading.setTransfer .g0 { moving .closing .link 1 with reason := some .valveFault }).setValve 0 stuck).setValve 36
      (inTravel .closed)
    let t := after (.limitInputChange 36 false true) s
    (t.valve 36).state = .closed ∧ (t.transfer .g0).state = .idle ∧
      (t.transfer .g0).finish.map (·.notClosed) = some true := by decide +kernel
/-- Its last two rows: VCLR is refused with VALVE while the feedback is NEITHER, and adopts CLOSED when it shows it. -/
theorem test_vclr :
    let s := loading.setValve 0 stuck
    codeOf (.vclr .ship (b1 1)) { s with inputs := { s.inputs with closedLimit := Tab.replicate 38 false } } = some .valve ∧
      codeOf (.vclr .ship (b1 1)) s = some .done ∧ ((after (.vclr .ship (b1 1)) s).valve 0).state = .closed := by decide +kernel

def xsta (d tank dir target paced base : Nat) : Instr :=
  .xsta .ship (b1 d ++ b1 tank ++ b1 dir ++ b4 target ++ b1 paced ++ b1 base)

/-- "Start requests", with P0 for P1 and P1 for P2: codes, causes and the setpoint raised to 40. -/
theorem test_start_requests :
    replyOf .ship (after (xsta 3 2 0 30000 0 0) loading) = some (.range, [.startCause .notEligible]) ∧
      replyOf .ship (after (xsta 1 2 0 4294967295 1 80) loading) = some (.range, [.startCause .paceFixed]) ∧
      replyOf .ship (after (xsta 0 2 1 4294967295 0 0) loading) = some (.range, [.startCause .badArgument]) ∧
      replyOf .ship (after (xsta 0 2 0 20000 1 30) loading) = some (.done, [.num 20000, .num 40, .xferState .opening]) := by
  decide +kernel
theorem test_tank_busy :
    replyOf .ship (after (xsta 1 2 0 4294967295 0 0) (pumping loading .opening .off)) = some (.busy, [.startCause .tankBusy]) := by
  decide +kernel

/-- The setpoint example. -/
theorem test_setpoints :
    pacedSetpoint 40 80 20 1500 = 100 ∧ pacedSetpoint 40 80 20 350 = 87 ∧ pacedSetpoint 40 80 20 0 = 80 ∧
      pacedSetpoint 40 80 20 (-2250) = 40 ∧ pacedSetpoint 40 70 20 (-175) = 66 := by decide

/-- The first pulse makes a transfer in PRIMING RUNNING and loads the no-flow time of 20 s (R42). -/
theorem test_first_pulse :
    let t := after (.meterPulse .p0) (pumping loading .priming .priming)
    (t.transfer .p0).state = .running ∧ (t.transfer .p0).pulses = 1 ∧ t.meter.p0.countdown = 200 := by decide +kernel
/-- A discharge whose tank is above the residual mass ends NO_FLOW at the expiry (R49), and its pump stops. -/
theorem test_no_flow :
    let t := after (.noFlowExpiry .p0) (runOut (pumping loading .running .flowWatch))
    (t.transfer .p0).reason = some .noFlow ∧ t.xfer.out0 = ⟨false, 0⟩ := by decide +kernel

/-- A pulse taken first reloads the countdown, and the expiry does not happen (R50). -/
theorem test_a_pulse_before_the_expiry :
    let t := after (.noFlowExpiry .p0) (after (.meterPulse .p0) (runOut (pumping loading .running .flowWatch)))
    (t.transfer .p0).state = .running ∧ t.meter.p0.countdown = 200 := by decide +kernel

/-! ## The program, the plan and the console -/

/-- A START of P0 whose driver is held waits DRIVER, as in "exchanging while suspended". -/
theorem test_sqgo_waits_for_the_driver :
    replyOf .ship (after (.sqgo .ship [])
        (sequencing (pumping loading .running .flowWatch) (program 0 [startRow 0 2 0 20000 0 0]) (SeqCore.fresh .ready))) =
      some (.done, [.seqState .running, .num 0, .waitReason .driver]) := by decide +kernel
/-- A DWELL of 0 s fails the program checks, which name its step; row 4 of the bank holds step 3 (the same example). -/
theorem test_sqxc_names_the_step :
    replyOf .ship (after (.sqxc .ship [])
        (sequencing loading (program 0 [b1 6, b1 6, b1 6, b1 4 ++ b2 0]) (SeqCore.fresh .ready))) =
      some (.range, [.num 3]) := by decide +kernel

/-- The worked lag of R155: 285,500 against an expected 284,000. -/
theorem test_expected_rob :
    let p : CurrentPour := { pour1 true 40000 with entry := { planEntry plan 0 with planned := 100000, rob := 260000 } }
    expectedRob 300000 p 40000 = 284000 ∧ expectedRob 300000 p 100800 = 260000 ∧
      lagDuring { loading.tracker with prevRob := some 300000, cur := some p } 285500 40000 = 1500 := by decide +kernel

/-- The meter of a pump that is fitted by its factor; of one that is not, none for a count of 0 and a free value for any other. -/
theorem test_a_pump_not_fitted_meters_a_free_volume :
    pumpVolume tables .p0 52347 = 5235 ∧ pumpVolume tables .p2 0 = 0 ∧ pumpVolume tables .p2 5 = Config.unfittedVolume .p2 5 :=
  ⟨by decide +kernel, by decide +kernel, rfl⟩

/-- A BM at the ends of its signed field (Condition record), and one above them. -/
theorem test_the_bm_field :
    signedField4 Config.momentBeyond 2147483647 = [0x7F#8, 0xFF#8, 0xFF#8, 0xFF#8] ∧
      signedField4 Config.momentBeyond (-2147483648) = [0x80#8, 0#8, 0#8, 0#8] ∧
      signedField4 Config.momentBeyond 2147483648 = toBE (Config.momentBeyond 2147483648).toNat 4 :=
  ⟨by decide, by decide, rfl⟩

/-- The gravity head of R107: 1,500 + 9,000 − 8,200 = 2,300, where the trim is 0. -/
theorem test_gravity_head :
    let g : GaugeRec := { good 20000 with corrected := 9000 }
    gravityHead (loading.setGaugeRec 1 g) 1 ⟨1, 0, { cond with tRef := 8200, trim := 0 }⟩ = 2300 := by decide +kernel

theorem test_lpst_starts_the_permitted_pour :
    let t := after (.lpst .shore (b2 1 ++ b1 5)) (tracking .permitted (some (pour1 false 0)))
    t.tracker.state = .pouring ∧ t.tracker.cur.map (·.started) = some true := by decide +kernel
theorem test_opnd_is_refused_while_a_pour_is_permitted :
    codeOf (.opnd .ship []) (tracking .permitted (some (pour1 false 0))) = some .busy ∧
      codeOf (.opnd .ship []) loading = some .done := by decide +kernel

theorem test_the_console_is_granted :
    let t := after .consoleRequestRise (pumping loading .running .flowWatch)
    t.console.grantLine = true ∧ (t.transfer .p0).state = .handedOver ∧ t.console.handed.get .p0 = some 2 ∧
      t.seq.core.state = .yielded := by decide +kernel
theorem test_the_console_drops :
    let t := after .consoleRequestDrop (granted loading)
    t.console.state = .auto ∧ t.console.grantLine = false ∧ t.seq.core.state = .ready := by decide +kernel

/-- A return recorded while YIELDED is not judged at a later return on the same driver: the Sequencer stays SUSPENDED with
reason HOST (R144). -/
theorem test_a_return_heard_while_yielded :
    let s := sequencing (pumping loading .closing .off) (program 0 [startRow 0 2 0 20000 0 0])
      { SeqCore.fresh .suspended with suspend := .host, progress := some ⟨.p0, true, some .noFlow, true⟩ }
    let t := settle s (s.setTransfer .p0 { s.transfer .p0 with state := .idle })
    t.seq.core.suspend = .host ∧ t.links.notices.get 6 = none := by decide +kernel

/-- The detail of a target reached under the console holds the marker (R173). -/
theorem test_target_under_console :
    (Detail.targetReached .p0 2 (some .link) 800).items.getLast? = some .targetReached := by decide

/-- SEQQ gives the saved state right after the state (R145). -/
theorem test_seqq_order :
    (sequencerItems (granted loading)).take 2 = [.seqState .yielded, .seqState .ready] := by decide +kernel

/-- A refresh begins at once where no enabled tank is UNREAD (R57), and no condition is published before the first sweep end
(R40). -/
theorem test_no_publish_before_the_first_sweep_end :
    let s : State := { refreshing loading cond with gauge := { loading.gauge with swept := false } }
    (setRefreshMark { s with engine := { s.engine with job := none } }).engine.job.isSome = true ∧
      (after .refreshComplete s).engine.published = none ∧ (after .refreshComplete s).engine.job = s.engine.job ∧
      (after .refreshComplete (refreshing loading cond)).engine.published.isSome = true := by decide +kernel

/-- A commit under a current mask that enables no tank begins a sweep whose mask enables both: the refresh is declined until they
are read (R19). -/
theorem test_no_refresh_before_the_enabled_tanks_are_read :
    let s : State := { valid with gauge := { valid.gauge with currentMask := 0#32 } }
    let t := setRefreshMark (beginSweep (s.setGaugeRec 1 (GaugeRec.unread 1000)))
    t.gauge.currentMask = valid.gauge.nextMask ∧ t.engine.job = none ∧ t.engine.refreshMark = false ∧
      (after .refreshComplete (refreshing (loading.setGaugeRec 1 (GaugeRec.unread 1000)) cond)).engine.published = none := by
  decide +kernel

/-- The judgements of a kept result follow the figures of both cases (R74). -/
theorem test_proj_order :
    let fig : CaseResult := ⟨1, 2, 3, 4, 5, 6, none, cond.quality, ⟨true, false, false, false⟩⟩
    (resultItems (some ⟨⟨1, 5, 9, 0⟩, 1, 0, fig, { fig with maxSf := 7 }, ⟨true, false, false, false⟩⟩))[19]? = some (.num 7) := by
  decide +kernel

/-- While the reset is held a request is discarded; at its release the part is CHECKING at the rate of the straps (R207). -/
theorem test_a_held_reset :
    let t := after (.hardwareReset true ⟨true, true⟩) loading
    (after (.stat .ship []) t).links.ship.tx = none ∧ t.xfer.out0 = ⟨false, 0⟩ ∧ t.limits.pourEnable = false ∧
      (after (.hardwareReset false ⟨true, true⟩) t).links.rate = .baud115200 := by decide +kernel

/-! ## Links (the example of section 11) -/

/-- The third request is lost, and the reply to the second shows it. -/
theorem test_overrun :
    let t := after (.lims .ship []) (after (.tank .ship (b1 1)) (after (.cond .ship []) valid))
    let u := after (.transmitFrameEnd .ship) t
    t.links.ship.overrun = true ∧ u.links.ship.overrun = false ∧ u.links.ship.current = some (payloadOf .tank (b1 1)) ∧
      (match u.links.ship.tx with | some (.reply m _ st _) => some (m, st.getLsbD 1) | _ => none) =
        some (Mnem.tank.letters, true) := by decide +kernel

/-! ## Witnesses: states and operands that meet the hypotheses of the statements -/

theorem witness_StepTakesTheFrontCommand :
    ({ valid with pending := [.ackExpiry, .secondBoundary] } : State).pending = .ackExpiry :: [.secondBoundary] := rfl

/-- The command is the first of the order that has fallen due. -/
def FirstDue (s : State) (c : Instr) : Prop :=
  ∃ before after, dueOrder = before ++ c :: after ∧ FallsDue s c ∧ ∀ b ∈ before, ¬ FallsDue s b

/-- Each thing that falls due, at the value at which it does, and none at the value before; the first of two; a notice that may be
sent, and one that may not. -/
theorem witness_EachThingFallsDue :
    let gap (l : Link) (n : Nat) (s : State) : State := s.setReceiver l (.inFrame [] n)
    let poll (n : Nat) : State := { valid with gauge := { valid.gauge with poll := some n } }
    let pause (n : Nat) : State := { valid with gauge := { valid.gauge with countdown := some n } }
    let travel (ch n : Nat) : State := valid.setValve ch { atEnd .closed with state := .opening, countdown := n }
    let pump (f : Phase) (p : Pump) (n : Nat) : State := valid.setPumpMeter p { valid.pumpMeter p with phase := f, countdown := n }
    let waits (w : WaitReason) (n : Nat) : State := sequencing loading (program 0 [b1 6])
      { SeqCore.fresh .running with wait := w, interval := n, dwell := n }
    let acks (n : Nat) : State :=
      let s := tracking .holdRequested (some (pour1 true 0))
      { s with tracker := { s.tracker with ack := some n } }
    let raised : State := { valid with links := { valid.links with notices := valid.links.notices.set 9 (some (.condition 1)) } }
    let queued : State := { valid with links := { valid.links with queue := [.pres 1 5] } }
    (FirstDue (gap .ship 51 valid) (.byteGapExpiry .ship) ∧ FirstDue (gap .shore 51 valid) (.byteGapExpiry .shore) ∧
        FirstDue (gap .shore 51 (gap .ship 51 (poll 0))) (.byteGapExpiry .ship) ∧ FirstDue (poll 0) .replyWindowExpiry ∧
        FirstDue (pause 0) .sweepCountdownExpiry ∧ FirstDue (travel 0 0) (.valveTravelExpiry 0) ∧
        FirstDue (travel 37 0) (.valveTravelExpiry 37) ∧ FirstDue (pump .priming .p3 0) (.primingExpiry .p3) ∧
        FirstDue (pump .flowWatch .p0 0) (.noFlowExpiry .p0) ∧ FirstDue (waits .interval 0) .intervalExpiry ∧
        FirstDue (waits .dwell 0) .dwellExpiry ∧ FirstDue (acks 0) .ackExpiry ∧ FirstDue raised .shipNoticeSend ∧
        FirstDue queued .shoreNoticeSend) ∧
      ((∀ c ∈ dueOrder, ¬ FallsDue (gap .ship 50 valid) c) ∧ (∀ c ∈ dueOrder, ¬ FallsDue (poll 1) c) ∧
        (∀ c ∈ dueOrder, ¬ FallsDue (pause 1) c) ∧ (∀ c ∈ dueOrder, ¬ FallsDue (travel 37 1) c) ∧
        (∀ c ∈ dueOrder, ¬ FallsDue (pump .priming .p3 1) c) ∧ (∀ c ∈ dueOrder, ¬ FallsDue (waits .dwell 1) c) ∧
        (∀ c ∈ dueOrder, ¬ FallsDue (acks 1) c) ∧ ∀ c ∈ dueOrder, ¬ FallsDue (holding .ship raised) c) := by
  simp only [FirstDue, ← due_some_iff, ← due_none_iff]
  decide +kernel

/-- A millisecond that is no tick, the tick, and the second boundary; an empty queue; and the reset input held. -/
theorem witness_AnEmptyQueueLetsTimePass :
    let at' (n : Nat) : State := { valid with time := { valid.time with ms := n } }
    let inFrame := valid.setReceiver .shore (.inFrame [0#8] 49)
    valid.pending = [] ∧
      (inReset valid).inputs.reset = true ∧ valid.inputs.reset = false ∧
      ((at' 0).time.ms + 1) % 100 ≠ 0 ∧ ((at' 99).time.ms + 1) % 100 = 0 ∧ ((at' 999).time.ms + 1) % 1000 = 0 ∧
      (inFrame.inputs.reset = false ∧ (inFrame.link .shore).rx = .inFrame [0#8] 49) := by
  decide +kernel

/-- An oversized payload; an occupied slot; the three ways to wait; CHECKING; a foreign and an own request; the reset held. -/
theorem witness_ARequestIsTakenWaitsOrIsLost :
    maxArgs < (List.replicate 237 (0#8 : Byte)).length ∧ (List.replicate 236 (0#8 : Byte)).length ≤ maxArgs ∧
      (inReset valid).inputs.reset = true ∧ valid.inputs.reset = false ∧
      ((waiting .ship valid).link .ship).waiting.isSome ∧
      ((holding .ship valid).link .ship).waiting = none ∧ ((holding .ship valid).link .ship).current.isSome ∧
      ((sending .ship (.notice (.condition 1)) valid).link .ship).tx.isSome ∧
      ({ valid with store := { valid.store with committing := true } } : State).store.committing = true ∧
      ((State.reset.link .ship).waiting = none ∧ (State.reset.link .ship).current = none ∧
        (State.reset.link .ship).tx = none ∧ State.reset.store.committing = false ∧
        State.reset.store.dataState = .checking) ∧
      Ready .ship valid ∧ Mnem.lpst.ofLink .ship = false ∧ Mnem.stat.ofLink .ship = true := by decide +kernel

theorem witness_ARequestFrameIsItsCommand :
    (valid.link .ship).rx = .hunting ∧ (List.replicate 236 (0#8 : Byte)).length ≤ 236 ∧
      ([0#8, 1#8, 2#8] : List Byte).length < 4 ∧ Ready .ship valid := by decide +kernel

/-- Gaps of 50 and 51 ms, lengths of 240 and 241, a byte short of a frame, a whole frame with a wrong CRC; a frame of each kind
ending, and a waiting request that is then taken; a FREE transmitter; the reset held. -/
theorem witness_ReceivedBytesAndSentFramesMoveTheLinks :
    let inFrame (got : List Byte) (gap : Nat) : State := valid.setReceiver .ship (.inFrame got gap)
    let notice : Frame := .notice (.condition 1)
    let busy := sending .ship notice (holding .ship valid)
    let next := sending .ship (.reply Mnem.stat.letters .done 0#8 []) (waiting .ship (holding .ship valid))
    let bad : List Byte := [0#8, 1#8, 0#8, 0#8]
    ((valid.link .ship).rx = .hunting ∧ (inReset valid).inputs.reset = true ∧ valid.inputs.reset = false) ∧
      (((inFrame [] 51).link .ship).rx = .inFrame [] 51 ∧ 50 < 51 ∧ ((inFrame [0#8, 1#8, 0#8] 50).link .ship).rx =
        .inFrame [0#8, 1#8, 0#8] 50) ∧
      (240 < fieldU [241#8] 0 1 ∧ fieldU [240#8] 0 1 ≤ 240 ∧ ([240#8] : List Byte).length ≠ fieldU [240#8] 0 1 + 4) ∧
      (bad.length = fieldU bad 0 1 + 4 ∧ fieldU bad (fieldU bad 0 1 + 2) 2 ≠ (crc16 (bad.take (fieldU bad 0 1 + 2))).toNat) ∧
      ((valid.link .ship).tx = none ∧ ((sending .ship notice valid).link .ship).tx = some notice ∧
        ((sending .ship notice valid).link .ship).waiting = none) ∧
      ((busy.link .ship).tx = some notice ∧ notice.isReply = false ∧ (busy.link .ship).current.isSome) ∧
      ((next.link .ship).tx.map Frame.isReply = some true ∧ (next.link .ship).waiting.isSome ∧
        next.store.committing = false) := by decide +kernel

/-- The kinds of highest and lowest priority; the shore queue; a link that may send and one that may not. -/
theorem witness_NoticesAreSentInTheirOrder :
    let raised (i : Nat) (d : Detail) : State := { valid with links := { valid.links with notices := valid.links.notices.set i (some d) } }
    let queued : State := { valid with links := { valid.links with queue := [.pres 1 5] } }
    (raised 0 (.breach 1 1000 .sf 0)).links.notices.get 0 = some (.breach 1 1000 .sf 0) ∧
      (raised 9 (.condition 1)).links.notices.get 9 = some (.condition 1) ∧
      (∀ j < 9, (raised 9 (.condition 1)).links.notices.get j = none) ∧ MaySend .ship (raised 9 (.condition 1)) ∧
      queued.links.queue = .pres 1 5 :: [] ∧ MaySend .shore queued ∧
      ¬ MaySend .ship (holding .ship valid) ∧ ¬ MaySend .ship (waiting .ship valid) ∧
      ¬ MaySend .shore (sending .shore (.notice (.condition 1)) valid) ∧
      ¬ MaySend .shore { valid with store := { valid.store with committing := true } } ∧ (∀ i < 10, valid.links.notices.get i = none) ∧
      valid.links.queue = [] := by decide +kernel

theorem witness_ClksSetsThePortClock : Ready .ship valid ∧ 4294967295 < 4294967296 := by decide +kernel
theorem witness_NtenStoresTheEnables :
    Ready .ship valid ∧ Ready .shore valid ∧ ¬ ([0#8, 0#8] : List Byte).length ≤ 1 := by decide +kernel
theorem witness_SmskStoresTheNextMask :
    Ready .ship valid ∧ valid.store.dataState = .valid ∧ ¬ (([0#8] : List Byte) = [] ∨ ([0#8] : List Byte).length = 4) ∧
      (windowed 10 .uncommitted).store.dataState ≠ .valid := by decide +kernel

/-- A part at rest, one with a transfer RUNNING, one whose console is REQUESTED and one that is YIELDED; data not in force. -/
theorem witness_RstrRestartsThePart :
    let b := pumping loading .running .flowWatch
    let asked : State := { b with console := { b.console with state := .requested } }
    (Ready .ship valid ∧ AllIdle valid ∧ valid.store.dataState = .valid) ∧
      (Ready .ship b ∧ b.console.state = .auto ∧ (b.transfer .p0).state.active = true ∧ (b.transfer .g1).state.active = false) ∧
      (Ready .ship asked ∧ asked.console.state = .requested) ∧
      (Ready .ship (granted loading) ∧ (granted loading).seq.core.state = .yielded) ∧
      (Ready .ship (windowed 10 .uncommitted) ∧ (windowed 10 .uncommitted).store.dataState ≠ .valid) := by
  refine ⟨⟨by decide +kernel, allIdle_of_list _ (by decide +kernel), rfl⟩, ?_⟩
  decide +kernel

theorem witness_ASecondBoundaryClosesTheBins :
    (inReset valid).inputs.reset = true ∧ valid.inputs.reset = false ∧ valid.store.tables.fitted .p0 = true ∧
      valid.store.tables.fitted .p3 = false := by decide +kernel

theorem witness_StatGivesTheWholePart : Ready .shore valid ∧ ([0#8] : List Byte) ≠ [] ∧ ([0#8] : List Byte).length ≤ maxArgs := by
  decide +kernel

theorem witness_HardwareResetGivesEveryBlockItsValues :
    valid.inputs.consoleRequest = false ∧ (granted valid).inputs.consoleRequest = true ∧
      valid.store.tables.isBallast 1 = true ∧ valid.store.tables.isBallast 47 = false ∧ (inReset valid).inputs.reset = true ∧
      (inReset valid).console.state = .auto := by decide +kernel

/-- Tables whose checksum differs, delivered tables that fail check 1, and tables that pass; data not in CHECKING, and the reset
held. -/
theorem witness_VerificationEndsValidOrInvalid :
    let checking (T : Tables) (sum : BitVec 32) : State :=
      { State.reset with store := { State.reset.store with tables := T, checksum := sum } }
    let a := checking tables (tables.checksum + 1#32)
    let b := checking Tables.delivered Tables.delivered.checksum
    let c := checking tables tables.checksum
    (valid.store.dataState ≠ .checking ∧ (inReset c).inputs.reset = true) ∧
      (a.inputs.reset = false ∧ a.store.dataState = .checking ∧ a.store.tables.checksum ≠ a.store.checksum) ∧
      (b.store.tables.checksum = b.store.checksum ∧ FirstFailure b.store.tables ⟨.validation, some 0, some 0, 1⟩) ∧
      c.store.dataState = .checking ∧ c.store.tables.checksum = c.store.checksum ∧ ChecksPass c.store.tables := by
  refine ⟨⟨by decide, rfl⟩, ⟨rfl, rfl, ?_⟩, ⟨rfl, test_delivered_tables_fail_check_1⟩, rfl, rfl,
    firstFault_none_iff.1 test_the_tables_pass_every_check⟩
  show tables.checksum ≠ tables.checksum + 1#32
  generalize tables.checksum = x
  intro h
  bv_omega

/-- The last row of the last table, a span one row too long, an empty span, and T7. -/
theorem witness_WselOpensTheWindow :
    Ready .ship valid ∧ TableId.ofCode 9 = some .t9 ∧ 95 + 1 ≤ TableId.t9.rows ∧ TableId.t9.rows < 96 + 1 ∧
      TableId.ofCode 7 = none := by decide +kernel

/-- No window; each refused form; an accepted WPUT at the end of its window, to T1 of data in force and not, to T9 and to T8. -/
theorem witness_WputWritesItsRows :
    let win (t : TableId) (f c p : Nat) (s : State) : State := { s with store := { s.store with window := some ⟨t, f, c, p⟩ } }
    let open1 : State := { windowed 14 .uncommitted with pending := [] }
    let force := windowed 14 .valid
    Ready .ship valid ∧ valid.store.window = none ∧ (rowsOf 1).length % TableId.t1.rowSize = 0 ∧
      (rowsOf 4).length / TableId.t1.rowSize = 4 ∧ 4 ≤ TableId.t1.perRequest ∧
      (rowsOf 1).length ≤ maxArgs ∧ Ready .ship open1 ∧ open1.store.window = some ⟨.t1, 10, 5, 14⟩ ∧ 10 + 5 ≤ TableId.t1.rows ∧
      14 + 1 ≤ 10 + 5 ∧ 10 + 5 < 14 + 2 ∧
      (open1.tracker.op ≠ .loading ∧ AllIdle open1 ∧ open1.console.state = .auto ∧ open1.store.dataState ≠ .valid) ∧
      (Ready .ship force ∧ force.tracker.op ≠ .loading ∧ AllIdle force ∧ force.console.state = .auto ∧
        force.store.dataState = .valid ∧ TableId.t1.shipData = true) ∧
      (win .t1 10 5 10 loading).tracker.op = .loading ∧
      (∃ d : Driver, ((pumping valid .running .flowWatch).transfer d).state ≠ .idle) ∧ (granted valid).console.state ≠ .auto ∧
      TableId.t9.shipData = false ∧ (win .t9 0 96 95 loading).tracker.exchange = false ∧
      (List.replicate 20 (0#8 : Byte)).length / TableId.t9.rowSize = 1 ∧ 95 + 1 ≤ TableId.t9.rows := by
  refine ⟨by decide +kernel, rfl, by decide, by decide, by decide, by decide, by decide +kernel, rfl, by decide, by decide,
    by decide, ⟨by decide, allIdle_of_list _ (by decide +kernel), by decide +kernel, by decide⟩,
    ⟨by decide +kernel, by decide, allIdle_of_list _ (by decide +kernel), by decide +kernel, rfl, rfl⟩, rfl, ⟨.p0, by decide⟩,
    by decide, rfl, rfl, by decide, by decide⟩

theorem witness_WgetReadsRowsAndAdvances :
    Ready .ship (windowed 14 .uncommitted) ∧ valid.store.window = none ∧
      (windowed 14 .uncommitted).store.window = some ⟨.t1, 10, 5, 14⟩ ∧ 14 + 1 ≤ 10 + 5 ∧ 10 + 5 < 14 + 2 ∧
      4 ≤ TableId.t1.perRequest ∧ TableId.t1.perRequest < 5 := by decide +kernel

/-- A commit that fails check 1, of data that is INVALID and of data that is VALID; none running; a shore request that waits, on
a link that is free and on one that is not. -/
theorem witness_SdcmStartsACommitThatMayFail :
    let bad (d : DataState) : State :=
      { State.reset with store := { State.reset.store with dataState := d, committing := true } }
    (Ready .ship loading ∧ loading.tracker.op = .loading) ∧ (Ready .ship valid ∧ valid.tracker.op ≠ .loading) ∧
      valid.store.committing = false ∧ (bad .invalid).store.committing = true ∧
      FirstFailure (bad .invalid).store.tables ⟨.validation, some 0, some 0, 1⟩ ∧
      (bad .invalid).store.dataState ≠ .valid ∧ (bad .valid).store.dataState = .valid ∧
      (((waiting .shore valid).link .shore).waiting = some (payloadOf .stat []) ∧
        ((waiting .shore valid).link .shore).current = none ∧ ((waiting .shore valid).link .shore).tx = none ∧
        (waiting .shore valid).store.committing = false) ∧
      ((waiting .shore (holding .shore valid)).link .shore).current.isSome := by
  refine ⟨by decide +kernel, by decide +kernel, rfl, rfl, test_delivered_tables_fail_check_1, ?_⟩
  decide +kernel

theorem witness_ACommitThatPassesPutsTheTablesInForce :
    let s : State := { valid with store := { valid.store with committing := true } }
    let u : State := { s with store := { s.store with dataState := .uncommitted } }
    s.store.committing = true ∧ ChecksPass s.store.tables ∧ s.store.dataState = .valid ∧
      u.store.committing = true ∧ ChecksPass u.store.tables ∧ u.store.dataState ≠ .valid :=
  have h : ChecksPass tables := firstFault_none_iff.1 test_the_tables_pass_every_check
  ⟨rfl, h, rfl, rfl, h, by decide⟩

/-- The ends of the density range and the values just outside; a tank, a hold; data not in force. -/
theorem witness_TdenSetsADensity :
    Ready .ship valid ∧ valid.store.tables.isBallast 1 = true ∧ valid.store.tables.isBallast 3 = false ∧
      valid.gaugeRec 1 = some (good 20000) ∧ 990 ≤ 1050 ∧ 989 < 990 ∧ 1050 < 1051 ∧ 1051 < 65536 ∧
      Ready .ship (windowed 14 .uncommitted) ∧ (windowed 14 .uncommitted).store.dataState ≠ .valid := by decide +kernel

/-- A sweep that polls slot `n`, with slots 0 and 1 of the tables enabled. -/
def sweeping (n : Nat) : State := { valid with gauge := { valid.gauge with sweeping := true, slot := n, poll := some 50 } }

theorem witness_ReadingsMoveTheSweepToItsEnd :
    ((sweeping 0).gauge.poll.isSome ∧ (sweeping 0).gauge.slot < 1 ∧ 1 < (sweeping 0).store.tables.slots ∧
        polled (sweeping 0) 1 = true ∧ ∀ m < 1, ¬ (sweeping 0).gauge.slot < m) ∧
      ((sweeping 1).gauge.poll.isSome ∧
        (∀ m < (sweeping 1).store.tables.slots, (sweeping 1).gauge.slot < m → polled (sweeping 1) m = false) ∧
        40000 ≤ 40000 ∧ 40001 > 40000 ∧ 0 ≠ (sweeping 1).gauge.slot) ∧
      ({ valid.gauge with countdown := some 1 } : Gauging).countdown.isSome ∧ valid.gauge.countdown = none ∧
      valid.gauge.poll = none := by decide +kernel

/-- Gauges in every state, a hold count of 3 reached, and a tank with a pumped transfer. -/
theorem witness_AGaugeRecordFollowsItsReading :
    let T := tables.write .t5 20 (b2 100 ++ b3 10)
    (T.points 1 - 1 = 1 ∧ 99 < T.sounding 1 0 ∧ T.sounding 1 0 ≤ 100 ∧ 10000 ≤ T.sounding 1 1 ∧ T.sounding 1 1 < 10001 ∧
        ∀ k < 1, T.sounding 1 k < T.sounding 1 (k + 1)) ∧
      pumpedOn (lostAt 0) 2 = some (.p0, .p0) ∧ pumpedOn valid 2 = none ∧ held.state = .held ∧
      held.source = .gauge ∧ ({ held with state := .lost } : GaugeRec).source = .estimate ∧
      (updateGauge (lostAt 0) 0 2 (.fault .sensor) held).source = .estimate ∧
      (updateGauge valid 0 2 (.fault .sensor) { held with faultCount := 1 }).source = .gauge ∧
      (updateGauge valid 0 2 .notPolled held).source = .estimate := by decide +kernel

/-- Tanks at rest; each end check of a transfer in hand with those before it failing; a target under the console; a gravity line
with no baseline, an older one and one of the same second. -/
theorem witness_ASweepEndUpdatesTheTanks :
    let g0 (s : State) := s.setTransfer .g0 (moving .running .link 1)
    let pumped := pumping loading .running .flowWatch
    let full : State := (loading.setTransfer .p0 { moving .running .link 2 with direction := .fill }).setGaugeRec 2
      { good 30000 with offTable := .above }
    let handed := pumping loading .handedOver .off
    (AllIdle valid ∧ HandsNothingOn valid ∧ valid.console.grantLine = false) ∧
      (estimated (g0 (estimating loading)) 1 = true ∧ Driver.g0.gravity = true ∧
        ((g0 loading).transfer .g0).state.active = true) ∧
      (estimated (g0 (headAt 7699)) 1 = false ∧ headLow (g0 (headAt 7699)) 1 = true ∧ headLow (g0 (headAt 7700)) 1 = false) ∧
      ((full.transfer .p0).direction = .fill ∧ (full.gaugeRec 2).map GaugeRec.offTable = some .above) ∧
      ((pumped.transfer .p0).direction = .discharge ∧ (pumped.transfer .p0).targetMass < tankMass pumped 2 ∧
        tankMass (pumped.setGaugeRec 2 (good 0)) 2 ≤ (pumped.transfer .p0).targetMass) ∧
      ((handed.transfer .p0).state = .handedOver ∧ handed.console.reached.get .p0 = false ∧
        tankMass (handed.setGaugeRec 2 (good 0)) 2 ≤ (handed.transfer .p0).targetMass) ∧
      ((loading.gravityRec .g0).baseline = none ∧ (Baseline.mk 52000 1000).stamp < 1003 ∧
        (Baseline.mk 52000 1003).stamp = 1003) := by
  refine ⟨⟨allIdle_of_list _ (by decide +kernel), by decide +kernel, rfl⟩, ?_⟩
  decide +kernel

theorem witness_APulseIsTakenWhole :
    (inReset valid).inputs.reset = true ∧ valid.inputs.reset = false ∧ (valid.transfer .p0).state = .idle ∧
      (((pumping loading .priming .priming).pumpMeter .p0).phase = .priming ∧
        ((pumping loading .priming .priming).transfer .p0).state = .priming) ∧
      ((pumping loading .running .flowWatch).pumpMeter .p0).phase = .flowWatch := by decide +kernel

/-- The priming expiry, the no-flow expiry above and at the residual mass and with its countdown reloaded, a phase with no
transfer, and a trip. -/
theorem witness_ExpiriesAndTripsEndAPumpedTransfer :
    let a := pumping loading .priming .priming
    let b := runOut (pumping loading .running .flowWatch)
    let low := b.setGaugeRec 2 (good 800)
    let none' := runOut (pumping loading .handedOver .flowWatch)
    ((a.pumpMeter .p0).phase = .priming ∧ (a.transfer .p0).state.active = true) ∧
      ((b.pumpMeter .p0).phase = .flowWatch ∧ (b.pumpMeter .p0).countdown = 0 ∧ (b.transfer .p0).state.active = true ∧
        ¬ tankMass b 2 ≤ b.store.tables.residual 2) ∧
      tankMass low 2 ≤ low.store.tables.residual 2 ∧
      ((none'.pumpMeter .p0).phase = .flowWatch ∧ (none'.pumpMeter .p0).countdown = 0 ∧
        (none'.transfer .p0).state.active = false) ∧
      ((pumping loading .handedOver .priming).pumpMeter .p0).phase = .priming ∧
      ((pumping loading .running .flowWatch).pumpMeter .p0).countdown ≠ 0 ∧ (valid.pumpMeter .p0).phase = .off ∧
      ((b.inputs.setRunning .p0 true).running .p0 = true ∧ b.inputs.running .p0 = false) := by decide +kernel

theorem witness_XstpStopsATransfer :
    let b := pumping loading .running .flowWatch
    (Ready .ship b ∧ b.tracker.op = .loading ∧ b.console.state = .auto ∧ (b.transfer .p0).state.active = true ∧
        (b.transfer .p1).state.active = false) ∧
      valid.tracker.op ≠ .loading ∧ Ready .ship (granted loading) ∧ (granted loading).tracker.op = .loading ∧
      (granted loading).console.state ≠ .auto ∧ 5 < (6#8 : Byte).toNat := by decide +kernel

/-- Each check failing with the checks before it passed: the operation, the console, the arguments just outside their codes and
ranges, a tank that is none, a fill of EMPTY and one by gravity, eligibility, pace, the driver, the tank, each valve, the measure, the
condition and the head. -/
theorem witness_XstaIsRefusedByTheFirstCheck :
    let busy := pumping loading .running .flowWatch
    let start : StartReq := ⟨0, 2, 0, 20000, 0, 0⟩
    let gravity : StartReq := ⟨4, 1, 0, 20000, 0, 0⟩
    let bad (r : StartReq) : Prop := StartRefused loading r .badArgument
    (Ready .ship loading ∧ Ready .ship busy ∧ Ready .ship (headAt 7699) ∧ ([0#8] : List Byte).length ≠ 9) ∧
      (StartRefused valid start .notLoading ∧ StartRefused (granted loading) start .console) ∧
      (bad { start with driver := 6 } ∧ bad { start with tank := 3 } ∧ bad { start with direction := 2 } ∧
        bad { start with paced := 2 } ∧ bad { start with target := 4000001 } ∧ bad { start with paced := 1, base := 101 } ∧
        bad { start with direction := 1, target := 4294967295 } ∧ bad { gravity with direction := 1 }) ∧
      (StartRefused loading { start with driver := 3 } .notEligible ∧ StartRefused loading { gravity with tank := 2 } .notEligible ∧
        StartRefused loading { gravity with driver := 5 } .notEligible) ∧
      (StartRefused loading { start with driver := 1, paced := 1 } .paceFixed ∧
        StartRefused loading { gravity with paced := 1 } .paceFixed) ∧
      (StartRefused busy start .driverBusy ∧ StartRefused busy { start with driver := 1 } .tankBusy) ∧
      (StartRefused (loading.setValve 1 stuck) start .valveFault ∧ StartRefused (loading.setValve 32 stuck) start .valveFault) ∧
      (StartRefused (estimating loading) gravity .noMeasure ∧ StartRefused loading gravity .noCondition ∧
        StartRefused (headAt 7699) gravity .lowHead) := by
  simp only [← judgeStart_error_iff]
  refine ⟨?_, ?_, ?_, ?_, ?_, ?_, ?_, ?_⟩ <;> decide +kernel

/-- A pump with its valves closed; a fill with both valves standing OPEN and shown so, at the greatest target and base; a gravity line
likewise, with just the head it needs. -/
theorem witness_XstaStartsATransfer :
    let shown (s : State) (ch : Nat) := (s.setLimitInputs ch true false).setValve ch (atEnd .opened)
    let open2 := shown (shown loading 1) 32
    let open1 := shown (shown (headAt 7700) 0) 36
    (Ready .ship loading ∧ StartPasses loading ⟨Driver.p0.code, 2, 0, 4294967295, 0, 0⟩ ∧
        ((after (xsta 0 2 0 4294967295 0 0) loading).valve 1).state ≠ .opened) ∧
      (Ready .ship open2 ∧ StartPasses open2 ⟨Driver.p0.code, 2, 1, 4000000, 1, 100⟩ ∧
        ((after (xsta 0 2 1 4000000 1 100) open2).valve 1).state = .opened ∧
        ((after (xsta 0 2 1 4000000 1 100) open2).valve 32).state = .opened) ∧
      (Ready .ship open1 ∧ StartPasses open1 ⟨Driver.g0.code, 1, 0, 0, 0, 0⟩ ∧
        Driver.g0.gravity = true ∧ ((after (xsta 4 1 0 0 0 0) open1).valve 0).state = .opened ∧
        ((after (xsta 4 1 0 0 0 0) open1).valve 36).state = .opened) := by
  refine ⟨⟨by decide +kernel, (judgeStart_ok_iff (d := .p0) rfl).1 (by decide +kernel), by decide +kernel⟩,
    ⟨by decide +kernel, (judgeStart_ok_iff (d := .p0) rfl).1 (by decide +kernel), by decide +kernel⟩,
    ⟨by decide +kernel, (judgeStart_ok_iff (d := .g0) rfl).1 (by decide +kernel), by decide +kernel⟩⟩

/-- A tank valve and a line valve free to close, and each check failing with those before it passed. -/
theorem witness_ValvClosesAFreeValve :
    let b := pumping loading .running .flowWatch
    let f := loading.setValve 1 stuck
    (Ready .ship loading ∧ loading.store.dataState = .valid ∧ namedValve loading 2 = some 1 ∧
        namedValve loading 48 = some 32 ∧ loading.console.state = .auto ∧ holderOf loading 1 = none ∧
        (loading.valve 1).state ≠ .fault) ∧
      (Ready .ship (windowed 10 .uncommitted) ∧ (windowed 10 .uncommitted).store.dataState ≠ .valid) ∧
      (namedValve loading 47 = none ∧ namedValve loading 54 = none ∧ namedValve loading 50 = none) ∧
      ((granted loading).console.state ≠ .auto ∧ namedValve (granted loading) 2 = some 1) ∧
      ((holderOf b 1).isSome ∧ namedValve b 2 = some 1) ∧ ((f.valve 1).state = .fault ∧ holderOf f 1 = none) ∧
      (stuck.state = .fault ∧ (inTravel .opened).state = .opening ∧ (inTravel .closed).state = .closing ∧
        (atEnd .opened).state = .opened ∧ Valve.shut.state = .closed) := by
  decide +kernel

/-- The rows of R97: a reversal with the full travel time, the same end again, and a FAULT. -/
theorem test_a_command_to_an_end :
    (inTravel .opened).command .closed 300 .neither = { inTravel .closed with countdown := 300 } ∧
      ({ inTravel .opened with countdown := 7 } : Valve).command .opened 300 .neither = { inTravel .opened with countdown := 7 } ∧
      stuck.command .opened 300 .neither = { stuck with commanded := .opened } := by decide +kernel

theorem witness_VclrAdoptsTheShownEnd :
    let f := loading.setValve 1 stuck
    let b := (pumping loading .running .flowWatch).setValve 1 stuck
    (Ready .ship f ∧ f.store.dataState = .valid ∧ namedValve f 2 = some 1 ∧ f.console.state = .auto ∧
        (f.valve 1).state = .fault ∧ holderOf f 1 = none ∧ feedback f 1 = .closed ∧
        feedback (f.setLimitInputs 1 true false) 1 = .opened ∧ feedback (f.setLimitInputs 1 false false) 1 = .neither ∧
        feedback (f.setLimitInputs 1 true true) 1 = .both) ∧
      namedValve f 47 = none ∧ (granted f).console.state ≠ .auto ∧ (loading.valve 1).state ≠ .fault ∧
      ((b.valve 1).state = .fault ∧ (holderOf b 1).isSome) := by decide +kernel

/-- A channel with no valve, a valve in travel, a valve standing, a valve in FAULT; the channels 0 and 37 are the ends; a valve
whose arrival takes its transfer on, one whose arrival ends it, and one whose fault ends it; the console GRANTED. -/
theorem witness_AValveIsJudgedByItsLimitsAndItsTime :
    let v := valid.setValve 0 (inTravel .opened)
    let on := openingG0.setValve 36 (atEnd .opened)
    let off := ((loading.setTransfer .g0 (moving .closing .link 1)).setValve 0 (inTravel .closed))
    (holderOf valid 0 = none ∧ assigned valid 0 = true ∧ assigned valid 37 = false ∧ holderOf valid 37 = none) ∧
      (holderOf v 0 = none ∧ assigned v 0 = true ∧ (v.valve 0).state.moving = true ∧
        Feedback.ofLimits true false = (v.valve 0).commanded.feedback ∧ Feedback.ofLimits false false ≠ .both ∧
        Feedback.ofLimits true true = .both) ∧
      ((valid.valve 0).state = .closed ∧ (valid.valve 0).commanded.limitMade
          (valid.inputs.openLimit.get 0) (valid.inputs.closedLimit.get 0) = true ∧
        (valid.valve 0).commanded.limitMade false false = false ∧ (valid.valve 0).commanded.limitMade false true = true) ∧
      (((valid.setValve 0 stuck).valve 0).state = .fault ∧ (valid.valve 0).state.moving = false) ∧
      (holderOf on 0 = some .g0 ∧ (on.transfer .g0).state = .opening ∧
        ((on.setValve 0 (atEnd .opened)).valve (tankValve on .g0)).state = .opened ∧
        (on.valve Driver.g0.lineValve).state = .opened) ∧
      (holderOf off 0 = some .g0 ∧ (off.transfer .g0).state = .closing ∧
        ((off.setValve 0 (atEnd .closed)).valve (tankValve off .g0)).state.done = true ∧
        (off.valve Driver.g0.lineValve).state.done = true) ∧
      ((granted loading).console.state = .granted ∧ assigned (granted loading) 0 = true) := by decide +kernel

theorem witness_FixmSetsAFixedMass :
    Ready .ship valid ∧ valid.store.dataState = .valid ∧ valid.store.tables.kind 4 = some .fixed ∧ 4000000 ≤ 4000000 ∧
      valid.store.tables.kind 3 ≠ some .fixed ∧ 48 ≤ 48 ∧ 4000000 < 4000001 ∧
      Ready .ship (windowed 10 .uncommitted) ∧ (windowed 10 .uncommitted).store.dataState ≠ .valid := by decide +kernel

/-- A publish that enters BREACH at 1,000 and one at 999 that does not; the boundaries of the watch with caution threshold 900
and band 50; no refresh in flight; a gravity line whose head is low and one whose head is not; a paced pump RUNNING. -/
theorem witness_ARefreshPublishesAndIsJudged :
    let a := refreshing loading (condWith 1000 999)
    let b := refreshing loading (condWith 998 999)
    let g0 (s : State) := s.setTransfer .g0 (moving .running .link 1)
    let paced := loading.setTransfer .p0 { moving .running .link 2 with paced := true, base := 80 }
    (a.engine.job = some ⟨.refresh, ⟨[], []⟩, [condWith 1000 999], 1⟩ ∧ a.engine.nextSeq ≠ 0 ∧ a.limits.watch ≠ .breach) ∧
      b.engine.job = some ⟨.refresh, ⟨[], []⟩, [condWith 998 999], 1⟩ ∧ loading.engine.job = none ∧
      (tables.cautionAt = 900 ∧ tables.band = 50 ∧ 900 ≤ 850 + 50 ∧ 849 + 50 < 900 ∧ 1000 ≤ 950 + 50 ∧ 949 + 50 < 1000) ∧
      (headLow (g0 (headAt 7699)) 1 = true ∧ headLow (g0 (headAt 7700)) 1 = false ∧
        ((g0 (headAt 7699)).transfer .g0).state = .running ∧
        (headAt 7699).gaugeRec 1 = some { good 20000 with corrected := 7699 } ∧ loading.engine.published = none) ∧
      ((paced.transfer .p0).paced = true ∧ (paced.transfer .p0).state = .running) ∧
      (a.gauge.swept = true ∧ unreadEnabled a = [] ∧ State.reset.gauge.swept = false ∧
        unreadEnabled (a.setGaugeRec 1 (GaugeRec.unread 1000)) = [1]) ∧
      (loading.tracker.prevRob = none ∧ loading.tracker.op ≠ .idle) := by decide +kernel

/-- A displacement below, within and above the hydrostatic table; marks that are taken, declined and absent; a void projection, a
stale generation, another operation state; a result for another pour, and for the pour concerned. -/
theorem witness_AJobComputesItsConditionAndAProjectionIsJudged :
    let a := projecting loading false
    let stale : State := { a with tracker := { a.tracker with gen := 1 } }
    let other : State := { a with tracker := { a.tracker with pos := 1 } }
    let unread := loading.setGaugeRec 1 (GaugeRec.unread 1000)
    let marked (s : State) (r : Bool) (p : Option ProjReq) : State :=
      { s with engine := { s.engine with refreshMark := r, projMark := p } }
    let req : ProjReq := ⟨1, 5, 20000, 0⟩
    (0 < tables.hydroDisp 0 ∧ tables.hydroDisp (tables.hydroCount - 1) < 1000001 ∧ tables.hydroCount - 1 = 1 ∧
        300000 ≤ tables.hydroDisp 1 ∧ tables.cpCount = 1) ∧
      ((marked loading true none).engine.job = none ∧ unreadEnabled loading = [] ∧ unreadEnabled unread = [1]) ∧
      ((marked (judged loading) false (some req)).engine.published.isSome ∧ loading.engine.published = none) ∧
      (a.engine.job = some ⟨.projection req false, ⟨[], []⟩, [cond, cond], 1⟩ ∧
        (projecting loading true).engine.job = some ⟨.projection req true, ⟨[], []⟩, [cond, cond], 1⟩) ∧
      (a.tracker.gen = 0 ∧ a.tracker.op = .loading ∧ (concerned a).map (·.entry.pour) = some 1) ∧
      stale.tracker.gen ≠ 0 ∧ (projecting valid false).tracker.op ≠ .loading ∧
      (other.tracker.gen = 0 ∧ (concerned other).map (·.entry.pour) = some 2) ∧
      (loading.store.dataState = .valid ∧ (windowed 10 .uncommitted).store.dataState ≠ .valid) := by decide +kernel

/-- Both ends of the range, the values outside it, and each form of a part with and without a boom height and a condition. -/
theorem witness_TideRecomputesTheClearances :
    Ready .ship (judged loading) ∧ (judged loading).limits.boom = some 20000 ∧ (judged loading).limits.judgedSeq ≠ 0 ∧
      valid.limits.boom = none ∧ loading.limits.judgedSeq = 0 ∧ (-5000 : Int) ≤ -5000 ∧ (20000 : Int) ≤ 20000 ∧
      (-5001 : Int) < -5000 ∧ (20000 : Int) < 20001 := by decide +kernel

theorem witness_StprClearsTheLatch :
    let breached : State := { latchedOnce with limits := { latchedOnce.limits with watch := .breach } }
    (Ready .ship latchedOnce ∧ latchedOnce.limits.watch ≠ .breach ∧ latchedOnce.limits.latch = true) ∧
      (Ready .ship loading ∧ loading.limits.latch = false) ∧ (Ready .ship breached ∧ breached.limits.watch = .breach) := by
  decide +kernel

/-- A program of 64 steps passes; a limit of 0 and a length of 0 fail the header; a running Sequencer is BUSY. -/
theorem witness_SqxcExchangesThePrograms :
    let good := program 1 (List.replicate 64 (b1 6))
    let ok : State := sequencing loading good (SeqCore.fresh .ready)
    let bad := program 0 [b1 6, b1 4 ++ b2 0]
    (Ready .ship ok ∧ ok.seq.core.state = .ready ∧ headMode good ≤ 1 ∧ 1 ≤ headLimit good ∧ headExit good ≤ 1 ∧
        headInterval good ≤ 600 ∧ 1 ≤ headLength good ∧ headLength good ≤ 64 ∧
        ∀ i < headLength good, (stepAt good i).ok = true) ∧
      ((stepAt bad 0).ok = true ∧ (stepAt bad 1).ok = false ∧ 1 < headLength bad ∧ ∀ j < 1, (stepAt bad j).ok = true) ∧
      ¬ 1 ≤ headLength valid.seq.standby ∧
      (sequencing loading good (SeqCore.fresh .running)).seq.core.state = .running ∧
      ((Step.await 6).ok = true ∧ (Step.await 7).ok = false ∧ (Step.stop 5).ok = true ∧ (Step.stop 6).ok = false ∧
        (Step.waitPour 999).ok = true ∧ (Step.waitPour 1000).ok = false ∧ (Step.dwell 65535).ok = true) ∧
      (Step.start 5 47 0 4000000 1 100 1).ok = true ∧ (Step.start 4 47 1 4000000 1 100 1).ok = false := by decide +kernel

/-- The Sequencer in each state that hears, with each wait; a return that is watched; a transfer awaited that ended badly. -/
theorem witness_SqgoAndTheCountdownsMoveThePointer :
    let b := program 0 [startRow 0 2 0 20000 0 0]
    let at' (st : SeqState) (w : WaitReason) (p : Option Progress) : State :=
      sequencing loading b { SeqCore.fresh st with wait := w, progress := p, suspend := .host }
    let bad : Progress := ⟨.p0, true, some .noFlow, true⟩
    let before := at' .suspended .nothing (some { bad with idle := false })
    let now := at' .suspended .nothing (some bad)
    let pour : State := sequencing { loading with tracker := { loading.tracker with history := [record1] } }
      (program 0 [b1 3 ++ b2 1]) { SeqCore.fresh .running with wait := .pour }
    (Ready .ship (sequencing loading b (SeqCore.fresh .ready)) ∧ loading.tracker.op = .loading) ∧
      (sequencing loading b (SeqCore.fresh .complete)).seq.core.state = .complete ∧
      (Ready .ship (sequencing valid b (SeqCore.fresh .ready)) ∧ valid.tracker.op ≠ .loading) ∧
      ((at' .running .interval (some bad)).seq.core.progress.isSome ∧
        (at' .suspending .interval (some bad)).seq.core.progress.isSome ∧
        (at' .running .dwell none).seq.core.wait = .dwell ∧ (SeqCore.fresh .running).progress = none ∧
        (SeqCore.fresh .running).wait ≠ .dwell) ∧
      (HandsNothingOn loading ∧ stepAt b 0 = .start 0 2 0 20000 0 0 1) ∧
      (((pumping loading .running .flowWatch).transfer .p0).state ≠ .idle ∧ (loading.transfer .p0).state = .idle ∧
        Driver.p0.code = 0) ∧
      (bad.entered = true ∧ bad.ended = some .noFlow ∧ before.seq.core.progress.map Progress.idle = some false ∧
        now.seq.core.progress.map Progress.idle = some true) ∧
      (stepAt pour.seq.active 0 = .waitPour 1 ∧ pour.seq.core.state = .running ∧ pour.seq.core.wait = .pour ∧
        pourRecorded pour 1 = true ∧ pourRecorded loading 1 = false) := by decide +kernel

/-- A part at each kind of step: a START accepted, in its start phase and straight past it, in hand, waiting for its driver or
its tank, and refused; the others by their kind; and a pass that ends, repeats and reaches its limit. -/
theorem witness_TheWalkTakesEachStepByItsKind :
    let at' (s : State) (row : List Byte) : State := sequencing s (program 0 [row]) (SeqCore.fresh .running)
    let busy := pumping loading .running .flowWatch
    let shown (s : State) (ch : Nat) := (s.setLimitInputs ch true false).setValve ch (atEnd .opened)
    let st : Start := ⟨.p0, 2, .discharge, .mass 20000, false, 0⟩
    let rep : State := sequencing loading (program 1 [b1 6]) (SeqCore.fresh .running)
    let two : State := sequencing loading (program 1 [b1 6, b1 6]) (SeqCore.fresh .running)
    let last : State := { rep with seq := { rep.seq with core := { rep.seq.core with passes := 1 } } }
    let r (d : Nat) : StartReq := ⟨d, 2, 0, 20000, 0, 0⟩
    (stepAt (at' loading (startRow 0 2 0 20000 0 0)).seq.active 0 = .start 0 2 0 20000 0 0 1 ∧
        StartPasses (at' loading (startRow 0 2 0 20000 0 0)) (r 0) ∧
        ((acceptStart .program (some 0) st loading).transfer .p0).state = .opening ∧
        ((acceptStart .program (some 0) st (shown (shown loading 1) 32)).transfer .p0).state = .priming ∧
        headInterval (program 0 []) ≠ 0 ∧ headInterval valid.seq.active = 0) ∧
      (({ SeqCore.fresh .running with progress := some ⟨.p0, true, some .noFlow, true⟩ } : SeqCore).progress =
        some ⟨.p0, true, some .noFlow, true⟩) ∧
      (StartRefused busy (r 0) .driverBusy ∧ StartRefused busy (r 1) .tankBusy ∧ StartRefused loading (r 3) .notEligible) ∧
      (stepAt (at' loading (b1 1 ++ b1 0)).seq.active 0 = .stop Driver.p0.code ∧
        stepAt (at' loading (b1 5 ++ b1 255)).seq.active 0 = .mark 255 ∧ stepAt (at' loading (b1 6)).seq.active 0 = .finish ∧
        stepAt (at' loading (b1 4 ++ b2 600)).seq.active 0 = .dwell 600 ∧
        stepAt (at' loading (b1 2 ++ b1 5)).seq.active 0 = .await Driver.g1.code ∧
        stepAt (at' loading (b1 2 ++ b1 6)).seq.active 0 = .await 6 ∧
        stepAt (at' loading (b1 3 ++ b2 1)).seq.active 0 = .waitPour 1 ∧
        stepAt (at' loading (b1 7)).seq.active 0 = .unknown 7) ∧
      ((busy.transfer .p0).owner ≠ some .program ∧
        ((busy.setTransfer .p0 (moving .running .program 2)).transfer .p0).owner = some .program) ∧
      (heldOnStage loading = false ∧ heldOnStage { loading with tracker := { loading.tracker with lastReasons := Reason.stage.bit } } = true) ∧
      (two.seq.core.pointer + 1 < headLength two.seq.active ∧ headLength rep.seq.active ≤ rep.seq.core.pointer + 1 ∧
        headMode rep.seq.active ≠ 0 ∧ 1 ≠ headLimit rep.seq.active ∧ headExit rep.seq.active ≠ 1 ∧
        last.seq.core.passes + 1 = headLimit last.seq.active) := by
  simp only [← judgeStart_ok_iff (d := .p0) (r := ⟨0, 2, 0, 20000, 0, 0⟩) rfl, ← judgeStart_error_iff]
  decide +kernel

/-- The plan bears pours 1 and 2 and no other, so that a wait for pour 2 held on STAGE is a deadlock and one for pour 3 is not. -/
theorem witness_TheWalkAwaitsAPourOfThePlan :
    let s : State := { loading with tracker := { loading.tracker with lastReasons := Reason.stage.bit } }
    (concerned s = some ⟨planEntry plan 0, false, false, 0⟩ ∧ hasReason s.tracker.lastReasons .stage = true) ∧
      PlanBears s.tracker.active 2 ∧ ¬ PlanBears s.tracker.active 3 := by
  unfold PlanBears
  decide +kernel

theorem witness_TheWalkFindsAPourRecord :
    ∃ x ∈ ({ loading.tracker with history := [record1] } : Tracker).history, x.pour = 1 := ⟨record1, by simp, rfl⟩

/-- Every state of the Sequencer, every reason of a suspension, and a part with a PROGRAM transfer to abort. -/
theorem witness_TheHostSuspendsResumesAndAborts :
    let at' (c : SeqCore) : State := sequencing loading (program 0 [b1 4 ++ b2 20]) c
    let sus (why : SuspendReason) : SeqCore := { SeqCore.fresh .suspended with suspend := why }
    let ours := sequencing (loading.setTransfer .p0 (moving .running .program 2)) (program 0 [b1 6]) (SeqCore.fresh .running)
    (Ready .ship (at' { SeqCore.fresh .running with wait := .opening }) ∧ ({ SeqCore.fresh .running with wait := .opening } : SeqCore).wait = .opening ∧
        (SeqCore.fresh .running).wait ≠ .opening) ∧
      ((granted loading).seq.core.state = .yielded ∧ Ready .ship (granted loading) ∧ (granted loading).console.state ≠ .auto) ∧
      ((sus .transferFault).suspend = .transferFault ∧ (sus .deadlock).state = .suspended) ∧
      (({ sus .host with progress := some ⟨.p0, true, none, false⟩ } : SeqCore).progress.isSome ∧ (sus .host).progress = none ∧
        stepAt (at' (sus .host)).seq.active 0 = .dwell 20 ∧ ({ sus .host with dwell := 1 } : SeqCore).dwell ≠ 0 ∧
        (sus .host).dwell = 0) ∧
      (Ready .ship ours ∧ ours.console.state = .auto ∧ ours.seq.core.state ≠ .empty ∧
        (ours.transfer .p0).owner = some .program ∧ (ours.transfer .p0).state.active = true) ∧
      (loading.seq.core.state = .empty ∧ Ready .ship loading) := by decide +kernel

/-- The parameters at the ends of their ranges, a range that fails, each refusal, and a Sequencer that waits for a pour while the
plan's first pour requires stage 2. -/
theorem witness_OpbgBeginsALoadingOperation :
    let ok (ρ draft boom clear ack gain : Nat) (tide : Int) : List Bool :=
      [decide (990 ≤ ρ ∧ ρ ≤ 1050), decide (1 ≤ draft ∧ draft ≤ 40000), decide (1 ≤ boom ∧ boom ≤ 60000),
        decide (clear ≤ 20000), decide (5 ≤ ack ∧ ack ≤ 120), decide (gain ≤ 100), decide (-5000 ≤ tide ∧ tide ≤ 20000)]
    let waits := sequencing
      { valid with tracker := { valid.tracker with active := plan.set 0 (rowOf 20 (planRows.getD 1 [])) } }
      (program 0 [b1 3 ++ b2 2]) { SeqCore.fresh .running with wait := .pour }
    let opbg : List Byte := b2 1025 ++ b4 14000 ++ b4 20000 ++ b4 1500 ++ b1 60 ++ b1 20 ++ b4 0
    (Ready .ship valid ∧ valid.tracker.op ≠ .loading ∧ valid.store.dataState = .valid) ∧
      (∀ x ∈ ok 990 1 1 0 5 0 (-5000), x = true) ∧ (∀ x ∈ ok 1050 40000 60000 20000 120 100 20000, x = true) ∧
      ((ok 990 1 1 0 5 0 20001)[6]? = some false ∧ ∀ j < 6, (ok 990 1 1 0 5 0 20001)[j]? = some true) ∧
      (ok 989 1 1 0 5 0 0)[0]? = some false ∧
      (Ready .ship loading ∧ loading.tracker.op = .loading) ∧
      (Ready .ship (windowed 10 .uncommitted) ∧ (windowed 10 .uncommitted).tracker.op ≠ .loading ∧
        (windowed 10 .uncommitted).store.dataState ≠ .valid) ∧
      ((judged valid).limits.judgedSeq ≠ 0 ∧ valid.limits.judgedSeq = 0) ∧
      (Ready .ship waits ∧ waits.seq.core.state = .running ∧ waits.seq.core.wait = .pour ∧
        awaitsPlanned waits = true ∧ (after (.opbg .ship opbg) waits).seq.core.suspend = .deadlock) := by decide +kernel

/-- An OPBG that changes the DRAFT flag raises LIMIT, and one without a plan raises POUR at PLAN_DONE. -/
theorem witness_OpbgRaisesItsNotices :
    let loose : State := { judged valid with
      links := { valid.links with enables := 0x7F#8 }
      limits := { (judged valid).limits with deepest := some (6162, .aft), flags := { LimitFlags.clear with draft := true } } }
    let t := after (.opbg .ship (b2 1025 ++ b4 14000 ++ b4 20000 ++ b4 1500 ++ b1 60 ++ b1 20 ++ b4 0)) loose
    Ready .ship loose ∧ loose.limits.judgedSeq ≠ 0 ∧ loose.links.enables.getLsbD 6 = true ∧
      t.limits.flags ≠ loose.limits.flags ∧ (t.links.notices.get 8).isSome ∧
      planLength loose.tracker.active = 0 ∧ loose.links.enables.getLsbD 2 = true ∧
      t.links.notices.get 4 = some (.pour .planDone .planDone none 0#13) ∧ planLength loading.tracker.active ≠ 0 := by
  decide +kernel

theorem witness_OpndEndsTheLoadingOperation :
    (Ready .ship loading ∧ loading.tracker.op = .loading ∧ AllIdle loading ∧ loading.tracker.state = .evaluating ∧
        loading.console.grantLine = false) ∧
      (tracking .planDone none).tracker.state = .planDone ∧ (Ready .ship valid ∧ valid.tracker.op ≠ .loading) ∧
      ¬ AllIdle (pumping loading .running .flowWatch) ∧ (granted loading).console.grantLine = true := by
  refine ⟨⟨by decide +kernel, rfl, allIdle_of_list _ (by decide +kernel), rfl, rfl⟩, rfl, by decide +kernel, ?_, rfl⟩
  intro h
  exact absurd (h .p0) (by decide +kernel)

/-- A plan that passes; an empty bank; an entry out of range after one that passes; each state of the current pour. -/
theorem witness_PlxcExchangesThePlans :
    let bad : PlanBank := plan.set 1 (rowOf 20 (b2 1000 ++ b1 6 ++ b4 10000))
    (Ready .ship loading ∧ loading.tracker.exchange = false ∧ (planEntries plan).length = 2 ∧
        (planEntries plan).map PlanEntry.pour = [1, 2] ∧ planEntries plan ≠ []) ∧
      planEntries valid.tracker.standby = [] ∧ ((planEntries bad)[1]?).map PlanEntry.pour = some 1000 ∧
      ({ loading.tracker with exchange := true } : Tracker).exchange = true ∧
      (tracking .pouring (some (pour1 true 0))).tracker.cur.map CurrentPour.started = some true ∧
      (tracking .permitted (some (pour1 false 0))).tracker.cur.map CurrentPour.started = some false ∧
      loading.tracker.cur = none := by decide +kernel

theorem witness_HsetSetsAHoldMass :
    let busy := tracking .pouring (some (pour1 true 0))
    Ready .ship loading ∧ Ready .ship busy ∧ busy.tracker.cur = some (pour1 true 0) ∧ (pour1 true 0).started = true ∧
      (pour1 true 0).entry.hold = 5 ∧ loading.tracker.cur = none ∧ 12 < 13 ∧ 4000000 < 4000001 := by decide +kernel

/-- Pour and hold at the ends of their ranges; the pour named, another, none, and one not yet started. -/
theorem witness_LpstStartsAPourOrOpensAnUnexpectedOne :
    let going := tracking .pouring (some (pour1 true 0))
    let free := tracking .permitted (some (pour1 false 0))
    let full : State := { loading with links := { loading.links with queue := List.replicate 16 (.pres 1 5) } }
    (1 ≤ 999 ∧ 12 ≤ 12 ∧ ¬ (13 ≤ 12) ∧ ¬ (1000 ≤ 999)) ∧
      (Ready .shore full ∧ full.tracker.op = .loading ∧ full.tracker.cur = none ∧ ¬ full.links.queue.length < 16 ∧
        full.links.enables.getLsbD 2 = true ∧
        (after (.lpst .shore (b2 7 ++ b1 5)) full).links.notices.get 4 =
          some (.pour (.shoreLost (.pres 1 5)) .holdRequested none 0#13)) ∧
      (Ready .shore valid ∧ valid.tracker.op ≠ .loading) ∧ (Ready .shore loading ∧ loading.tracker.op = .loading) ∧
      (Ready .shore going ∧ going.tracker.cur = some (pour1 true 0) ∧ (pour1 true 0).started = true ∧
        (pour1 true 0).entry.pour = 1 ∧ (pour1 true 0).entry.hold = 5) ∧
      (Ready .shore free ∧ free.tracker.cur = some (pour1 false 0) ∧ (pour1 false 0).started = false) := by decide +kernel

/-- An UNEXPECTED pour opened with the latch set is held for both reasons (R154, R159). -/
theorem test_an_unexpected_pour_under_the_latch :
    let t := after (.lpst .shore (b2 7 ++ b1 5)) { loading with limits := { loading.limits with latch := true } }
    hasReason t.tracker.lastReasons .unexpected = true ∧ hasReason t.tracker.lastReasons .stopLatch = true := by decide +kernel

theorem witness_LtalTakesATally :
    let held' := tracking .held (some (pour1 true 100))
    (Ready .shore held' ∧ held'.tracker.cur = some (pour1 true 100) ∧ (pour1 true 100).started = true ∧
        (pour1 true 100).entry.pour = 1 ∧ held'.tracker.state = .held ∧ (pour1 true 100).tally < 101 ∧
        99 < (pour1 true 100).tally) ∧
      (Ready .shore loading ∧ loading.tracker.cur = none) ∧ 4000000 ≤ 4000000 ∧ 4000000 < 4000001 := by decide +kernel

/-- A pour in progress with room in the history and with none, of the plan and unexpected, with an exchange pending, HELD with a
tally that rises, and with the console and the Sequencer at work. -/
theorem witness_LpndEndsThePour :
    let a := tracking .pouring (some (pour1 true 100))
    let b : State := { a with tracker := { a.tracker with history := List.replicate 128 record1, exchange := true } }
    let c := tracking .held (some (pour1 true 100))
    let d : State := sequencing { a with console := { a.console with state := .requested } } (program 0 [b1 3 ++ b2 1])
      { SeqCore.fresh .running with wait := .pour }
    (Ready .shore a ∧ a.tracker.cur = some (pour1 true 100) ∧ a.tracker.op = .loading ∧ HandsNothingOn a ∧
        (pour1 true 100).started = true ∧ (pour1 true 100).entry.pour = 1 ∧
        ¬ (a.tracker.state = .held ∧ (pour1 true 100).tally < 4000000) ∧ a.tracker.history.length < 128) ∧
      (Ready .shore b ∧ HandsNothingOn b ∧ ¬ b.tracker.history.length < 128 ∧ b.tracker.exchange = true) ∧
      (Ready .shore c ∧ c.tracker.cur = some (pour1 true 100) ∧ c.tracker.state = .held ∧ (pour1 true 100).tally < 101) ∧
      (Ready .shore d ∧ d.tracker.cur = some (pour1 true 100) ∧ d.seq.core.state = .running) ∧
      (Ready .shore loading ∧ loading.tracker.cur = none) ∧ 4000000 < 4000001 := by decide +kernel

theorem witness_LhakAndTheAckExpiryMakeAPourHeld :
    let a := tracking .holdRequested (some (pour1 true 0))
    let b : State := { a with tracker := { a.tracker with ack := some 300 } }
    (Ready .shore a ∧ a.tracker.state = .holdRequested ∧ a.tracker.cur = some (pour1 true 0) ∧ (pour1 true 0).entry.pour = 1) ∧
      (Ready .shore loading ∧ loading.tracker.state ≠ .holdRequested) ∧ b.tracker.ack.isSome ∧ a.tracker.ack = none ∧
      999 < 1000 ∧ (65535 : Nat) < 65535 + 1 ∧ loading.limits.settings < 65535 := by decide +kernel

/-- Each tracker state, with the reason set empty and not, and the projection standing passed or absent; a pour held on STAGE
while the Sequencer waits for a pour. -/
theorem witness_AnEvaluationActsByTheTrackerState :
    let stand (s : State) : State := { s with tracker := { s.tracker with standing := some ⟨true, 1, 0, ⟨false, false, false, false⟩⟩ } }
    let c : Concerned := ⟨planEntry plan 0, false, false, 0⟩
    let latched (s : State) : State := { s with limits := { s.limits with latch := true } }
    let ready := stand (judged loading)
    let waits := sequencing { loading with tracker := { loading.tracker with pos := 1 } } (program 0 [b1 3 ++ b2 1])
      { SeqCore.fresh .running with wait := .pour }
    concerned valid = none ∧ (concerned ready = some c ∧ reasonSet ready c = 0#13) ∧
      (concerned loading = some c ∧ reasonSet loading c ≠ 0#13) ∧
      (let p := judged (tracking .permitted (some (pour1 false 0)));
        concerned p = some c ∧ reasonSet p c = 0#13 ∧ reasonSet (latched p) c ≠ 0#13) ∧
      (let h := judged (tracking .held (some (pour1 false 0)));
        concerned h = some c ∧ reasonSet h c = 0#13 ∧ reasonSet (stand h) c = 0#13) ∧
      (let g := judged (tracking .held (some (pour1 true 0)));
        concerned g = some { c with started := true } ∧ reasonSet g { c with started := true } = 0#13) ∧
      concerned (tracking .holdRequested (some (pour1 true 0))) = some { c with started := true } ∧
      (concerned waits = some ⟨planEntry plan 1, false, false, 0⟩ ∧
        hasReason (reasonSet waits ⟨planEntry plan 1, false, false, 0⟩) .stage = true ∧
        awaitsPlanned waits = true ∧ (evaluate waits).seq.core.suspend = .deadlock) := by decide +kernel

/-- A wait for a pour that no entry of the plan bears is not a deadlock (R142): with pour 2 held on STAGE, the wait for pour 1 is
one and the wait for pour 9 goes on, at the walk and at an evaluation. -/
theorem test_a_wait_for_a_pour_outside_the_plan_goes_on :
    let at' (n : Nat) (w : WaitReason) : State := sequencing
      { loading with tracker := { loading.tracker with pos := 1, lastReasons := Reason.stage.bit } }
      (program 0 [b1 3 ++ b2 n]) { SeqCore.fresh .running with wait := w }
    (takeStep (at' 1 .nothing)).1.seq.core.suspend = .deadlock ∧
      (takeStep (at' 9 .nothing)).1.seq.core.state = .running ∧ (takeStep (at' 9 .nothing)).1.seq.core.wait = .pour ∧
      (evaluate (at' 1 .pour)).seq.core.suspend = .deadlock ∧ (evaluate (at' 9 .pour)).seq.core.state = .running := by
  decide +kernel

/-- Each console state, an AUTO part with a valve in travel, and a part in reset; the grant condition as one flag. -/
theorem witness_AConsoleRequestIsGrantedWhenNothingMoves :
    let b := pumping loading .running .flowWatch
    let v := loading.setValve 0 (inTravel .opened)
    let asked (s : State) : State := { s with console := { s.console with state := .requested } }
    (b.console.state = .auto ∧ b.inputs.reset = false ∧
        (drivers.all fun d => (b.transfer d).state != .opening && (b.transfer d).state != .closing) = true ∧
        (∀ ch < 38, assigned b ch = true → (b.valve ch).state.moving = false) ∧ (b.transfer .p0).state = .running) ∧
      (v.console.state = .auto ∧ assigned v 0 = true ∧ (v.valve 0).state.moving = true) ∧
      ((granted loading).console.state ≠ .auto ∧ (inReset loading).inputs.reset = true) ∧
      ((asked b).console.state = .requested ∧ (asked v).console.state = .requested) := by decide +kernel

/-- A grant with a transfer handed over whose valves show OPEN and whose pump runs, one whose valves do not, and none. -/
def takenOver (open' : Bool) : State :=
  let s := granted (pumping loading .handedOver .off)
  let s1 := (s.setLimitInputs 1 open' (!open')).setLimitInputs 32 open' (!open')
  { s1 with console := { s1.console with handed := s1.console.handed.set .p0 (some 2) }, inputs := s1.inputs.setRunning .p0 true }

/-- A release: with nothing handed over, with a transfer that resumes and one that ends; a Sequencer saved RUNNING, at a DWELL and
at none; a valve that becomes FAULT; RECONCILING with a closing transfer, whose last valve then arrives. -/
theorem witness_AConsoleDropTakesBackThePart :
    let rec' (s : State) (c : SeqCore) : State :=
      { s with console := { s.console with state := .reconciling }, seq := { s.seq with saved := some c } }
    let closing := (granted ((loading.setTransfer .g0 (moving .closing .link 1)).setValve 0 (inTravel .closed)))
    let running : SeqCore := { SeqCore.fresh .running with dwell := 5 }
    ({ loading.console with state := .requested } : Console).state = .requested ∧ loading.console.state = .auto ∧
      ((granted loading).console.state = .granted ∧ (granted loading).seq.saved = some (SeqCore.fresh .ready) ∧
        (drivers.all fun d => ((granted loading).console.handed.get d).isNone && !(granted loading).console.closing.get d) = true) ∧
      ((takenOver true).console.state = .granted ∧ ((takenOver true).console.handed.get .p0).isSome ∧
        tankValve (takenOver true) .p0 = 1 ∧ feedback (takenOver true) 1 = .opened ∧ feedback (takenOver true) 32 = .opened ∧
        ((takenOver true).valve 1).state ≠ .fault ∧ ((takenOver true).valve 32).state ≠ .fault ∧
        (takenOver true).inputs.running .p0 = true) ∧
      (((takenOver false).console.handed.get .p0).isSome ∧ feedback (takenOver false) 1 = .closed) ∧
      (feedback (takenOver true) 0 = .closed ∧ assigned (takenOver true) 0 = true ∧
        feedback ((takenOver true).setLimitInputs 0 true true) 0 = .both ∧ (takenOver true).links.enables.getLsbD 0 = true) ∧
      ((rec' loading running).console.state = .reconciling ∧ running.state = .running ∧ closingEmpty (rec' loading running) = true) ∧
      (stepAt (program 0 [b1 4 ++ b2 20]) 0 = .dwell 20 ∧ running.dwell ≠ 0 ∧ (SeqCore.fresh .running).dwell = 0) ∧
      (assigned closing 0 = true ∧ (closing.valve 0).state = .closing ∧ (closing.valve 0).commanded = .closed ∧
        holderOf closing 0 = some .g0 ∧ (closing.transfer .g0).state = .closing ∧ closing.seq.core.state = .yielded ∧
        ((closing.setValve 0 (atEnd .closed)).valve (tankValve closing .g0)).state.done = true ∧
        (closing.valve Driver.g0.lineValve).state.done = true) := by decide +kernel

/-- A history of one record; each operation state; a report of one page. -/
theorem witness_ReportsAreBuiltAndFetchedByPage :
    let h : State := { loading with tracker := { loading.tracker with history := [record1] } }
    let r : Report := ⟨.pour, some 1, 0, [.raw (rowsOf 2)]⟩
    let built : State := { loading with records := { loading.records with report := some r } }
    (Ready .ship h ∧ h.tracker.history[(1#8 : Byte).toNat - 1]? = some record1 ∧ h.tracker.history.length < (2#8 : Byte).toNat) ∧
      (Ready .ship valid ∧ valid.tracker.op = .idle) ∧ loading.tracker.op ≠ .idle ∧
      ({ loading.tracker with op := .complete } : Tracker).op = .complete ∧ 128 < (129#8 : Byte).toNat ∧
      (Ready .ship built ∧ built.records.report = some r ∧ r.pages = 1) ∧ loading.records.report = none := by decide +kernel

def entry1 (tank volume : Nat) : LogEntry :=
  { number := 1, tank := tank, out := true, method := .driver .p0, startTime := 0, endTime := 9, volume := volume, basis := .gauge
    disagree := false, notClosed := false, merged := false, merges := 0, density := 1025 }

/-- An empty candidate; a log with room; a full log with an entry of the same means, of other means, and of other tanks; a total
at its end; a CLOSING transfer whose valves are CLOSED. -/
theorem witness_TheLogEntersItsCandidates :
    let full : List LogEntry := List.replicate 128 (entry1 1 10)
    let closed := loading.setTransfer .g0 (moving .closing .link 1)
    (entry1 1 0).volume = 0 ∧ (entry1 1 10).volume ≠ 0 ∧ State.reset.records.log.length < 128 ∧ 128 ≤ full.length ∧
      full = List.replicate 127 (entry1 1 10) ++ entry1 1 10 :: [] ∧ ({ entry1 1 10 with method := .hand } : LogEntry).method ≠ (entry1 1 10).method ∧
      (∀ x ∈ full, ¬ (x.tank = (entry1 2 10).tank ∧ x.out = (entry1 2 10).out)) ∧
      full = [] ++ entry1 1 10 :: [] ++ entry1 1 10 :: List.replicate 126 (entry1 1 10) ∧
      (0#48).toNat + (2 ^ 48 - 1) < 2 ^ 48 ∧
      ((closed.transfer .g0).state = .closing ∧ (closed.valve (tankValve closed .g0)).state.done = true ∧
        (closed.valve Driver.g0.lineValve).state.done = true) := by decide +kernel

/-- Each query's hypotheses: a tank, a valve, a record, an entry of the log, and places at the ends of their ranges, and just
outside them. -/
theorem witness_QueriesReplyAndChangeNothing :
    (Ready .ship valid ∧ valid.store.dataState = .valid ∧ valid.store.tables.isBallast (2#8 : Byte).toNat = true ∧
      valid.gaugeRec 2 = some (good 30000) ∧ namedValve valid (48#8 : Byte).toNat = some 32 ∧ (63#8 : Byte).toNat < 64 ∧
      (95#8 : Byte).toNat < 96 ∧ ([record1].filter fun x => x.pour == 1).getLast? = some record1 ∧
      [entry1 1 10][(1#8 : Byte).toNat - 1]? = some (entry1 1 10)) ∧
      (Ready .ship (windowed 10 .uncommitted) ∧ (windowed 10 .uncommitted).store.dataState ≠ .valid) ∧
      (valid.store.tables.isBallast (3#8 : Byte).toNat = false ∧ namedValve valid (54#8 : Byte).toNat = none) ∧
      (5 < (6#8 : Byte).toNat ∧ 63 < (64#8 : Byte).toNat ∧ 95 < (96#8 : Byte).toNat) ∧
      (valid.records.log.length < (1#8 : Byte).toNat ∧ valid.tracker.history = [] ∧ 999 < 1000) ∧
      (Ready .shore valid ∧ ¬ ([] : List Byte).length = 1 ∧ ([] : List Byte).length ≤ maxArgs) := by decide +kernel

theorem witness_EveryStepKeepsTheLatchAndTheLine :
    let b : State := { latchedOnce with limits := { latchedOnce.limits with watch := .breach }, pending := [.stpr .ship []] }
    (LineFollows loading ∧ BreachLatched loading ∧ LatchHasCause loading) ∧
      LineFollows b ∧ BreachLatched b ∧ LatchHasCause b ∧ ∃ t, step b = .next t := by
  refine ⟨⟨?_, ?_, ?_⟩, ?_, ?_, ?_, ⟨_, rfl⟩⟩
  · exact (by decide +kernel : loading.limits.pourEnable = (loading.tracker.op == .loading && !loading.limits.latch))
  · intro h; exact absurd h (by decide +kernel)
  · exact (by decide +kernel : loading.limits.latch = false)
  · exact (by decide +kernel : latchedOnce.limits.pourEnable = (latchedOnce.tracker.op == .loading && !latchedOnce.limits.latch))
  · intro _; rfl
  · exact (by decide +kernel : latchedOnce.limits.latch = true)

theorem witness_EveryStepKeepsTheConsoleAndTheSequencerTogether :
    ConsoleConsistent (granted loading) ∧ ConsoleConsistent loading ∧
      ∃ t, step { granted loading with pending := [.consoleRequestDrop] } = .next t := by
  refine ⟨⟨rfl, ?_, ?_, ?_⟩, ⟨rfl, ?_, ?_, ?_⟩, ⟨_, rfl⟩⟩
  · decide +kernel
  · decide +kernel
  · rintro c ⟨⟩; decide
  · decide +kernel
  · decide +kernel
  · rintro c ⟨⟩

/-- A log of one entry with its total, a full queue, a full history and a window at its end. -/
theorem witness_EveryStepKeepsTheAccountAndTheSizes :
    let s : State :=
      { windowed 15 .valid with
        records := valid.records.enter (entry1 1 10), links := { valid.links with queue := List.replicate 16 (.pres 1 5) }
        tracker := { valid.tracker with history := List.replicate 128 record1 } }
    AccountBalances s ∧ SizesBounded s ∧ ∃ t, step s = .next t := by
  refine ⟨?_, ⟨?_, ?_, ?_⟩, ⟨_, rfl⟩⟩
  · have h : ∀ tank < 48, ∀ out, (total (valid.records.enter (entry1 1 10)) tank out).toNat =
        (((valid.records.enter (entry1 1 10)).log.filter fun e => e.tank == tank && e.out == out).map LogEntry.volume).sum := by
      decide +kernel
    exact fun tank ht out _ => h tank ht out
  · decide +kernel
  · decide +kernel
  · rintro w ⟨⟩; decide

/-- The reasons of a pour not started, with no condition published and with one. -/
theorem witness_EachReasonHoldsByItsRule :
    let c : Concerned := ⟨planEntry plan 1, false, false, 0⟩
    hasReason (reasonSet loading c) .stage = true ∧ hasReason (reasonSet loading c) .noCondition = true ∧
      hasReason (reasonSet (judged loading) c) .noCondition = false := by decide +kernel

end Sys2Proof.Tests
end

section
/-! PROOF. The statements about the Ship Data Store (spec/01_ship_data.md): the table window and its requests, and what puts
the tables in force and takes them out of it. -/

namespace Sys2Proof.ShipData

open Sys2Proof.Machine

/-! ## A request of the ship link -/

/-- The reply of a message is the one that the statements speak of (R199). -/
theorem answer_eq_replied (l : Link) (m : Mnem) (a : Answer) :
    answer l m a = replied l m a.code a.data a.state := rfl

/-- A request of a ready ship link is answered by the rule `f` of its message (R198, R199). -/
theorem exec_answers (m : Mnem) (f : List Byte → State → Answer) (hl : m.ofLink .ship = true)
    (hf : ∀ args u, perform m .ship args u = answer .ship m (f args u)) {args : List Byte} {s : State} {a : Answer}
    (hr : Ready .ship s) (ha : args.length ≤ maxArgs) (h : f args (taken .ship m args s) = a) :
    exec (m.command .ship args) s = .next (replied .ship m a.code a.data a.state) := by
  rw [exec_ready m .ship args s hr ha hl, hf, h, answer_eq_replied]

theorem exec_wsel {args : List Byte} {s : State} {a : Answer} (hr : Ready .ship s) (ha : args.length ≤ maxArgs)
    (h : wselMsg args (taken .ship .wsel args s) = a) :
    exec (.wsel .ship args) s = .next (replied .ship .wsel a.code a.data a.state) :=
  exec_answers .wsel wselMsg rfl (fun _ _ => rfl) hr ha h

theorem exec_wget {args : List Byte} {s : State} {a : Answer} (hr : Ready .ship s) (ha : args.length ≤ maxArgs)
    (h : wgetMsg args (taken .ship .wget args s) = a) :
    exec (.wget .ship args) s = .next (replied .ship .wget a.code a.data a.state) :=
  exec_answers .wget wgetMsg rfl (fun _ _ => rfl) hr ha h

theorem exec_wput {args : List Byte} {s : State} {a : Answer} (hr : Ready .ship s) (ha : args.length ≤ maxArgs)
    (h : wputMsg args (taken .ship .wput args s) = a) :
    exec (.wput .ship args) s = .next (replied .ship .wput a.code a.data a.state) :=
  exec_answers .wput wputMsg rfl (fun _ _ => rfl) hr ha h

/-! ## WSEL (R12) -/

theorem readArgs_span {code first count : Nat} (hc : code < 256) (hf : first < 65536) (hn : count < 65536) :
    readArgs [1, 2, 2] (toBE code 1 ++ toBE first 2 ++ toBE count 2) = some [code, first, count] := by
  rw [readArgs_eq _ _ (by simp), List.append_assoc, cutFields_append 1 _ _ _ (by omega),
    cutFields_append 2 _ _ _ (by omega), cutFields_one 2 _ (by omega)]

theorem wselMsg_opens {args : List Byte} {code first count : Nat} {t : TableId} (u : State)
    (h : readArgs [1, 2, 2] args = some [code, first, count]) (ht : TableId.ofCode code = some t) (h1 : 1 ≤ count)
    (hr : first + count ≤ t.rows) :
    wselMsg args u = done { u with store := { u.store with window := some ⟨t, first, count, first⟩ } } [] := by
  simp only [wselMsg, h, ht, if_pos (And.intro h1 hr)]; rfl

theorem wselMsg_range {args : List Byte} {code first count : Nat} (u : State)
    (h : readArgs [1, 2, 2] args = some [code, first, count])
    (hbad : TableId.ofCode code = none ∨ count = 0 ∨ ∃ t, TableId.ofCode code = some t ∧ t.rows < first + count) :
    wselMsg args u = refuse .range u := by
  simp only [wselMsg, h]
  split
  next t ht =>
    have : ¬ (1 ≤ count ∧ first + count ≤ t.rows) := by
      rcases hbad with hn | h0 | ⟨t', ht', hlt⟩
      · simp [ht] at hn
      · omega
      · obtain rfl : t = t' := by simpa [ht] using ht'
        omega
    rw [if_neg this]
  next => rfl

theorem wselMsg_length {args : List Byte} (u : State) (h : args.length ≠ 5) : wselMsg args u = refuse .length u := by
  simp only [wselMsg, readArgs_none [1, 2, 2] args h]

/-- Settles O16: WSEL is taken by the rule of R12, branch by branch. -/
theorem wselOpensTheWindow : Obligations.WselOpensTheWindow := by
  refine ⟨fun s code first count hr hc hf hn => ?_,
    otherFormsRefused _ _ rfl fun args u h => congrArg (answer .ship .wsel) (wselMsg_length u h), unknownOnShore _ rfl⟩
  have hargs := readArgs_span hc hf hn
  have hlen : (toBE code 1 ++ toBE first 2 ++ toBE count 2).length ≤ maxArgs := by simp [maxArgs]
  exact ⟨fun t ht h1 hrows => exec_wsel hr hlen (wselMsg_opens _ hargs ht h1 hrows),
    fun hbad => exec_wsel hr hlen (wselMsg_range _ hargs hbad)⟩

/-! ## WGET (R14) -/

/-- What a row is read as depends on the tables and the two standby banks. -/
theorem readRow_congr {s t : State} (h : s.store.tables = t.store.tables) (hq : s.seq.standby = t.seq.standby)
    (hp : s.tracker.standby = t.tracker.standby) (x : TableId) (i : Nat) : readRow s x i = readRow t x i := by
  cases x <;> simp only [readRow, h, hq, hp]

@[simp] theorem readRow_taken (l : Link) (m : Mnem) (args : List Byte) (s : State) (x : TableId) (i : Nat) :
    readRow (taken l m args s) x i = readRow s x i :=
  readRow_congr (by rw [taken_store]) (by rw [taken_seq]) (by rw [taken_tracker]) x i

theorem inRange_iff {lo hi n : Nat} : inRange lo hi n = true ↔ lo ≤ n ∧ n ≤ hi := by simp [inRange]

theorem inRange_eq_false_iff {lo hi n : Nat} : inRange lo hi n = false ↔ n < lo ∨ hi < n := by
  rw [← Bool.not_eq_true, inRange_iff]; omega

theorem wgetMsg_state {args : List Byte} {k : Nat} {u : State} (h : readOne 1 args = some k)
    (hw : u.store.window = none) : wgetMsg args u = refuse .state u := by
  simp only [wgetMsg, h, hw]

theorem wgetMsg_range {args : List Byte} {k : Nat} {u : State} {w : Window} (h : readOne 1 args = some k)
    (hw : u.store.window = some w) (hbad : k = 0 ∨ w.table.perRequest < k ∨ w.first + w.count < w.pos + k) :
    wgetMsg args u = refuse .range u := by
  have : inRange 1 w.table.perRequest k = false ∨ w.finish < w.pos + k := by
    rw [inRange_eq_false_iff, Window.finish]; omega
  simp only [wgetMsg, h, hw, if_pos this]

theorem wgetMsg_reads {args : List Byte} {k : Nat} {u : State} {w : Window} (h : readOne 1 args = some k)
    (hw : u.store.window = some w) (h1 : 1 ≤ k) (hk : k ≤ w.table.perRequest) (hend : w.pos + k ≤ w.first + w.count) :
    wgetMsg args u = done { u with store := { u.store with window := some { w with pos := w.pos + k } } }
      [.num w.pos, .raw ((List.range k).flatMap fun i => readRow u w.table (w.pos + i))] := by
  have : ¬ (inRange 1 w.table.perRequest k = false ∨ w.finish < w.pos + k) := by
    rw [inRange_eq_false_iff, Window.finish]; omega
  simp only [wgetMsg, h, hw, if_neg this]; rfl

theorem wgetMsg_length {args : List Byte} (u : State) (h : args.length ≠ 1) : wgetMsg args u = refuse .length u := by
  simp only [wgetMsg, readOne_none 1 args h]

/-- Settles O18: WGET is taken by the rule of R14, branch by branch. -/
theorem wgetReadsRowsAndAdvances : Obligations.WgetReadsRowsAndAdvances := by
  refine ⟨fun s k hr hk => ?_,
    otherFormsRefused _ _ rfl fun args u h => congrArg (answer .ship .wget) (wgetMsg_length u h), unknownOnShore _ rfl⟩
  have harg : readOne 1 (toBE k 1) = some k := readOne_toBE 1 k hk
  have hlen : (toBE k 1).length ≤ maxArgs := by rw [toBE_length]; decide
  have hstore : (taken .ship .wget (toBE k 1) s).store = s.store := taken_store ..
  refine ⟨fun hw => exec_wget hr hlen (wgetMsg_state harg (by rw [hstore, hw])),
    fun w hw => ⟨fun hbad => exec_wget hr hlen (wgetMsg_range harg (by rw [hstore, hw]) hbad), fun h1 hper hend => ?_⟩⟩
  have := exec_wget hr hlen (wgetMsg_reads harg (by rw [hstore, hw]) h1 hper hend)
  simpa only [readRow_taken, done] using this

/-! ## Rows of the tables (R13) -/

theorem rowOf_cells {n : Nat} {bs : List Byte} (h : bs.length = n) : (rowOf n bs).cells = bs := by
  refine List.ext_getElem (by simp [rowOf, Tab.build, h]) fun i _ hi => ?_
  simp [rowOf, Tab.build, hi]

theorem rowBytes_set {n k : Nat} (t : Tab n (Tab k Byte)) (i j : Nat) (r : Tab k Byte) :
    rowBytes (t.set i r) j = if i = j ∧ j < n then r.cells else rowBytes t j := by
  have ht := t.full
  simp only [rowBytes, Tab.get?, Tab.set, List.getElem?_set]
  by_cases hij : i = j
  · subst hij
    by_cases hi : i < n <;> simp [hi, ht]
  · simp [hij]

theorem readRow_writeRow_same {t : TableId} {i : Nat} {bs : List Byte} (s : State) (hi : i < t.rows)
    (hb : bs.length = t.rowSize) : readRow (writeRow s t i bs) t i = bs := by
  cases t <;> exact (rowBytes_set ..).trans ((if_pos ⟨rfl, hi⟩).trans (rowOf_cells hb))

theorem readRow_writeRow_other {t x : TableId} {i j : Nat} (s : State) (bs : List Byte) (h : ¬ (x = t ∧ j = i)) :
    readRow (writeRow s t i bs) x j = readRow s x j := by
  by_cases hx : x = t
  · subst hx
    have hij : ¬ i = j := fun e => h ⟨rfl, e.symm⟩
    cases x <;> exact (rowBytes_set ..).trans (if_neg fun e => hij e.1)
  · -- two different tables are two different fields of the part
    cases t <;> cases x <;> first | rfl | exact absurd rfl hx

/-- Rows outside those written stay as they were. -/
theorem readRow_writeRows_other {t x : TableId} {j : Nat} : ∀ (k i : Nat) (bs : List Byte) (s : State),
    ¬ (x = t ∧ i ≤ j ∧ j < i + k) → readRow (writeRows t k i bs s) x j = readRow s x j
  | 0, _, _, _, _ => rfl
  | k + 1, i, bs, s, h => by
    rw [writeRows, readRow_writeRows_other k (i + 1) _ _ (by rintro ⟨rfl, h1, h2⟩; exact h ⟨rfl, by omega, by omega⟩),
      readRow_writeRow_other _ _ (by rintro ⟨rfl, rfl⟩; exact h ⟨rfl, by omega, by omega⟩)]

/-- The rows written hold the bytes carried, in order. -/
theorem readRow_writeRows_written {t : TableId} : ∀ (k i : Nat) (bs : List Byte) (s : State) (n : Nat),
    i + k ≤ t.rows → bs.length = k * t.rowSize → n < k →
    readRow (writeRows t k i bs s) t (i + n) = (bs.drop (n * t.rowSize)).take t.rowSize
  | 0, _, _, _, _, _, _, hn => absurd hn (Nat.not_lt_zero _)
  | k + 1, i, bs, s, 0, hi, hb, _ => by
    have hlen : (bs.take t.rowSize).length = t.rowSize := by
      rw [List.length_take, hb]; exact Nat.min_eq_left (Nat.le_mul_of_pos_left _ k.succ_pos)
    rw [writeRows, readRow_writeRows_other _ _ _ _ (by omega), Nat.add_zero,
      readRow_writeRow_same _ (by omega) hlen, Nat.zero_mul, List.drop_zero]
  | k + 1, i, bs, s, n + 1, hi, hb, hn => by
    have hlen : (bs.drop t.rowSize).length = k * t.rowSize := by
      rw [List.length_drop, hb, Nat.succ_mul, Nat.add_sub_cancel]
    rw [writeRows, Nat.add_comm n 1, ← Nat.add_assoc,
      readRow_writeRows_written k (i + 1) _ _ n (by omega) hlen (by omega), List.drop_drop, Nat.add_mul, Nat.one_mul]

/-- The state with the tables and the two standby banks of another. -/
def withRows (s r : State) : State :=
  { s with
    store := { s.store with tables := r.store.tables }, seq := { s.seq with standby := r.seq.standby }
    tracker := { s.tracker with standby := r.tracker.standby } }

theorem writeRow_only (s : State) (t : TableId) (i : Nat) (bs : List Byte) :
    writeRow s t i bs = withRows s (writeRow s t i bs) := by
  cases t <;> rfl

/-- Writing rows changes nothing but the tables and the standby banks. -/
theorem writeRows_only (t : TableId) : ∀ (k i : Nat) (bs : List Byte) (s : State),
    writeRows t k i bs s = withRows s (writeRows t k i bs s)
  | 0, _, _, _ => rfl
  | k + 1, i, bs, s => by
    rw [writeRows, writeRows_only t k, writeRow_only s]; rfl

theorem writeRow_shipData {t : TableId} (h : t.shipData = true) (s : State) (i : Nat) (bs : List Byte) :
    writeRow s t i bs = s.setStore { s.store with tables := (writeRow s t i bs).store.tables } := by
  cases t with
  | t8 | t9 => exact absurd h (by decide)
  | _ => rfl

/-- Writing rows of T0 to T6 changes nothing but the tables. -/
theorem writeRows_shipData {t : TableId} (h : t.shipData = true) : ∀ (k i : Nat) (bs : List Byte) (s : State),
    writeRows t k i bs s = s.setStore { s.store with tables := (writeRows t k i bs s).store.tables }
  | 0, _, _, _ => rfl
  | k + 1, i, bs, s => by
    rw [writeRows, writeRows_shipData h k, writeRow_shipData h s]; rfl

/-! ## The storing of rows (R13, R15) -/

/-- What the Ship Data Store holds after an accepted WPUT (R13). -/
theorem storeRows_store (w : Window) (k : Nat) (bs : List Byte) (u : State) (hd : u.store.dataState ≠ .checking) :
    (storeRows w k bs u).store = { u.store with
      tables := (writeRows w.table k w.pos bs u).store.tables, window := some { w with pos := w.pos + k }
      dataState := if w.table.shipData then .uncommitted else u.store.dataState } := by
  rw [storeRows, writeRows_only]
  by_cases h : w.table.shipData = true
  · simp only [if_pos h, uncommit, State.setStore, withRows]
    cases hu : u.store.dataState with
    | checking => exact absurd hu hd
    | valid => simp
    | uncommitted => simp
    | invalid => rfl
  · simp only [if_neg h]; rfl

/-- Outside VALID, and to T8 and T9, an accepted WPUT changes the store and the standby banks alone (R13). -/
theorem storeRows_quiet (w : Window) (k : Nat) (bs : List Byte) (u : State)
    (h : ¬ (w.table.shipData = true ∧ u.store.dataState = .valid)) :
    storeRows w k bs u = { u with
      store := (storeRows w k bs u).store, seq := { u.seq with standby := (storeRows w k bs u).seq.standby }
      tracker := { u.tracker with standby := (storeRows w k bs u).tracker.standby } } := by
  rw [storeRows, writeRows_only]
  by_cases hs : w.table.shipData = true
  · simp only [if_pos hs, uncommit, State.setStore, withRows]
    cases hu : u.store.dataState with
    | checking => rfl
    | valid => exact absurd ⟨hs, hu⟩ h
    | uncommitted => rfl
    | invalid => rfl
  · simp only [if_neg hs]; rfl

/-- An accepted WPUT to T0 to T6 in VALID withdraws the tables from force (R15). -/
theorem storeRows_withdraws (w : Window) (k : Nat) (bs : List Byte) (u : State) (hs : w.table.shipData = true)
    (hv : u.store.dataState = .valid) : WithdrawsTables u (storeRows w k bs u) := by
  rw [storeRows, writeRows_shipData hs]
  simp only [if_pos hs, uncommit, State.setStore, hv]
  exact withdrawData_withdraws u _ nofun

/-- The rows read after an accepted WPUT are those written (R13, R14). -/
theorem readRow_storeRows (w : Window) (k : Nat) (bs : List Byte) (u : State) (x : TableId) (i : Nat) :
    readRow (storeRows w k bs u) x i = readRow (writeRows w.table k w.pos bs u) x i := by
  rw [storeRows]
  split
  · unfold uncommit
    split <;> exact readRow_congr (by simp) (by simp) (by simp) x i
  · rfl

/-! ## WPUT (R13) -/

theorem allIdle_iff {s : State} : allIdle s = true ↔ AllIdle s := by
  rw [allIdle, List.all_eq_true]
  exact ⟨fun h d => by simpa using h d (by cases d <;> decide), fun h d _ => by simpa using h d⟩

@[simp] theorem transfer_taken (l : Link) (m : Mnem) (args : List Byte) (s : State) (d : Driver) :
    (taken l m args s).transfer d = s.transfer d := State.transfer_congr (by rw [taken_xfer]) d

theorem allIdle_taken (l : Link) (m : Mnem) (args : List Byte) (s : State) :
    allIdle (taken l m args s) = allIdle s := by simp only [allIdle, transfer_taken]

/-- Checks 4 to 6 of a WPUT do not read the links. -/
theorem writeRefusal_taken (l : Link) (m : Mnem) (args : List Byte) (s : State) (t : TableId) :
    writeRefusal (taken l m args s) t = writeRefusal s t := by
  simp only [writeRefusal, allIdle_taken, taken_tracker, taken_console]

theorem writeRefusal_loading {s : State} {t : TableId} (ht : t.shipData = true) (ho : s.tracker.op = .loading) :
    writeRefusal s t = some .state := if_pos ⟨ht, ho⟩

theorem writeRefusal_moving {s : State} {t : TableId} (ht : t.shipData = true) (ho : s.tracker.op ≠ .loading)
    (hb : (∃ d : Driver, (s.transfer d).state ≠ .idle) ∨ s.console.state ≠ .auto) : writeRefusal s t = some .busy := by
  have : allIdle s = false ∨ s.console.state ≠ .auto :=
    hb.imp_left fun ⟨d, hd⟩ => by rw [← Bool.not_eq_true, allIdle_iff]; exact fun h => hd (h d)
  rw [writeRefusal, if_neg fun h => ho h.2, if_pos ⟨ht, this⟩]

theorem writeRefusal_exchange {s : State} (h : s.tracker.exchange = true) : writeRefusal s .t9 = some .busy := by
  simp [writeRefusal, TableId.shipData, h]

theorem writeRefusal_none {s : State} {t : TableId}
    (hs : t.shipData = true → s.tracker.op ≠ .loading ∧ AllIdle s ∧ s.console.state = .auto)
    (hx : t = .t9 → s.tracker.exchange = false) : writeRefusal s t = none := by
  rw [writeRefusal, if_neg fun h => (hs h.1).1 h.2, if_neg, if_neg]
  · rintro ⟨rfl, he⟩; rw [hx rfl] at he; exact absurd he (by decide)
  · rintro ⟨ht, hb⟩
    obtain ⟨-, hi, hc⟩ := hs ht
    rw [allIdle_iff.2 hi] at hb
    exact hb.elim (by decide) (· hc)

/-- The payload is whole rows, at least one and at most as many as one request carries (R13, check 2). -/
def WholeRows (t : TableId) (args : List Byte) : Prop :=
  args.length % t.rowSize = 0 ∧ 1 ≤ args.length / t.rowSize ∧ args.length / t.rowSize ≤ t.perRequest

theorem wholeRows_iff {t : TableId} {args : List Byte} :
    ¬ (args.length % t.rowSize ≠ 0 ∨ inRange 1 t.perRequest (args.length / t.rowSize) = false) ↔ WholeRows t args := by
  rw [inRange_eq_false_iff, WholeRows]; omega

section
variable {args : List Byte} {u : State} {w : Window}

theorem wputMsg_state (hw : u.store.window = none) : wputMsg args u = refuse .state u := by
  simp only [wputMsg, hw]

theorem wputMsg_length (hw : u.store.window = some w) (h : ¬ WholeRows w.table args) :
    wputMsg args u = refuse .length u := by
  simp only [wputMsg, hw, if_pos (not_not.1 (mt wholeRows_iff.1 h))]

theorem wputMsg_range (hw : u.store.window = some w) (h : WholeRows w.table args)
    (hend : w.first + w.count < w.pos + args.length / w.table.rowSize) : wputMsg args u = refuse .range u := by
  simp only [wputMsg, hw, if_neg (wholeRows_iff.2 h), if_pos (show w.finish < _ from hend)]

theorem wputMsg_refused (hw : u.store.window = some w) (h : WholeRows w.table args)
    (hend : w.pos + args.length / w.table.rowSize ≤ w.first + w.count) {code : ReplyCode}
    (hc : writeRefusal u w.table = some code) : wputMsg args u = refuse code u := by
  simp only [wputMsg, hw, if_neg (wholeRows_iff.2 h), if_neg (show ¬ w.finish < _ from Nat.not_lt.2 hend), hc]

theorem wputMsg_stores (hw : u.store.window = some w) (h : WholeRows w.table args)
    (hend : w.pos + args.length / w.table.rowSize ≤ w.first + w.count) (hc : writeRefusal u w.table = none) :
    wputMsg args u = done (storeRows w (args.length / w.table.rowSize) args u)
      [.num ((w.pos + args.length / w.table.rowSize : Nat) : Int)] := by
  simp only [wputMsg, hw, if_neg (wholeRows_iff.2 h), if_neg (show ¬ w.finish < _ from Nat.not_lt.2 hend), hc]; rfl

end

/-- Settles O17: WPUT is refused by the first check that fails, and an accepted one is `storeRows`. -/
theorem wputWritesItsRows : Obligations.WputWritesItsRows := by
  refine ⟨fun s args hr ha => ?_, fun s w args hr ha hw hrows => ?_, unknownOnShore _ rfl⟩
  · have hstore : (taken .ship .wput args s).store = s.store := taken_store ..
    refine ⟨fun hw => exec_wput hr ha (wputMsg_state (by rw [hstore, hw])), fun w hw => ?_⟩
    have hw' : (taken .ship .wput args s).store.window = some w := by rw [hstore, hw]
    refine ⟨fun h => exec_wput hr ha (wputMsg_length hw' h), fun h hend => exec_wput hr ha (wputMsg_range hw' h hend),
      fun h hend => ?_⟩
    have refuses {code : ReplyCode} (hc : writeRefusal s w.table = some code) :
        exec (.wput .ship args) s = .next (refused .ship .wput code args s) :=
      exec_wput hr ha (wputMsg_refused hw' h hend ((writeRefusal_taken ..).trans hc))
    exact ⟨fun ht ho => refuses (writeRefusal_loading ht ho), fun ht ho hb => refuses (writeRefusal_moving ht ho hb),
      fun ht he => refuses (ht ▸ writeRefusal_exchange he)⟩
  · intro k hmod h1 hk hend hs hx u
    have hstore : u.store = s.store := taken_store ..
    have hlen : args.length = k * w.table.rowSize := (Nat.div_mul_cancel (Nat.dvd_of_mod_eq_zero hmod)).symm
    refine ⟨storeRows w k args u, exec_wput hr ha (wputMsg_stores (by rw [taken_store, hw]) ⟨hmod, h1, hk⟩ hend
      ((writeRefusal_taken ..).trans (writeRefusal_none hs hx))), ?_, fun hq => ?_, fun ht hv => ?_, fun i hi => ?_,
      fun x i hi => ?_⟩
    · obtain ⟨-, -, -, -, hd, -⟩ := hr
      rw [storeRows_store w k args u (hstore ▸ hd), hstore]
    · exact storeRows_quiet w k args u (hstore ▸ hq)
    · exact storeRows_withdraws w k args u ht (hstore ▸ hv)
    · rw [readRow_storeRows, readRow_writeRows_written k w.pos args u i (by omega) hlen hi]
    · rw [readRow_storeRows, readRow_writeRows_other k w.pos args u hi, readRow_taken]

/-! ## Tables coming into force (R19, R21, R22, R40, R75, R98) -/

/-- Where no assignment is lost, the assignments settle by their gains alone (R96, R98). -/
theorem settleAssignments_gains {before x : State} (h : ∀ ch, assigned before ch = true → assigned x ch = true) :
    GainsValves before x (settleAssignments before x) := by
  have hkeep : ∀ ch, dropAssignment before x ch = x := fun ch => if_neg fun ⟨hb, hn, _⟩ => hn (h ch hb)
  have hdrop : dropAssignments before x = x := List.foldl_fixed' hkeep channels
  rw [settleAssignments, hdrop]
  exact gainAssignments_gains before x

/-- A gauge record at a successful commit, or at the end of a verification (R40). -/
theorem committed_eq (ρ : Nat) (old : Option GaugeRec) : GaugeRec.committed ρ old = { GaugeRec.unread ρ with
    changed := (old.map GaugeRec.changed).getD false, unexplained := (old.map GaugeRec.unexplained).getD 0 } := by
  cases old <;> rfl

theorem committedRecs_get (T : Tables) (s : State) {c : Nat} (hc : c < 48) :
    (committedRecs T s.gauge.recs).get c =
      if T.isBallast c then
        some { GaugeRec.unread T.density with
          changed := ((s.gaugeRec c).map GaugeRec.changed).getD false
          unexplained := ((s.gaugeRec c).map GaugeRec.unexplained).getD 0 }
      else none := by
  rw [committedRecs, Tab.get_build _ _ hc, committed_eq]; rfl

theorem defaultFixed_get (T : Tables) {c : Nat} (hc : c < 48) :
    (defaultFixed T).get c = if T.isFixed c then T.rowMass c else 0 := Tab.get_build _ _ hc

/-- The part with the gauge records and the FIXED masses of the tables in its store (R40, R75). -/
def withDefaults (s : State) : State :=
  { s with
    gauge := { s.gauge with recs := committedRecs s.store.tables s.gauge.recs, swept := false }
    engine := { s.engine with fixed := defaultFixed s.store.tables } }

/-- Tables that come into force with no assignment lost: the gains of assignment, the beginning of a sweep, and the refresh
mark under the mask of that sweep (R19, R21; log entry 29). -/
theorem enforceTables_gains_begins {before s : State} (hv : s.store.dataState = .valid)
    (ha : ∀ ch, assigned before ch = true → assigned s ch = true) :
    ∃ y t, GainsValves before (withDefaults s) y ∧ BeginsSweep y t ∧ enforceTables before s = setRefreshMark t :=
  ⟨settleAssignments before (withDefaults s), beginSweep (settleAssignments before (withDefaults s)),
    settleAssignments_gains ha, beginSweep_begins _ ((congrArg Store.dataState (settleAssignments_frame ..).1).trans hv), rfl⟩

/-! ## The verification (R21) -/

/-- No valve is assigned while the data is not VALID (R96). -/
theorem assigned_of_not_valid {s : State} (h : s.store.dataState ≠ .valid) (ch : Nat) : assigned s ch = false := by
  simp [assigned, dataValid, h]

theorem exec_verificationEnd_quiet {s : State} (h : s.inputs.reset = true ∨ s.store.dataState ≠ .checking) :
    exec .verificationEnd s = .next s := by
  show Host.Outcome.next (unlessHeld (fun s => if s.store.dataState = .checking then endVerification s else s) s) = _
  cases hr : s.inputs.reset with
  | true => rw [unlessHeld_held _ _ hr]
  | false => rw [unlessHeld_free _ _ hr, if_neg (h.resolve_left (by simp [hr]))]

theorem exec_verificationEnd_ends {s : State} (hr : s.inputs.reset = false) (hc : s.store.dataState = .checking) :
    exec .verificationEnd s = .next (endVerification s) := by
  show Host.Outcome.next (unlessHeld (fun s => if s.store.dataState = .checking then endVerification s else s) s) = _
  rw [unlessHeld_free _ _ hr, if_pos hc]

/-- The fault of a verification: the checksum's before the first failure of the checks (R21). -/
theorem verificationFault_some {d : Store} {f : FaultRecord}
    (h : (d.tables.checksum ≠ d.checksum ∧ f = ⟨.corrupt, none, none, 0⟩) ∨
      (d.tables.checksum = d.checksum ∧ FirstFailure d.tables f)) : verificationFault d = some f := by
  rcases h with ⟨hne, rfl⟩ | ⟨heq, hf⟩
  · exact if_pos hne
  · rw [verificationFault, if_neg (not_not.2 heq), firstFault_some_iff.2 hf]

theorem verificationFault_none {d : Store} (h : d.tables.checksum = d.checksum) (hp : ChecksPass d.tables) :
    verificationFault d = none := by
  rw [verificationFault, if_neg (not_not.2 h), firstFault_none_iff.2 hp]

/-- Settles O15: a verification ends INVALID by its fault, or VALID with the tables coming into force. -/
theorem verificationEndsValidOrInvalid : Obligations.VerificationEndsValidOrInvalid := by
  refine fun s => ⟨exec_verificationEnd_quiet, fun hr hc => ⟨fun f hf => ?_, fun hsum hpass => ?_⟩⟩
  · rw [exec_verificationEnd_ends hr hc, endVerification, verificationFault_some hf]; rfl
  · have hnone : ∀ ch, assigned s ch = true → assigned (validate s.store.checksum s) ch = true := fun ch h => by
      rw [assigned_of_not_valid (by rw [hc]; decide)] at h; exact absurd h (by decide)
    obtain ⟨y, t, hy, ht, he⟩ := enforceTables_gains_begins (s := validate s.store.checksum s) rfl hnone
    refine ⟨_, _, y, t, fun c hc => committedRecs_get s.store.tables s hc, fun c hc => defaultFixed_get s.store.tables hc,
      hy, ht, ?_⟩
    rw [exec_verificationEnd_ends hr hc, endVerification, verificationFault_none hsum hpass]
    exact congrArg (fun x => Host.Outcome.next (settle s x)) he

/-! ## The commit (R16 to R20) -/

theorem sdcm_refused {s : State} {args : List Byte} {code : ReplyCode} (h : sdcmRefusal args s = some code) :
    perform .sdcm .ship args s = answer .ship .sdcm (refuse code s) := by
  simp only [perform, sdcmAct, h]

theorem sdcm_starts {s : State} (h : s.tracker.op ≠ .loading) :
    perform .sdcm .ship [] s = { s with store := { s.store with committing := true } } := by
  simp only [perform, sdcmAct, sdcmRefusal, if_neg h]; rfl

theorem exec_commitComplete_quiet {s : State} (h : s.store.committing = false) : exec .commitComplete s = .next s := by
  show Host.Outcome.next (commitEnds s) = _
  rw [commitEnds, h]; rfl

theorem exec_commitComplete_ends {s : State} (h : s.store.committing = true) :
    exec .commitComplete s = .next (serve .shore (completeCommit s)) := by
  show Host.Outcome.next (commitEnds s) = _
  rw [commitEnds, if_pos h]

/-- A commit that fails is answered with DATA and the fault record (R16, R20). -/
theorem completeCommit_fails {s : State} {f : FaultRecord} (h : FirstFailure s.store.tables f) :
    completeCommit s = replied .ship .sdcm .data
      [.dataState .invalid, .dataCause f.cause, natOr f.table, natOr f.row, .num f.check] (commitFails f (endCommit s)) := by
  have hs : (commitFails f (endCommit s)).store =
      { (endCommit s).store with dataState := .invalid, cause := some f.cause, fault := some f } := by
    unfold commitFails; split <;> simp [invalidate, State.setStore]
  simp only [completeCommit, firstFault_some_iff.2 h, refuseData, faultItems, hs, answer_eq_replied, refuse, natItem]

theorem commitFails_not_valid {s : State} (f : FaultRecord) (h : s.store.dataState ≠ .valid) :
    commitFails f s = invalidate f s := by simp [commitFails, dataValid, h]

theorem commitFails_valid {s : State} (f : FaultRecord) (h : s.store.dataState = .valid) :
    commitFails f s = settle s (withdrawData s (invalidate f s)) := by simp [commitFails, dataValid, h]

theorem serve_none {l : Link} {w : State} (h : (w.link l).waiting = none) : serve l w = w := by
  simp only [serve, h]

theorem serve_busy {l : Link} {w : State} {p : List Byte} (h : (w.link l).waiting = some p)
    (hb : (w.link l).current.isSome ∨ (w.link l).tx.isSome ∨ w.store.committing = true) : serve l w = w := by
  have : linkFree l w = false := by
    rcases hb with hb | hb | hb <;> simp [linkFree, Option.isNone_eq_false_iff.2, hb]
  simp only [serve, h, this]; rfl

theorem serve_takes {l : Link} {w : State} {p : List Byte} (h : (w.link l).waiting = some p)
    (hc : (w.link l).current = none) (ht : (w.link l).tx = none) (hk : w.store.committing = false) :
    serve l w = judgeRequest l p (w.setLink l { w.link l with waiting := none, current := some p }) := by
  simp [serve, h, linkFree, hc, ht, hk]

/-- Settles O19: SDCM starts a commit, and a commit that fails is `commitFails`. -/
theorem sdcmStartsACommitThatMayFail : Obligations.SdcmStartsACommitThatMayFail := by
  refine ⟨⟨fun s hr => ⟨fun ho => ?_, fun ho => ?_⟩,
      otherFormsRefused _ _ rfl fun args s h => sdcm_refused (if_pos h), unknownOnShore _ rfl⟩,
    fun s => exec_commitComplete_quiet, fun s f hk hf => ?_, fun l w => ⟨serve_none, fun p hp =>
      ⟨serve_busy hp, serve_takes hp⟩⟩⟩
  · have hop : (taken .ship .sdcm [] s).tracker.op = .loading := by rw [taken_tracker, ho]
    exact (exec_ready .sdcm .ship [] s hr (by decide) rfl).trans
      (congrArg _ (sdcm_refused ((if_neg (not_not.2 rfl)).trans (if_pos hop))))
  · exact (exec_ready .sdcm .ship [] s hr (by decide) rfl).trans (congrArg _ (sdcm_starts (by rw [taken_tracker]; exact ho)))
  · intro s0 failed replies
    have ends : replies (commitFails f s0) :=
      (exec_commitComplete_ends hk).trans (congrArg (fun x => Host.Outcome.next (serve .shore x)) (completeCommit_fails hf))
    refine ⟨fun hv => ?_, fun hv => ?_⟩
    · rw [commitFails_not_valid (s := s0) f hv] at ends; exact ends
    · rw [commitFails_valid (s := s0) f hv] at ends
      exact ⟨_, (withdrawData_frame ..).1, withdrawData_withdraws s0 failed nofun, ends⟩

/-! ## The checksum (R19) -/

/-- One shift of the CRC-32 register, least significant bit first. -/
def crcStep (c : BitVec 32) : BitVec 32 := if c.getLsbD 0 = true then (c >>> 1) ^^^ 0xEDB88320#32 else c >>> 1

theorem crc32Shift_eq_iterate : ∀ (n : Nat) (c : BitVec 32), crc32Shift n c = crcStep^[n] c
  | 0, _ => rfl
  | n + 1, c => crc32Shift_eq_iterate n (crcStep c)

/-- A byte enters the register by an exclusive or and eight shifts. -/
theorem crc32Byte_eq (c : BitVec 32) (b : Byte) :
    crc32Byte c b = (List.range 8).foldl (fun c _ => crcStep c) (c ^^^ b.setWidth 32) := by
  rw [List.foldl_const, List.length_range]; exact crc32Shift_eq_iterate 8 _

theorem checksum_eq (T : Tables) : T.checksum = ~~~ (T.allBytes.foldl
    (fun c b => (List.range 8).foldl (fun c _ => crcStep c) (c ^^^ b.setWidth 32)) 0xFFFFFFFF#32) := by
  simp only [Tables.checksum, crc32, funext fun c => funext (crc32Byte_eq c)]

/-! ## The commit that passes (R19) -/

/-- The limit status record withdrawn (R86). -/
def withdrawnLimits (l : Limits) : Limits :=
  { l with judgedSeq := 0, clearances := Tab.replicate 12 none, deepest := none, trim := none, flags := LimitFlags.clear }

/-- The limit status record after a commit that passes: withdrawn where the data was VALID (R95). -/
def commitLimits (s : State) : Limits := if s.store.dataState = .valid then withdrawnLimits s.limits else s.limits

/-- The links after a commit that passes: the LIMIT notice is raised where the data was VALID and a flag was set (R86). -/
def commitLinks (s : State) : Links :=
  if s.store.dataState = .valid ∧ s.limits.flags.any = true then
    (raise (limitDetail s.limits.flags s.limits.watch.cautionFlag { s with limits := withdrawnLimits s.limits }) s).links
  else s.links

/-- That the commit has ended does not bear on the notice. -/
theorem commitLinks_endCommit (s : State) : commitLinks (endCommit s) = commitLinks s :=
  if_congr Iff.rfl (raise_links_congr _ rfl) rfl

/-- The withdrawal of the limits in a commit of data that was VALID, on a part `e` with the limits and links of `s` (R86,
R95). -/
theorem limitsWithdraw_for_commit {s e : State} (hv : s.store.dataState = .valid) (hl : e.limits = s.limits)
    (hk : e.links = s.links) : limitsWithdraw e = { e with limits := commitLimits s, links := commitLinks s } := by
  have hlim : (limitsWithdraw e).limits = commitLimits s := by
    rw [limitsWithdraw_limits, commitLimits, if_pos hv, ← hl]; rfl
  have hlinks : (limitsWithdraw e).links = commitLinks s := by
    rw [limitsWithdraw_links e (withdrawnLimits e.limits) (limitsWithdraw_limits e), commitLinks, hl]
    by_cases ha : s.limits.flags.any = true
    · rw [if_pos ha, if_pos ⟨hv, ha⟩]; exact raise_links_congr _ hk
    · rw [if_neg ha, if_neg fun h => ha h.2, hk]
  rw [limitsWithdraw_eq, hlim, hlinks]

/-- The sweep, the engine and the console's snapshot after a commit that passes, before the tables come into force (R22, R79,
R173). -/
def clearedForCommit (s : State) : State :=
  { s with
    gauge := { s.gauge with
      sweeping := false, slot := 0, poll := none, countdown := none, readings := Tab.replicate 32 .notPolled }
    engine := ⟨none, none, false, none, none, 1, none, s.engine.fixed⟩
    console := { s.console with snapshot := none } }

/-- What a commit that passes resets beside the tables' own effects (R79, R95, R173). -/
theorem resetForCommit_eq (s : State) :
    resetForCommit s = { clearedForCommit s with limits := commitLimits s, links := commitLinks s } := by
  by_cases hv : s.store.dataState = .valid
  · have hd : dataValid s = true := by simp [dataValid, hv]
    rw [resetForCommit, if_pos hd, limitsWithdraw_for_commit hv] <;> rfl
  · have hd : ¬ dataValid s = true := by simp [dataValid, hv]
    rw [resetForCommit, if_neg hd, commitLimits, if_neg hv, commitLinks, if_neg fun h => hv h.1]; rfl

/-- A commit whose checks pass is answered with DONE and the checksum (R19). -/
theorem completeCommit_passes {s : State} (h : ChecksPass s.store.tables) :
    completeCommit s = replied .ship .sdcm .done [.num s.store.tables.checksum.toNat] (commitPasses (endCommit s)) := by
  have hs : (commitPasses (endCommit s)).store.checksum = s.store.tables.checksum := by
    simp [commitPasses, validate, endCommit]
  simp only [completeCommit, firstFault_none_iff.2 h, hs, answer_eq_replied, done, natItem]

/-- Settles O20: a commit that passes stores the checksum and brings the tables into force. -/
theorem aCommitThatPassesPutsTheTablesInForce : Obligations.ACommitThatPassesPutsTheTablesInForce := by
  refine ⟨checksum_eq, fun s hk hpass => ?_⟩
  have hreset : resetForCommit (endCommit s) = _ := resetForCommit_eq (endCommit s)
  rw [commitLinks_endCommit] at hreset
  have hkeep : ∀ ch, assigned (endCommit s) ch = true →
      assigned (validate s.store.tables.checksum (resetForCommit (endCommit s))) ch = true := fun ch h => by
    rw [hreset]; exact (Bool.and_eq_true_iff.1 h).2
  obtain ⟨y, t, hy, ht, he⟩ := enforceTables_gains_begins rfl hkeep
  rw [hreset] at hy
  refine ⟨_, _, y, t, fun c hc => committedRecs_get s.store.tables s hc, fun c hc => defaultFixed_get s.store.tables hc,
    hy, ht, ?_⟩
  rw [exec_commitComplete_ends hk, completeCommit_passes hpass]
  exact congrArg (fun x => Host.Outcome.next (serve .shore (replied .ship .sdcm .done _ (settle (endCommit s) x)))) he

end Sys2Proof.ShipData
end

section
/-! PROOF. The statements about gauging and the survey sweep (spec/02_gauging_and_the_survey_sweep.md): the masks and the
densities, the readings of a sweep, what a sweep end makes of the tanks, and the queries of the ship link. -/

namespace Sys2Proof.Survey

open Sys2Proof.Machine Sys2Proof.ShipData

/-! ## The rule of a request -/

/-- `f` is the rule of the ship link's request `m` (R198). -/
def RuleOf (m : Mnem) (f : List Byte → State → Answer) : Prop :=
  m.ofLink .ship = true ∧ ∀ args u, perform m .ship args u = answer .ship m (f args u)

section
variable {m : Mnem} {f : List Byte → State → Answer} {args : List Byte} {s : State}

theorem RuleOf.answers {a : Answer} (hf : RuleOf m f) (hr : Ready .ship s) (ha : args.length ≤ maxArgs)
    (h : f args (taken .ship m args s) = a) :
    exec (m.command .ship args) s = .next (replied .ship m a.code a.data a.state) :=
  exec_answers m f hf.1 hf.2 hr ha h

theorem RuleOf.replies {data : List Item} (hf : RuleOf m f) (hr : Ready .ship s) (ha : args.length ≤ maxArgs)
    (h : f args (taken .ship m args s) = done (taken .ship m args s) data) :
    exec (m.command .ship args) s = .next (replied .ship m .done data (taken .ship m args s)) :=
  hf.answers hr ha h

theorem RuleOf.refuses {code : ReplyCode} (hf : RuleOf m f) (hr : Ready .ship s) (ha : args.length ≤ maxArgs)
    (h : f args (taken .ship m args s) = refuse code (taken .ship m args s)) :
    exec (m.command .ship args) s = .next (refused .ship m code args s) :=
  hf.answers hr ha h

theorem RuleOf.refusesData (hf : RuleOf m f) (hr : Ready .ship s) (ha : args.length ≤ maxArgs)
    (h : f args (taken .ship m args s) = refuseData (taken .ship m args s)) :
    exec (m.command .ship args) s = .next (refusedData .ship m args s) :=
  hf.answers hr ha h

theorem RuleOf.otherForms {form : List Byte → Prop} (hf : RuleOf m f)
    (h : ∀ args u, ¬ form args → f args u = refuse .length u) : OtherFormsRefused m form :=
  otherFormsRefused m form hf.1 fun args u hn => by rw [hf.2, h args u hn]

end

theorem dataValid_iff {s : State} : dataValid s = true ↔ s.store.dataState = .valid := by simp [dataValid]

theorem dataValid_eq_false_iff {s : State} : dataValid s = false ↔ s.store.dataState ≠ .valid := by simp [dataValid]

/-! ## SMSK (R24) -/

theorem rule_smsk : RuleOf .smsk smskMsg := ⟨rfl, fun _ _ => rfl⟩

theorem smskMsg_stores (m : BitVec 32) (u : State) :
    smskMsg (toBE m.toNat 4) u = done { u with gauge := { u.gauge with nextMask := m } }
      [.raw (toBE m.toNat 4), .raw (toBE u.gauge.currentMask.toNat 4)] := by
  simp only [smskMsg, readOptional_toBE 4 m.toNat (by decide) m.isLt, BitVec.ofNat_toNat, BitVec.setWidth_eq]
  rfl

theorem smskMsg_reads (u : State) :
    smskMsg [] u = done u [.raw (toBE u.gauge.nextMask.toNat 4), .raw (toBE u.gauge.currentMask.toNat 4)] := rfl

theorem smskMsg_length {args : List Byte} (u : State) (h : ¬ (args = [] ∨ args.length = 4)) :
    smskMsg args u = refuse .length u := by
  rw [not_or] at h
  simp only [smskMsg, readOptional_none 4 args h.1 h.2]

/-- While the data is not VALID no sweep begins (R22). -/
theorem beginSweep_not_valid {s : State} (h : s.store.dataState ≠ .valid) : beginSweep s = s := by
  simp [beginSweep, dataValid, h]

/-- Settles O10: SMSK is taken by the rule of R24, branch by branch, and a sweep begins by `beginSweep_begins`. -/
theorem smskStoresTheNextMask : Obligations.SmskStoresTheNextMask := by
  refine ⟨fun s m hr => ?_, fun s hr => ?_,
    rule_smsk.otherForms fun args u h => smskMsg_length u h, unknownOnShore _ rfl,
    fun s => ⟨beginSweep_begins s, beginSweep_not_valid⟩⟩
  · exact rule_smsk.answers hr (by simp [maxArgs]) (smskMsg_stores m _)
  · exact rule_smsk.replies hr (by simp [maxArgs]) (smskMsg_reads _)

/-! ## TDEN (R32, R33) -/

theorem rule_tden : RuleOf .tden tdenMsg := ⟨rfl, fun _ _ => rfl⟩

theorem readArgs_density {c ρ : Nat} (hc : c < 256) (hρ : ρ < 65536) :
    readArgs [1, 2] (toBE c 1 ++ toBE ρ 2) = some [c, ρ] := by
  rw [readArgs_eq _ _ (by simp), cutFields_append 1 _ _ _ (by omega), cutFields_one 2 _ (by omega)]

section
variable {args : List Byte} {c ρ : Nat} (u : State)

theorem tdenMsg_length (h : args.length ≠ 3) : tdenMsg args u = refuse .length u := by
  simp only [tdenMsg, readArgs_none [1, 2] args h]

theorem tdenMsg_data (h : readArgs [1, 2] args = some [c, ρ]) (hv : u.store.dataState ≠ .valid) :
    tdenMsg args u = refuseData u := by
  simp only [tdenMsg, h, if_pos (dataValid_eq_false_iff.2 hv)]

theorem tdenMsg_range (h : readArgs [1, 2] args = some [c, ρ]) (hv : u.store.dataState = .valid)
    (hbad : u.store.tables.isBallast c = false ∨ ρ < 990 ∨ 1050 < ρ) : tdenMsg args u = refuse .range u := by
  simp only [tdenMsg, h, dataValid_iff.2 hv, Bool.true_eq_false, if_false]
  rcases hbad with hc | hρ
  · rw [if_pos hc]
  · have : densityOk ρ = false := inRange_eq_false_iff.2 hρ
    rw [if_pos this, ite_self]

theorem tdenMsg_sets (h : readArgs [1, 2] args = some [c, ρ]) (hv : u.store.dataState = .valid)
    (hc : u.store.tables.isBallast c = true) (h1 : 990 ≤ ρ) (h2 : ρ ≤ 1050) :
    tdenMsg args u = done (setDensity c ρ u) [] := by
  have hρ : densityOk ρ = true := inRange_iff.2 ⟨h1, h2⟩
  simp only [tdenMsg, h, dataValid_iff.2 hv, hc, hρ, Bool.true_eq_false, if_false]

end

/-- A grant's snapshot follows the new density (R173). -/
theorem resnapTank_eq (c ρ : Nat) (s : State) :
    resnapTank c ρ s = { s with
      console := { s.console with
        snapshot := s.console.snapshot.map fun x =>
          x.set c ((x.get c).map fun t => { t with mass := rdivN (t.volume * ρ) 1000 }) } } := by
  cases h : s.console.snapshot with
  | none =>
    have : s.console = { s.console with snapshot := none } := by rw [← h]
    simp only [resnapTank, h, Option.map_none]
    rw [← this]
  | some x => simp only [resnapTank, h, Option.map_some]; rfl

theorem changeGauge_some {c : Nat} {s : State} {g : GaugeRec} (f : GaugeRec → GaugeRec) (h : s.gaugeRec c = some g) :
    changeGauge c f s = { s with gauge := { s.gauge with recs := s.gauge.recs.set c (some (f g)) } } := by
  simp only [changeGauge, h]; rfl

/-- All that an accepted TDEN does before the refresh mark (R32, R33, R173). -/
theorem setDensity_eq {c : Nat} {u : State} {g : GaugeRec} (ρ : Nat) (h : u.gaugeRec c = some g) :
    setDensity c ρ u = setRefreshMark { u with
      gauge := { u.gauge with recs := u.gauge.recs.set c (some (g.withDensity ρ)) }
      console := { u.console with
        snapshot := u.console.snapshot.map fun x =>
          x.set c ((x.get c).map fun t => { t with mass := rdivN (t.volume * ρ) 1000 }) } } := by
  rw [setDensity, changeGauge_some _ h, resnapTank_eq]

/-- Settles O21: TDEN is refused by the first check that fails, and an accepted one is `setDensity`. -/
theorem tdenSetsADensity : Obligations.TdenSetsADensity := by
  refine ⟨fun s c ρ g hr hc hρ => ?_,
    rule_tden.otherForms fun args u h => tdenMsg_length u h⟩
  have hargs := readArgs_density hc hρ
  have hlen : (toBE c 1 ++ toBE ρ 2).length ≤ maxArgs := by simp [maxArgs]
  refine ⟨fun hv => rule_tden.refusesData hr hlen (tdenMsg_data _ hargs hv),
    fun hv hbad => rule_tden.refuses hr hlen (tdenMsg_range _ hargs hv hbad), fun hv hb h1 h2 hg => ?_⟩
  let u : State := taken .ship .tden (toBE c 1 ++ toBE ρ 2) s
  have hg' : u.gaugeRec c = some g := hg
  exact rule_tden.answers hr hlen ((tdenMsg_sets u hargs hv hb h1 h2).trans (congrArg (done · []) (setDensity_eq ρ hg')))

/-! ## The readings of a sweep (R22, R23) -/

/-- The slots from `k` on, in order, are those that the sweep has before it. -/
theorem nextPolled_eq_find (s : State) (k : Nat) :
    nextPolled s k = (List.range' k (s.store.tables.slots - k)).find? (polled s) := by
  rw [nextPolled, List.range_eq_range', List.drop_range', Nat.zero_add, Nat.mul_one]

theorem nextPolled_some {s : State} {k n : Nat} (hk : k ≤ n) (hn : n < s.store.tables.slots) (hp : polled s n = true)
    (hno : ∀ m, k ≤ m → m < n → polled s m = false) : nextPolled s k = some n := by
  rw [nextPolled_eq_find, List.find?_range'_eq_some]
  exact ⟨hp, by rw [List.mem_range'_1]; omega, fun m h1 h2 => by simp [hno m h1 h2]⟩

theorem nextPolled_none {s : State} {k : Nat} (hno : ∀ m, k ≤ m → m < s.store.tables.slots → polled s m = false) :
    nextPolled s k = none := by
  rw [nextPolled_eq_find, List.find?_eq_none]
  intro m hm
  rw [List.mem_range'_1] at hm
  simp [hno m hm.1 (by omega)]

/-- A reading is yielded while another slot is to be polled: the sweep polls it (R22, R23). -/
theorem takeReading_moves {s : State} {n : Nat} (h : nextPolled s (s.gauge.slot + 1) = some n) (r : Reading) :
    takeReading r s = { s with
      gauge := { s.gauge with
        readings := s.gauge.readings.set s.gauge.slot r, slot := n, poll := some 100, countdown := none } } := by
  have : nextPolled (s.setGauging { s.gauge with readings := s.gauge.readings.set s.gauge.slot r, poll := none })
    (s.gauge.slot + 1) = some n := h
  simp only [takeReading, this]; rfl

/-- The part with the reading of the slot reached stored and no poll outstanding. -/
def withReading (s : State) (r : Reading) : State :=
  { s with gauge := { s.gauge with readings := s.gauge.readings.set s.gauge.slot r, poll := none } }

/-- The reading of the last polled slot ends the sweep (R22). -/
theorem takeReading_last {s : State} (h : nextPolled s (s.gauge.slot + 1) = none) (r : Reading) :
    takeReading r s = finishSweep (withReading s r) := by
  have : nextPolled (s.setGauging { s.gauge with readings := s.gauge.readings.set s.gauge.slot r, poll := none })
    (s.gauge.slot + 1) = none := h
  simp only [takeReading, this]; rfl

theorem exec_sensorAnswer_yields {s : State} {a : SensorAnswer} {r : Reading} (hp : s.gauge.poll.isSome)
    (h : answerReading s.gauge.slot a = some r) : exec (.sensorAnswer a) s = .next (takeReading r s) := by
  change Host.Outcome.next (acceptAnswer a s) = _
  rw [acceptAnswer, if_pos hp, h]

theorem exec_sensorAnswer_discarded {s : State} {a : SensorAnswer} (h : answerReading s.gauge.slot a = none) :
    exec (.sensorAnswer a) s = .next s := by
  change Host.Outcome.next (acceptAnswer a s) = _
  rw [acceptAnswer, h, ite_self]

theorem exec_sensorAnswer_no_poll {s : State} (a : SensorAnswer) (h : s.gauge.poll = none) :
    exec (.sensorAnswer a) s = .next s := by
  change Host.Outcome.next (acceptAnswer a s) = _
  rw [acceptAnswer, h]; rfl

theorem exec_replyWindowExpiry_poll {s : State} (h : s.gauge.poll.isSome) :
    exec .replyWindowExpiry s = .next (takeReading (.fault .noReply) s) :=
  congrArg Host.Outcome.next (if_pos h)

theorem exec_replyWindowExpiry_no_poll {s : State} (h : s.gauge.poll = none) : exec .replyWindowExpiry s = .next s :=
  congrArg Host.Outcome.next (if_neg (by simp [h]))

theorem exec_sweepCountdownExpiry_runs {s : State} (h : s.gauge.countdown.isSome) :
    exec .sweepCountdownExpiry s = .next (finishSweep s) :=
  congrArg Host.Outcome.next (if_pos h)

theorem exec_sweepCountdownExpiry_none {s : State} (h : s.gauge.countdown = none) : exec .sweepCountdownExpiry s = .next s :=
  congrArg Host.Outcome.next (if_neg (by simp [h]))

/-- What each answer and the window's expiry do while a poll is outstanding, where a reading `r` gives the part `next r` (R23). -/
theorem answers_yield {s : State} {next : Reading → State} (hp : s.gauge.poll.isSome)
    (hnext : ∀ r, takeReading r s = next r) :
    (∀ mm ≤ 40000, exec (.sensorAnswer (.level s.gauge.slot mm)) s = .next (next (.level mm))) ∧
    (∀ mm > 40000, exec (.sensorAnswer (.level s.gauge.slot mm)) s = .next (next (.fault .range))) ∧
    exec (.sensorAnswer (.fault s.gauge.slot)) s = .next (next (.fault .sensor)) ∧
    exec .replyWindowExpiry s = .next (next (.fault .noReply)) ∧
    (∀ m mm, m ≠ s.gauge.slot →
      exec (.sensorAnswer (.level m mm)) s = .next s ∧ exec (.sensorAnswer (.fault m)) s = .next s) ∧
    exec (.sensorAnswer .garbled) s = .next s := by
  simp only [← hnext]
  refine ⟨fun mm h => exec_sensorAnswer_yields hp ?_, fun mm h => exec_sensorAnswer_yields hp ?_,
    exec_sensorAnswer_yields hp ?_, exec_replyWindowExpiry_poll hp,
    fun m mm h => ⟨exec_sensorAnswer_discarded ?_, exec_sensorAnswer_discarded ?_⟩, exec_sensorAnswer_discarded rfl⟩
  · simp [answerReading, levelMax, h]
  · simp [answerReading, levelMax, Nat.not_le.2 h]
  · simp [answerReading]
  · simp [answerReading, h]
  · simp [answerReading, h]

/-- Settles O22: a reading polls the next slot or ends the sweep, whichever answer or expiry yields it. -/
theorem readingsMoveTheSweepToItsEnd : Obligations.ReadingsMoveTheSweepToItsEnd := by
  refine ⟨fun s n hp hlt hn hpn hno => ?_, fun s hp hno => ?_, fun s h => exec_sweepCountdownExpiry_runs h,
    fun s h => exec_sweepCountdownExpiry_none h,
    fun s a h => ⟨exec_sensorAnswer_no_poll a h, exec_replyWindowExpiry_no_poll h⟩⟩
  · have hnext := nextPolled_some (Nat.succ_le_of_lt hlt) hn hpn fun m h1 h2 => hno m h1 h2
    exact answers_yield hp (takeReading_moves hnext)
  · have hnext : nextPolled s (s.gauge.slot + 1) = none := nextPolled_none fun m h1 h2 => hno m h1 h2
    exact answers_yield (next := fun r => finishSweep (withReading s r)) hp (takeReading_last hnext)

/-! ## One gauge record at a sweep end (R27 to R31, R35, R36, R38) -/

theorem converted_below {T : Tables} {c x : Nat} (h : x < T.sounding c 0) : converted T c x = (T.volumeAt c 0, .below) :=
  if_pos h

theorem converted_above {T : Tables} {c x : Nat} (h0 : T.sounding c 0 ≤ x) (h : T.sounding c (T.points c - 1) < x) :
    converted T c x = (T.volumeAt c (T.points c - 1), .above) := by
  rw [converted, if_neg (Nat.not_lt.2 h0), if_pos h]; rfl

theorem converted_within {T : Tables} {c x : Nat} (h0 : T.sounding c 0 ≤ x) (h : x ≤ T.sounding c (T.points c - 1)) :
    converted T c x = (interpolated T c x (bracket T c x), .within) := by
  rw [converted, if_neg (Nat.not_lt.2 h0), if_neg (Nat.not_lt.2 h)]

/-- A sounding within a table whose soundings rise is converted by any pair of points that brackets it (R31). -/
theorem converted_bracketed {T : Tables} {c x lo : Nat} (h0 : T.sounding c 0 ≤ x) (h : x ≤ T.sounding c (T.points c - 1))
    (hrise : ∀ k < T.points c - 1, T.sounding c k < T.sounding c (k + 1)) (hlo : lo < T.points c - 1)
    (h1 : T.sounding c lo ≤ x) (h2 : x ≤ T.sounding c (lo + 1)) :
    ((converted T c x).1 : Int) = T.volumeAt c lo +
      rdiv (((T.volumeAt c (lo + 1) : Int) - T.volumeAt c lo) * ((x : Int) - T.sounding c lo))
        (T.sounding c (lo + 1) - T.sounding c lo) := by
  obtain ⟨hb, hb1, hb2⟩ := bracket_spec T c x lo hlo h2 h0
  rw [converted_within h0 h]
  exact interpolated_any T c x lo _ _ hrise hlo hb h1 h2 hb1 hb2

theorem correctedSounding_eq (T : Tables) (c : Nat) (trim : Int) (mm : Nat) :
    correctedSounding T c trim mm = (max 0 ((mm : Int) - rdiv (trim * (T.centre c - T.gaugeX c)) T.lbp)).toNat := by
  unfold correctedSounding; omega

theorem resetsReference_eq_false_iff (st : GaugeState) : st.resetsReference = false ↔ st = .good ∨ st = .held := by
  cases st <;> simp [GaugeState.resetsReference]

/-- A LEVEL reading makes the gauge GOOD with the volume and mass of its corrected sounding (R27, R30, R31, R38). -/
theorem updateGauge_level (s : State) (trim : Int) (c mm : Nat) (g : GaugeRec) :
    let T := s.store.tables
    let x := (max 0 ((mm : Int) - rdiv (trim * (T.centre c - T.gaugeX c)) T.lbp)).toNat
    let m := rdivN ((converted T c x).1 * g.density) 1000
    updateGauge s trim c (.level mm) g =
      { g with
        raw := mm, corrected := x, volume := (converted T c x).1, offTable := (converted T c x).2, mass := m
        state := .good, faultCount := 0, lastFault := none, neverRead := false
        refMass := if g.state = .good ∨ g.state = .held then g.refMass else m } := by
  simp only [updateGauge, takeLevel, correctedSounding_eq, ← resetsReference_eq_false_iff]
  cases g.state.resetsReference <;> rfl

/-- A reading that gives no level: NOT POLLED or a FAULT (R27). -/
def Unmeasured (r : Reading) : Prop := r = .notPolled ∨ ∃ k, r = .fault k

/-- The record with the gauge state, fault count and last fault that a reading without a level leaves (R27), its estimate not yet
made. -/
def marked (H : Nat) (r : Reading) (g : GaugeRec) : GaugeRec :=
  { g with
    state := nextGaugeState H g.faultCount g.state r
    faultCount := match r with | .fault _ => countTo H g.faultCount | _ => g.faultCount
    lastFault := match r with | .fault k => some k | _ => g.lastFault }

theorem updateGauge_unmeasured (s : State) (trim : Int) (c : Nat) {r : Reading} (g : GaugeRec) (hr : Unmeasured r) :
    updateGauge s trim c r g = settleEstimate s c g.source (marked s.store.tables.holdCount r g) := by
  rcases hr with rfl | ⟨k, rfl⟩ <;> rfl

theorem nextGaugeState_fault (H n : Nat) (st : GaugeState) (k : ReadFault) :
    nextGaugeState H n st (.fault k) = if H ≤ n + 1 then .lost else match st with
      | .unread => .unread | .good => .held | .held => .held | .lost => .lost | .masked => .lost := by
  by_cases h : H ≤ n + 1
  · simp [nextGaugeState, h, Nat.not_lt.2 h]
  · cases st <;> simp [nextGaugeState, h, Nat.lt_of_not_le h]

/-- A record's content source is one of two (R26). -/
theorem source_eq_gauge_or_estimate (g : GaugeRec) : g.source = .gauge ∨ g.source = .estimate := by
  cases g.source <;> simp

/-- The base of a record in ESTIMATE that came from source `before`: taken at the entry from GAUGE, and its count only where a pump
moves the tank's water (R35). -/
def based (s : State) (c : Nat) (before : Source) (g : GaugeRec) : GaugeRec :=
  if before = .gauge then enterEstimate s c g else g

theorem settleEstimate_gauge {s : State} {c : Nat} {before : Source} {g : GaugeRec} (h : g.source = .gauge) :
    settleEstimate s c before g = g := by
  simp [settleEstimate, h]

theorem settleEstimate_estimate {s : State} {c : Nat} {before : Source} {g : GaugeRec} (h : g.source = .estimate) :
    settleEstimate s c before g = updateEstimate s c (based s c before g) :=
  if_pos h

/-- Of a record the base alone changes at an entry into estimation (R35). -/
theorem based_eq (s : State) (c : Nat) (before : Source) (g : GaugeRec) :
    based s c before g = { g with
      baseMass := (based s c before g).baseMass, baseCount := (based s c before g).baseCount } := by
  unfold based enterEstimate takeBase
  (repeat' split) <;> rfl

/-- At a sweep end an estimate changes the base, the mass and the volume alone (R35, R36). -/
theorem settleEstimate_eq (s : State) (c : Nat) (before : Source) (g : GaugeRec) :
    settleEstimate s c before g = { g with
      baseMass := (settleEstimate s c before g).baseMass, baseCount := (settleEstimate s c before g).baseCount
      mass := (settleEstimate s c before g).mass, volume := (settleEstimate s c before g).volume } := by
  rcases source_eq_gauge_or_estimate g with h | h
  · rw [settleEstimate_gauge h]
  · rw [settleEstimate_estimate h, based_eq]
    unfold updateEstimate
    split <;> rfl

theorem settleEstimate_source (s : State) (c : Nat) (before : Source) (g : GaugeRec) :
    (settleEstimate s c before g).source = g.source := by
  rw [settleEstimate_eq]; rfl

/-- In no pumped transfer an estimated tank keeps its mass and its volume (R36). -/
theorem settleEstimate_still {s : State} {c : Nat} {before : Source} {g : GaugeRec}
    (h : g.source = .gauge ∨ pumpedOn s c = none) :
    (settleEstimate s c before g).mass = g.mass ∧ (settleEstimate s c before g).volume = g.volume := by
  rcases source_eq_gauge_or_estimate g with hg | hg
  · rw [settleEstimate_gauge hg]; exact ⟨rfl, rfl⟩
  · have hp : pumpedOn s c = none := h.resolve_left (by simp [hg])
    rw [settleEstimate_estimate hg, based_eq]
    simp [updateEstimate, hp]

/-- The base is taken at the entry into estimation alone (R35). -/
theorem settleEstimate_base {s : State} {c : Nat} {before : Source} {g : GaugeRec}
    (h : before = .estimate ∨ g.source = .gauge) :
    (settleEstimate s c before g).baseMass = g.baseMass ∧ (settleEstimate s c before g).baseCount = g.baseCount := by
  rcases source_eq_gauge_or_estimate g with hg | hg
  · rw [settleEstimate_gauge hg]; exact ⟨rfl, rfl⟩
  · obtain rfl : before = .estimate := h.resolve_right (by simp [hg])
    rw [settleEstimate_estimate hg, based, if_neg (by decide), updateEstimate]
    split <;> exact ⟨rfl, rfl⟩

/-- In no pumped transfer the entry into estimation takes the mass alone as its base (R35). -/
theorem settleEstimate_entry {s : State} {c : Nat} {g : GaugeRec} (hg : g.source = .estimate) (hp : pumpedOn s c = none) :
    (settleEstimate s c .gauge g).baseMass = g.mass ∧ (settleEstimate s c .gauge g).baseCount = g.baseCount := by
  rw [settleEstimate_estimate hg]
  simp [based, enterEstimate, updateEstimate, hp]

/-- The estimate of a tank whose water a pump moves, from its base, base count and density (R36). -/
def estimateOf (s : State) (c : Nat) (d : Driver) (p : Pump) (base count ρ : Nat) : Nat :=
  let T := s.store.tables
  let pulses := ((s.pumpMeter p).total + 4294967296 - count) % 4294967296
  let moved : Int := (rdivN (rdivN (pulses * T.factor d) 10000 * ρ) 1000 : Nat)
  let est : Int := if (s.transfer d).direction = .discharge then base - moved else base + moved
  (min (T.capacityMass c ρ : Int) (max 0 est)).toNat

theorem updateEstimate_pumped {s : State} {c : Nat} {d : Driver} {p : Pump} (g : GaugeRec) (hp : pumpedOn s c = some (d, p)) :
    updateEstimate s c g = { g with
      mass := estimateOf s c d p g.baseMass g.baseCount g.density
      volume := rdivN (estimateOf s c d p g.baseMass g.baseCount g.density * 1000) g.density } := by
  simp only [updateEstimate, hp, estimateOf, estimateMass, clampInt, meteredOf, pulseModulus]
  cases (s.transfer d).direction <;> simp

/-- The base, mass and volume of an estimated tank in a pumped transfer (R35, R36). -/
theorem settleEstimate_pumped {s : State} {c : Nat} {before : Source} {g : GaugeRec} {d : Driver} {p : Pump}
    (hg : g.source = .estimate) (hp : pumpedOn s c = some (d, p)) :
    let base := if before = .gauge then g.mass else g.baseMass
    let count := if before = .gauge then (s.pumpMeter p).total else g.baseCount
    let e := settleEstimate s c before g
    e.baseMass = base ∧ e.baseCount = count ∧ e.mass = estimateOf s c d p base count g.density ∧
      e.volume = rdivN (e.mass * 1000) g.density := by
  rw [settleEstimate_estimate hg, updateEstimate_pumped _ hp, based]
  by_cases hb : before = .gauge
  · simp [hb, enterEstimate, hp, takeBase]
  · simp [hb]

/-- Settles O23: a LEVEL reading by `updateGauge_level`, and any other by the estimate of the marked record. -/
theorem aGaugeRecordFollowsItsReading : Obligations.AGaugeRecordFollowsItsReading := by
  intro s trim c g
  refine ⟨fun x => ⟨converted_below, converted_above, fun h0 h => ⟨by rw [converted_within h0 h],
      fun hrise lo hlo h1 h2 => converted_bracketed h0 h hrise hlo h1 h2⟩⟩,
    fun mm => updateGauge_level s trim c mm g, fun k => ?_, ?_, fun r hr => ?_, fun r d p hp hr => ?_⟩
  · rw [updateGauge_unmeasured s trim c g (.inr ⟨k, rfl⟩)]
    refine ⟨?_, ?_, ?_, fun h => settleEstimate_still (by rwa [settleEstimate_source] at h)⟩ <;> rw [settleEstimate_eq]
    · exact nextGaugeState_fault _ _ _ k
    · rfl
    · rfl
  · rw [updateGauge_unmeasured s trim c g (.inl rfl)]
    refine ⟨?_, ?_, ?_, fun h => settleEstimate_still (.inr h)⟩ <;> rw [settleEstimate_eq] <;> rfl
  · rw [updateGauge_unmeasured s trim c g hr]
    refine ⟨?_, ?_, ?_, ?_, ?_, ?_, ?_, ?_, fun h => settleEstimate_base (by rwa [settleEstimate_source] at h), fun hg h hp => ?_⟩
    rotate_right
    · rw [settleEstimate_source] at h
      rw [hg]
      exact settleEstimate_entry h hp
    all_goals rw [settleEstimate_eq]; rfl
  · rw [updateGauge_unmeasured s trim c g hr]
    intro _ h
    rw [settleEstimate_source] at h
    exact settleEstimate_pumped h hp

/-! ## The queries of the ship link -/

theorem rule_tank : RuleOf .tank tankMsg := ⟨rfl, fun _ _ => rfl⟩
theorem rule_metr : RuleOf .metr metrMsg := ⟨rfl, fun _ _ => rfl⟩
theorem rule_cond : RuleOf .cond condMsg := ⟨rfl, fun _ _ => rfl⟩
theorem rule_proj : RuleOf .proj projMsg := ⟨rfl, fun _ _ => rfl⟩
theorem rule_lims : RuleOf .lims limsMsg := ⟨rfl, fun _ _ => rfl⟩
theorem rule_xfer : RuleOf .xfer xferMsg := ⟨rfl, fun _ _ => rfl⟩
theorem rule_valv : RuleOf .valv valvMsg := ⟨rfl, fun _ _ => rfl⟩
theorem rule_seqq : RuleOf .seqq seqqMsg := ⟨rfl, fun _ _ => rfl⟩
theorem rule_pour : RuleOf .pour pourMsg := ⟨rfl, fun _ _ => rfl⟩
theorem rule_phis : RuleOf .phis phisMsg := ⟨rfl, fun _ _ => rfl⟩
theorem rule_dlog : RuleOf .dlog dlogMsg := ⟨rfl, fun _ _ => rfl⟩

/-! A request of no argument or one byte fits a frame, and its byte is read. -/

theorem empty_fits : ([] : List Byte).length ≤ maxArgs := by decide
theorem byte_fits (b : Byte) : [b].length ≤ maxArgs := by simp [maxArgs]

theorem readOne_byte (b : Byte) : readOne 1 [b] = some b.toNat := by simp [readOne, readArgs, cutFields, beNat]

theorem readOptional_byte (b : Byte) : readOptional 1 [b] = some (some b.toNat) := by
  simp [readOptional, readOne_byte]

theorem readOptional_long {args : List Byte} (h : ¬ args.length ≤ 1) : readOptional 1 args = none :=
  readOptional_none 1 args (by rintro rfl; exact h (by decide)) (by omega)

theorem code_toNat (d : Driver) : (BitVec.ofNat 8 d.code).toNat = d.code := by cases d <;> rfl

/-! Each query on the part `u` that has taken it. -/

section
variable (u : State) {args : List Byte} {b : Byte}

theorem tankMsg_length (h : args.length ≠ 1) : tankMsg args u = refuse .length u := by
  simp only [tankMsg, readOne_none 1 args h]

theorem tankMsg_data (hv : u.store.dataState ≠ .valid) : tankMsg [b] u = refuseData u := by
  simp only [tankMsg, readOne_byte, if_pos (dataValid_eq_false_iff.2 hv)]

theorem tankMsg_range (hv : u.store.dataState = .valid) (hb : u.store.tables.isBallast b.toNat = false) :
    tankMsg [b] u = refuse .range u := by
  simp only [tankMsg, readOne_byte, dataValid_iff.2 hv, hb, Bool.true_eq_false, if_false, if_true]

theorem tankMsg_replies {g : GaugeRec} (hv : u.store.dataState = .valid) (hb : u.store.tables.isBallast b.toNat = true)
    (hg : u.gaugeRec b.toNat = some g) : tankMsg [b] u = done u (gaugeItems g ++ slotItems u b.toNat) := by
  simp only [tankMsg, readOne_byte, dataValid_iff.2 hv, hb, hg, Bool.true_eq_false, if_false, Option.map_some,
    Option.getD_some]

theorem metrMsg_length (h : args.length ≠ 1) : metrMsg args u = refuse .length u := by
  simp only [metrMsg, readOne_none 1 args h]

theorem metrMsg_range (h : 5 < b.toNat) : metrMsg [b] u = refuse .range u := by
  simp only [metrMsg, readOne_byte, (Driver.ofCode_none _).2 h]

theorem metrMsg_replies (d : Driver) : metrMsg [BitVec.ofNat 8 d.code] u = done u (meterItems u d) := by
  simp only [metrMsg, readOne_byte, code_toNat, (Driver.ofCode_iff _ d).2 rfl]

theorem xferMsg_length (h : args.length ≠ 1) : xferMsg args u = refuse .length u := by
  simp only [xferMsg, readOne_none 1 args h]

theorem xferMsg_range (h : 5 < b.toNat) : xferMsg [b] u = refuse .range u := by
  simp only [xferMsg, readOne_byte, (Driver.ofCode_none _).2 h]

theorem xferMsg_replies (d : Driver) : xferMsg [BitVec.ofNat 8 d.code] u = done u
    (transferItems (u.transfer d) ++ natItem (u.transfer d).targetMass :: valveStateItems u d ++ driverItems u d) := by
  simp only [xferMsg, readOne_byte, code_toNat, (Driver.ofCode_iff _ d).2 rfl]

theorem condMsg_length (h : args ≠ []) : condMsg args u = refuse .length u := if_pos h

theorem condMsg_data (hv : u.store.dataState ≠ .valid) : condMsg [] u = refuseData u := by
  rw [condMsg, if_neg (by simp), if_pos (dataValid_eq_false_iff.2 hv)]

theorem condMsg_replies (hv : u.store.dataState = .valid) : condMsg [] u = done u
    [jobItem u, kindItem u.engine.lastKind, .flag u.engine.refreshMark, .flag u.engine.projMark.isSome,
      .num (unreadEnabled u).length, match u.engine.published with | some p => .raw p.bytes | none => .num 0] := by
  rw [condMsg, if_neg (by simp), if_neg (by simp [dataValid_iff.2 hv])]
  cases u.engine.published <;> rfl

theorem projMsg_length (h : args ≠ []) : projMsg args u = refuse .length u := if_pos h

theorem projMsg_data (hv : u.store.dataState ≠ .valid) : projMsg [] u = refuseData u := by
  rw [projMsg, if_neg (by simp), if_pos (dataValid_eq_false_iff.2 hv)]

theorem projMsg_replies (hv : u.store.dataState = .valid) : projMsg [] u = done u
    (natItem u.tracker.gen :: markItems u.engine.projMark ++ resultItems u.engine.result) := by
  rw [projMsg, if_neg (by simp), if_neg (by simp [dataValid_iff.2 hv])]

theorem limsMsg_length (h : args ≠ []) : limsMsg args u = refuse .length u := if_pos h

theorem valvMsg_data (hv : u.store.dataState ≠ .valid) : valvMsg [b] u = refuseData u := by
  simp only [valvMsg, readValve, if_pos (dataValid_eq_false_iff.2 hv)]

theorem valvMsg_range (hv : u.store.dataState = .valid) (hn : namedValve u b.toNat = none) :
    valvMsg [b] u = refuse .range u := by
  simp only [valvMsg, readValve, dataValid_iff.2 hv, hn, Bool.true_eq_false, if_false]

theorem valvMsg_replies {ch : Nat} (hv : u.store.dataState = .valid) (hn : namedValve u b.toNat = some ch) :
    valvMsg [b] u = queryValve ch u := by
  simp only [valvMsg, readValve, dataValid_iff.2 hv, hn, Bool.true_eq_false, Bool.false_eq_true, if_false]

theorem seqqMsg_length (h : ¬ args.length ≤ 1) : seqqMsg args u = refuse .length u := by
  simp only [seqqMsg, readOptional_long h]

theorem seqqMsg_range (h : 63 < b.toNat) : seqqMsg [b] u = refuse .range u := by
  simp only [seqqMsg, readOptional_byte, if_neg (Nat.not_le.2 h)]

theorem seqqMsg_replies (h : b.toNat ≤ 63) :
    seqqMsg [b] u = done u (sequencerItems u ++ [.raw (rowBytes u.seq.active (b.toNat + 1))]) := by
  simp only [seqqMsg, readOptional_byte, if_pos h]

theorem pourMsg_length (h : ¬ args.length ≤ 1) : pourMsg args u = refuse .length u := by
  simp only [pourMsg, readOptional_long h]

theorem pourMsg_range (h : 95 < b.toNat) : pourMsg [b] u = refuse .range u := by
  simp only [pourMsg, readOptional_byte, if_neg (Nat.not_le.2 h)]

theorem pourMsg_replies (h : b.toNat ≤ 95) :
    pourMsg [b] u = done u (trackerItems u ++ (planEntry u.tracker.active b.toNat).items) := by
  simp only [pourMsg, readOptional_byte, if_pos h]

theorem phisMsg_length (h : args.length ≠ 2) : phisMsg args u = refuse .length u := by
  simp only [phisMsg, readOne_none 2 args h]

theorem phisMsg_range {n : Nat} (hn : n < 65536) (h : n = 0 ∨ 999 < n ∨ ∀ x ∈ u.tracker.history, x.pour ≠ n) :
    phisMsg (toBE n 2) u = refuse .range u := by
  simp only [phisMsg, readOne_toBE 2 n hn]
  by_cases hin : inRange 1 999 n = false
  · rw [if_pos hin]
  · have hno : ∀ x ∈ u.tracker.history, x.pour ≠ n := by
      rw [inRange_eq_false_iff] at hin
      rcases h with h | h | h
      · omega
      · omega
      · exact h
    have : recordsOf u n = [] := List.filter_eq_nil_iff.2 fun x hx => by simpa using hno x hx
    rw [if_neg hin, this]; rfl

theorem phisMsg_replies {n : Nat} {r : PourRec} (h1 : 1 ≤ n) (h2 : n ≤ 999)
    (hr : (u.tracker.history.filter fun x => x.pour == n).getLast? = some r) :
    phisMsg (toBE n 2) u = done u (recordItems r ++ [.num (u.tracker.history.countP fun x => x.pour == n : Nat)]) := by
  have hin : inRange 1 999 n = true := inRange_iff.2 ⟨h1, h2⟩
  have hl : (recordsOf u n).getLast? = some r := hr
  simp only [phisMsg, readOne_toBE 2 n (by omega), hin, hl, Bool.true_eq_false, if_false, List.countP_eq_length_filter]
  rfl

theorem dlogMsg_length (h : ¬ args.length ≤ 1) : dlogMsg args u = refuse .length u := by
  simp only [dlogMsg, readOptional_long h]

theorem dlogMsg_range (h : b.toNat = 0 ∨ u.records.log.length < b.toNat) : dlogMsg [b] u = refuse .range u := by
  have : (if b.toNat = 0 then none else u.records.log[b.toNat - 1]?) = none := by
    split
    · rfl
    · exact List.getElem?_eq_none (by omega)
  simp only [dlogMsg, readOptional_byte, this]

theorem dlogMsg_replies {e : LogEntry} (h : 1 ≤ b.toNat) (he : u.records.log[b.toNat - 1]? = some e) :
    dlogMsg [b] u = done u (logItems u ++
      [.raw e.bytes, totalItem (u.records.discharged.get e.tank), totalItem (u.records.takenUp.get e.tank)]) := by
  simp only [dlogMsg, readOptional_byte, if_neg (show ¬ b.toNat = 0 by omega), he]

end

/-- Settles O56: each query is taken by its rule, branch by branch, and what it shows does not read the links. -/
theorem queriesReplyAndChangeNothing : Obligations.QueriesReplyAndChangeNothing := by
  refine ⟨fun s hr => ⟨fun c g hv hb hg => ?_, fun d => ?_, fun hv => ?_, fun hv => ?_, fun r => ?_, ?_, fun d => ?_,
      fun id ch hv hn => ?_, ⟨?_, fun i hi => ?_⟩, ⟨?_, fun i hi => ?_⟩, fun n r h1 h2 hl => ?_, ⟨?_, fun n e h1 he => ?_⟩⟩,
    fun s b hr => ⟨fun hv => ⟨?_, ?_, ?_, ?_⟩, fun hv => ⟨fun hb => ?_, fun hn => ?_⟩, fun h => ⟨?_, ?_⟩, fun h => ?_,
      fun h => ?_, fun h => ?_, fun n hn h => ?_⟩,
    rule_tank.otherForms fun args u h => tankMsg_length u h, rule_metr.otherForms fun args u h => metrMsg_length u h,
    rule_cond.otherForms fun args u h => condMsg_length u h, rule_proj.otherForms fun args u h => projMsg_length u h,
    rule_lims.otherForms fun args u h => limsMsg_length u h, rule_xfer.otherForms fun args u h => xferMsg_length u h,
    rule_seqq.otherForms fun args u h => seqqMsg_length u h, rule_pour.otherForms fun args u h => pourMsg_length u h,
    rule_phis.otherForms fun args u h => phisMsg_length u h, rule_dlog.otherForms fun args u h => dlogMsg_length u h,
    fun m hm => unknownOnShore m (by revert m; decide)⟩
  · exact rule_tank.replies hr (byte_fits c) (tankMsg_replies _ hv hb hg)
  · exact rule_metr.replies hr (byte_fits _) (metrMsg_replies _ d)
  · exact rule_cond.replies hr empty_fits (condMsg_replies _ hv)
  · exact rule_proj.replies hr empty_fits (projMsg_replies _ hv)
  · rfl
  · exact rule_lims.replies hr empty_fits rfl
  · exact rule_xfer.replies hr (byte_fits _) (xferMsg_replies _ d)
  · exact rule_valv.replies hr (byte_fits id) (valvMsg_replies _ hv hn)
  · exact rule_seqq.replies hr empty_fits rfl
  · exact rule_seqq.replies hr (byte_fits i) (seqqMsg_replies _ (by omega))
  · exact rule_pour.replies hr empty_fits rfl
  · exact rule_pour.replies hr (byte_fits i) (pourMsg_replies _ (by omega))
  · exact rule_phis.replies hr (by simp [maxArgs]) (phisMsg_replies _ h1 h2 hl)
  · exact rule_dlog.replies hr empty_fits rfl
  · exact rule_dlog.replies hr (byte_fits n) (dlogMsg_replies _ h1 he)
  · exact rule_tank.refusesData hr (byte_fits b) (tankMsg_data _ hv)
  · exact rule_cond.refusesData hr empty_fits (condMsg_data _ hv)
  · exact rule_proj.refusesData hr empty_fits (projMsg_data _ hv)
  · exact rule_valv.refusesData hr (byte_fits b) (valvMsg_data _ hv)
  · exact rule_tank.refuses hr (byte_fits b) (tankMsg_range _ hv hb)
  · exact rule_valv.refuses hr (byte_fits b) (valvMsg_range _ hv hn)
  · exact rule_metr.refuses hr (byte_fits b) (metrMsg_range _ h)
  · exact rule_xfer.refuses hr (byte_fits b) (xferMsg_range _ h)
  · exact rule_seqq.refuses hr (byte_fits b) (seqqMsg_range _ h)
  · exact rule_pour.refuses hr (byte_fits b) (pourMsg_range _ h)
  · exact rule_dlog.refuses hr (byte_fits b) (dlogMsg_range _ h)
  · exact rule_phis.refuses hr (by simp [maxArgs]) (phisMsg_range _ hn h)

/-! ## Unexplained change (R37) -/

/-- The unexplained change that a sweep end finds of a tank with this gauge record, which no transfer holds, while the grant line
is off (R37). -/
def unexplainedOf (w : State) (c : Nat) (rec : Option GaugeRec) : Option Int :=
  match rec with
  | some g =>
    let Δ : Int := (g.mass : Int) - g.refMass
    if (g.state = .good ∨ g.state = .held) ∧ (∀ d ∈ drivers, (w.transfer d).state ≠ .idle → (w.transfer d).tank ≠ c) ∧
        w.console.grantLine = false ∧ w.store.tables.drift < Δ.natAbs then some Δ else none
  | none => none

/-- The same with the record that the tank has. -/
def unexplainedIn (w : State) (c : Nat) : Option Int := unexplainedOf w c (w.gaugeRec c)

/-- A gauge record with a change that was found entered in its account (R37). -/
def accounted (found : Option Int) (g : GaugeRec) : GaugeRec :=
  match found with
  | some Δ => { g with changed := true, unexplained := g.unexplained + Δ, refMass := g.mass }
  | none => g

theorem accounted_state (found : Option Int) (g : GaugeRec) : (accounted found g).state = g.state := by cases found <;> rfl

theorem accounted_lastFault (found : Option Int) (g : GaugeRec) : (accounted found g).lastFault = g.lastFault := by
  cases found <;> rfl

theorem tankBusy_eq_false_iff (w : State) (c : Nat) :
    tankBusy w c = false ↔ ∀ d ∈ drivers, (w.transfer d).state ≠ .idle → (w.transfer d).tank ≠ c := by
  simp [tankBusy, busyDrivers]

/-- A tank with no change found is left as it is. -/
theorem examineTank_none {w : State} {c : Nat} (h : unexplainedIn w c = none) : examineTank w c = w := by
  unfold examineTank
  cases hg : w.gaugeRec c with
  | none => rfl
  | some g =>
    simp only [unexplainedIn, unexplainedOf, hg, ite_eq_right_iff, reduceCtorEq, imp_false] at h
    exact if_neg (by rwa [tankBusy_eq_false_iff])

/-- A change found is entered in the tank's account and raises CHANGE. -/
theorem examineTank_some {w : State} {c : Nat} {Δ : Int} (h : unexplainedIn w c = some Δ) :
    examineTank w c = raise (.change c Δ) (changeGauge c (accounted (some Δ)) w) := by
  unfold examineTank changeGauge
  cases hg : w.gaugeRec c with
  | none => simp [unexplainedIn, unexplainedOf, hg] at h
  | some g =>
    simp only [unexplainedIn, unexplainedOf, hg, Option.ite_none_right_eq_some, Option.some.injEq] at h
    obtain ⟨hfound, rfl⟩ := h
    exact if_pos (by rwa [tankBusy_eq_false_iff])

@[simp] theorem gaugeRec_raise (d : Detail) (w : State) (c : Nat) : (raise d w).gaugeRec c = w.gaugeRec c := by
  simp [State.gaugeRec]

theorem gaugeRec_examineTank (w : State) (a c : Nat) :
    (examineTank w a).gaugeRec c = if c = a then (w.gaugeRec a).map (accounted (unexplainedIn w a)) else w.gaugeRec c := by
  cases h : unexplainedIn w a with
  | none =>
    rw [examineTank_none h]
    split
    · next hc => subst hc; exact Option.map_id'.symm
    · rfl
  | some Δ => rw [examineTank_some h, gaugeRec_raise, gaugeRec_changeGauge]

theorem unexplainedIn_congr {v w : State} {c : Nat} (hg : v.gaugeRec c = w.gaugeRec c) (hx : v.xfer = w.xfer)
    (hc : v.console = w.console) (hs : v.store = w.store) : unexplainedIn v c = unexplainedIn w c := by
  have ht : ∀ d, v.transfer d = w.transfer d := State.transfer_congr (by rw [hx])
  simp only [unexplainedIn, unexplainedOf, hg, ht, hc, hs]

theorem unexplainedIn_examineTank {w : State} {a c : Nat} (h : c ≠ a) :
    unexplainedIn (examineTank w a) c = unexplainedIn w c :=
  unexplainedIn_congr (by rw [gaugeRec_examineTank, if_neg h]) (by simp) (by simp) (by simp)

/-! What the examination of several tanks does, each tank once. -/

theorem unexplainedIn_examineList {c : Nat} : ∀ {l : List Nat} {w : State}, c ∉ l →
    unexplainedIn (l.foldl examineTank w) c = unexplainedIn w c
  | [], _, _ => rfl
  | a :: l, w, h => by
    rw [List.mem_cons, not_or] at h
    rw [List.foldl_cons, unexplainedIn_examineList h.2, unexplainedIn_examineTank h.1]

theorem gaugeRec_examineList {c : Nat} : ∀ {l : List Nat} {w : State}, l.Nodup →
    (l.foldl examineTank w).gaugeRec c =
      if c ∈ l then (w.gaugeRec c).map (accounted (unexplainedIn w c)) else w.gaugeRec c
  | [], _, _ => rfl
  | a :: l, w, h => by
    rw [List.nodup_cons] at h
    rw [List.foldl_cons, gaugeRec_examineList h.2, gaugeRec_examineTank]
    by_cases hc : c = a
    · subst hc; simp [h.1]
    · simp [hc, unexplainedIn_examineTank hc]

theorem examineList_quiet : ∀ {l : List Nat} {w : State}, (∀ c ∈ l, unexplainedIn w c = none) → l.foldl examineTank w = w
  | [], _, _ => rfl
  | a :: l, w, h => by
    rw [List.foldl_cons, examineTank_none (h a List.mem_cons_self),
      examineList_quiet fun c hc => h c (List.mem_cons_of_mem a hc)]

theorem enabled_change (enables : BitVec 8) : NoticeKind.change.enabled enables = enables.getLsbD 5 := rfl

theorem enabled_gauge (enables : BitVec 8) : NoticeKind.gauge.enabled enables = enables.getLsbD 3 := rfl

/-- A change found raises CHANGE where it is enabled. -/
theorem change_examineTank {w : State} {c : Nat} {Δ : Int} (h : unexplainedIn w c = some Δ) :
    (examineTank w c).links.notices.get 7 =
      if w.links.enables.getLsbD 5 then some (.change c Δ) else w.links.notices.get 7 := by
  have hn := raise_notices (.change c Δ) (changeGauge c (accounted (some Δ)) w) .change
  rw [enabled_change] at hn
  simpa [examineTank_some h, Detail.kind, NoticeKind.place] using hn

/-- No other notice is raised by the examination of a tank. -/
theorem notices_examineTank_other {k : NoticeKind} (hk : k ≠ .change) (w : State) (c : Nat) :
    (examineTank w c).links.notices.get k.place = w.links.notices.get k.place := by
  cases h : unexplainedIn w c with
  | none => rw [examineTank_none h]
  | some Δ =>
    rw [examineTank_some h, raise_notices, if_neg fun e => hk e.1]
    simp

theorem notices_examineList_other {k : NoticeKind} (hk : k ≠ .change) (l : List Nat) (w : State) :
    (l.foldl examineTank w).links.notices.get k.place = w.links.notices.get k.place :=
  foldl_keep (fun s => s.links.notices.get k.place) examineTank (notices_examineTank_other hk) l w

theorem enables_examineList (l : List Nat) (w : State) : (l.foldl examineTank w).links.enables = w.links.enables :=
  foldl_keep (fun s => s.links.enables) examineTank (by simp) l w

theorem change_examineList_disabled : ∀ {l : List Nat} {w : State}, w.links.enables.getLsbD 5 = false →
    (l.foldl examineTank w).links.notices.get 7 = w.links.notices.get 7
  | [], _, _ => rfl
  | a :: l, w, h => by
    rw [List.foldl_cons, change_examineList_disabled (by simpa using h)]
    cases hu : unexplainedIn w a with
    | none => rw [examineTank_none hu]
    | some Δ => rw [change_examineTank hu, h]; rfl

/-- The last change found is the one whose detail CHANGE keeps. -/
theorem change_examineList {c : Nat} {Δ : Int} {before after : List Nat} {w : State}
    (hl : (before ++ c :: after).Nodup) (h : unexplainedIn w c = some Δ) (hafter : ∀ k ∈ after, unexplainedIn w k = none) :
    ((before ++ c :: after).foldl examineTank w).links.notices.get 7 =
      if w.links.enables.getLsbD 5 then some (.change c Δ) else w.links.notices.get 7 := by
  have hmem : ∀ k ∈ c :: after, k ∉ before := fun k hk hb => (List.nodup_append.1 hl).2.2 k hb k hk rfl
  have hc : unexplainedIn (before.foldl examineTank w) c = some Δ := by
    rw [unexplainedIn_examineList (hmem c List.mem_cons_self), h]
  have hquiet : ∀ k ∈ after, unexplainedIn (examineTank (before.foldl examineTank w) c) k = none := fun k hk => by
    have hkc : k ≠ c := by
      rintro rfl
      exact (List.nodup_cons.1 (List.nodup_append.1 hl).2.1).1 hk
    rw [unexplainedIn_examineTank hkc, unexplainedIn_examineList (hmem k (List.mem_cons_of_mem c hk)), hafter k hk]
  rw [List.foldl_append, List.foldl_cons, examineList_quiet hquiet, change_examineTank hc, enables_examineList]
  by_cases he : w.links.enables.getLsbD 5 = true
  · rw [if_pos he, if_pos he]
  · rw [if_neg he, if_neg he, change_examineList_disabled (by simpa using he)]

/-! The examination of every tank. -/

theorem compartments_nodup : compartments.Nodup := List.nodup_range

theorem mem_compartments {c : Nat} : c ∈ compartments ↔ c < 48 := List.mem_range

theorem gaugeRec_examineTanks (w : State) {c : Nat} (hc : c < 48) :
    (examineTanks w).gaugeRec c = (w.gaugeRec c).map (accounted (unexplainedIn w c)) := by
  rw [examineTanks, gaugeRec_examineList compartments_nodup, if_pos (mem_compartments.2 hc)]

/-- The highest tank with a change found is the one whose detail CHANGE keeps (R37). -/
theorem change_examineTanks {w : State} {c : Nat} {Δ : Int} (hc : c < 48) (h : unexplainedIn w c = some Δ)
    (hlast : ∀ k < 48, c < k → unexplainedIn w k = none) :
    (examineTanks w).links.notices.get 7 =
      if w.links.enables.getLsbD 5 then some (.change c Δ) else w.links.notices.get 7 := by
  obtain ⟨before, after, hl⟩ := List.append_of_mem (mem_compartments.2 hc)
  have hrise : (before ++ c :: after).Pairwise (· < ·) := hl ▸ range_rising 48
  have hafter : ∀ k ∈ after, unexplainedIn w k = none := fun k hk =>
    hlast k (mem_compartments.1 (by rw [hl]; simp [hk])) (List.rel_of_pairwise_cons (List.pairwise_append.1 hrise).2.1 hk)
  rw [examineTanks, hl]
  exact change_examineList (hl ▸ compartments_nodup) h hafter

theorem examineTanks_quiet {w : State} (h : ∀ c < 48, unexplainedIn w c = none) : examineTanks w = w := by
  rw [examineTanks]
  exact examineList_quiet fun c hc => h c (mem_compartments.1 hc)

theorem notices_examineTanks_other {k : NoticeKind} (hk : k ≠ .change) (w : State) :
    (examineTanks w).links.notices.get k.place = w.links.notices.get k.place := by
  rw [examineTanks, notices_examineList_other hk]

/-! ## The GAUGE notice of a sweep end (R29) -/

/-- No reported change of gauge state raises no GAUGE notice. -/
theorem raiseGauge_quiet {s w : State} (h : ∀ c < 48, madeChange s w c = false) : raiseGauge s w = w := by
  have : compartments.filter (madeChange s w) = [] :=
    List.filter_eq_nil_iff.2 fun c hc => by simp [h c (mem_compartments.1 hc)]
  simp only [raiseGauge, this]

/-- Reported changes raise GAUGE for the lowest of their tanks, with how many there are. -/
theorem raiseGauge_lowest {s w : State} {c : Nat} {g : GaugeRec} (hc : c < 48) (h : madeChange s w c = true)
    (hlow : ∀ k < c, madeChange s w k = false) (hg : w.gaugeRec c = some g) :
    raiseGauge s w = raise (.gauge c g.state g.lastFault (compartments.filter (madeChange s w)).length) w := by
  have hhead : (compartments.filter (madeChange s w)).head? = some c := by
    rw [List.head?_filter, compartments, List.find?_range_eq_some]
    exact ⟨h, List.mem_range.2 hc, fun k hk => by simp [hlow k hk]⟩
  obtain ⟨rest, hcs⟩ := List.head?_eq_some_iff.1 hhead
  simp only [raiseGauge, hcs, hg]

/-- GAUGE is the one notice that `raiseGauge` raises. -/
theorem notices_raiseGauge_other {k : NoticeKind} (hk : k ≠ .gauge) (s w : State) :
    (raiseGauge s w).links.notices.get k.place = w.links.notices.get k.place := by
  have hr : ∀ c st f n, (raise (.gauge c st f n) w).links.notices.get k.place = w.links.notices.get k.place :=
    fun c st f n => by rw [raise_notices, if_neg fun e => hk e.1]
  cases hcs : compartments.filter (madeChange s w) with
  | nil => simp only [raiseGauge, hcs]
  | cons c rest => cases hg : w.gaugeRec c <;> simp only [raiseGauge, hcs, hg, hr]

/-! ## The gravity lines (R51) -/

/-- A gravity line's record after a sweep end, from its transfer, the reading of the tank's slot, and the tank's volume (R51). -/
def lineAfter (x : Transfer) (r : Reading) (g : GravityLine) (volume stamp : Nat) : GravityLine :=
  if x.state = .running ∨ x.state = .handedOver then
    match r with
    | .level _ => g.measure volume stamp
    | _ => g
  else ⟨0, none⟩

theorem lineAfter_unmeasured {x : Transfer} {r : Reading} (g : GravityLine) (volume stamp : Nat)
    (hx : x.state = .running ∨ x.state = .handedOver) (hr : ∀ mm, r ≠ .level mm) : lineAfter x r g volume stamp = g := by
  cases r with
  | level mm => exact absurd rfl (hr mm)
  | fault k => exact if_pos hx
  | notPolled => exact if_pos hx

theorem lineAfter_measured {x : Transfer} {r : Reading} {mm : Nat} (g : GravityLine) (volume stamp : Nat)
    (hx : x.state = .running ∨ x.state = .handedOver) (hr : r = .level mm) :
    lineAfter x r g volume stamp = g.measure volume stamp := by
  subst hr
  exact if_pos hx

/-- A first volume makes the baseline (R51). -/
theorem measure_first {g : GravityLine} (volume stamp : Nat) (h : g.baseline = none) :
    g.measure volume stamp = { g with baseline := some ⟨volume, stamp⟩ } := by
  simp only [GravityLine.measure, h]

/-- The rate is taken from the baseline where time has passed since it (R51). -/
theorem measure_later {g : GravityLine} {b : Baseline} {stamp : Nat} (volume : Nat) (h : g.baseline = some b)
    (hs : b.stamp < stamp) :
    g.measure volume stamp = ⟨rdivN ((b.volume - volume) * 360) (stamp - b.stamp), some ⟨volume, stamp⟩⟩ := by
  simp only [GravityLine.measure, h, if_pos hs]

theorem measure_same {g : GravityLine} {b : Baseline} {stamp : Nat} (volume : Nat) (h : g.baseline = some b)
    (hs : b.stamp = stamp) : g.measure volume stamp = g := by
  simp only [GravityLine.measure, h, if_neg (show ¬ b.stamp < stamp by omega), if_pos hs]

/-- A port clock set back makes a new baseline (R51). -/
theorem measure_back {g : GravityLine} {b : Baseline} {stamp : Nat} (volume : Nat) (h : g.baseline = some b)
    (hs : stamp < b.stamp) : g.measure volume stamp = { g with baseline := some ⟨volume, stamp⟩ } := by
  simp only [GravityLine.measure, h, if_neg (show ¬ b.stamp < stamp by omega), if_neg (show ¬ b.stamp = stamp by omega)]

/-- A gravity line's record after the sweep end of `w`, whose gauge records are up to date. -/
def lineAt (w : State) (d : Driver) : GravityLine :=
  lineAfter (w.transfer d) (readingOf w (w.transfer d).tank) (w.gravityRec d) (tankVolume w (w.transfer d).tank) w.time.port

theorem setGravityRec_self (w : State) (d : Driver) : w.setGravityRec d (w.gravityRec d) = w := by cases d <;> rfl

theorem updateLine_eq (w : State) (d : Driver) : updateLine w d = w.setGravityRec d (lineAt w d) := by
  unfold updateLine lineAt lineAfter
  dsimp only
  by_cases hf : (w.transfer d).state = .running ∨ (w.transfer d).state = .handedOver
  · rw [if_pos hf, if_pos hf]
    cases readingOf w (w.transfer d).tank with
    | level mm => rfl
    | fault k => exact (setGravityRec_self w d).symm
    | notPolled => exact (setGravityRec_self w d).symm
  · rw [if_neg hf, if_neg hf]; rfl

theorem updateLines_eq (w : State) :
    updateLines w = { w with meter := { w.meter with g0 := lineAt w .g0, g1 := lineAt w .g1 } } := by
  rw [updateLines, updateLine_eq, updateLine_eq]; rfl

theorem gravityRec_updateLines (w : State) {d : Driver} (hd : d.gravity = true) :
    (updateLines w).gravityRec d = lineAt w d := by
  rw [updateLines_eq]
  match d, hd with
  | .g0, _ => rfl
  | .g1, _ => rfl

/-! ## The end checks (R112, R173) -/

theorem atTarget_iff (w : State) (x : Transfer) : atTarget w x = true ↔
    if x.direction = .discharge then tankMass w x.tank ≤ x.targetMass else x.targetMass ≤ tankMass w x.tank := by
  cases h : x.direction <;> simp [atTarget, h]

theorem aboveTable_iff (w : State) (c : Nat) :
    aboveTable w c = true ↔ ∃ g, w.gaugeRec c = some g ∧ g.offTable = .above := by
  cases h : w.gaugeRec c <;> simp [aboveTable, h]

/-- An active transfer with an end check that holds is ended with its reason (R112). -/
theorem sweepCheck_ends {w : State} {d : Driver} {reason : EndReason} (h : (w.transfer d).state.active = true)
    (he : endCheck w d = some reason) : ClosesWith d reason w (sweepCheck w d) := by
  have : sweepCheck w d = endTransfer d reason w := by
    cases hs : (w.transfer d).state <;> simp only [hs, XferState.active, Bool.false_eq_true] at h <;>
      simp only [sweepCheck, hs, he]
  rw [this]
  exact endTransfer_closes d reason w

theorem sweepCheck_goes_on {w : State} {d : Driver} (h : (w.transfer d).state.active = true) (he : endCheck w d = none) :
    sweepCheck w d = w := by
  cases hs : (w.transfer d).state <;> simp only [hs, XferState.active, Bool.false_eq_true] at h <;>
    simp only [sweepCheck, hs, he]

theorem sweepCheck_rests {w : State} {d : Driver} (h : (w.transfer d).state = .idle ∨ (w.transfer d).state = .closing) :
    sweepCheck w d = w := by
  rcases h with h | h <;> simp only [sweepCheck, h]

theorem sweepCheck_handedOver {w : State} {d : Driver} (h : (w.transfer d).state = .handedOver) :
    sweepCheck w d = targetUnderConsole d w := by
  simp only [sweepCheck, h]

/-- Where every transfer is IDLE no end check is made. -/
theorem sweepChecks_allIdle {w : State} (h : AllIdle w) : ∀ l : List Driver, l.foldl sweepCheck w = w
  | [] => rfl
  | d :: l => by rw [List.foldl_cons, sweepCheck_rests (.inl (h d)), sweepChecks_allIdle h l]

/-! ## The sweep end (R25) -/

/-- `t` differs from `w` in the gauge records and the pending notices at most. -/
def RecordsAndNoticesOf (w t : State) : Prop :=
  t = { w with gauge := { w.gauge with recs := t.gauge.recs }, links := { w.links with notices := t.links.notices } }

theorem RecordsAndNoticesOf.trans {w t v : State} (h1 : RecordsAndNoticesOf w t) (h2 : RecordsAndNoticesOf t v) :
    RecordsAndNoticesOf w v :=
  Eq.trans h2 (by rw [h1])

theorem recordsAndNoticesOf_raise (d : Detail) (w : State) : RecordsAndNoticesOf w (raise d w) := by
  unfold raise; split <;> rfl

theorem recordsAndNoticesOf_changeGauge (c : Nat) (f : GaugeRec → GaugeRec) (w : State) :
    RecordsAndNoticesOf w (changeGauge c f w) := by
  unfold changeGauge; split <;> rfl

theorem recordsAndNoticesOf_examineTank (w : State) (c : Nat) : RecordsAndNoticesOf w (examineTank w c) := by
  cases h : unexplainedIn w c with
  | none => rw [examineTank_none h]; rfl
  | some Δ =>
    rw [examineTank_some h]
    exact (recordsAndNoticesOf_changeGauge ..).trans (recordsAndNoticesOf_raise ..)

theorem recordsAndNoticesOf_examineList : ∀ (l : List Nat) (w : State), RecordsAndNoticesOf w (l.foldl examineTank w)
  | [], _ => rfl
  | a :: l, w => (recordsAndNoticesOf_examineTank w a).trans (recordsAndNoticesOf_examineList l _)

theorem recordsAndNoticesOf_raiseGauge (s w : State) : RecordsAndNoticesOf w (raiseGauge s w) := by
  cases hcs : compartments.filter (madeChange s w) with
  | nil => simp only [raiseGauge, hcs]; rfl
  | cons c rest =>
    cases hg : w.gaugeRec c with
    | none => simp only [raiseGauge, hcs, hg]; rfl
    | some g => simp only [raiseGauge, hcs, hg]; exact recordsAndNoticesOf_raise ..

/-- A gauge record brought up to date at a sweep end from the reading of its slot, with the published trim (R25, R27). -/
def freshRec (s : State) (c : Nat) : Option GaugeRec :=
  (s.gaugeRec c).map
    (updateGauge s ((s.engine.published.map fun p => p.cond.trim).getD 0) c (s.gauge.readings.get (s.store.tables.gaugeSlot c)))

theorem gaugeRec_updateGauges (s : State) {c : Nat} (hc : c < 48) : (updateGauges s).gaugeRec c = freshRec s c := by
  simp only [updateGauges, State.gaugeRec, State.setGauging_gauge, Tab.get_build _ c hc]
  rfl

/-- The part at a sweep end with its records judged and its lines brought up to date, before the refresh mark (log entry 12). -/
def judgedSweep (s : State) : State := updateLines (raiseGauge s (examineTanks (updateGauges s)))

theorem finishSweep_eq (s : State) :
    finishSweep s = beginSweep (stopSweep (settle s (drivers.foldl sweepCheck (setRefreshMark (judgedSweep s))))) := rfl

theorem recordsAndNoticesOf_judged (s : State) :
    RecordsAndNoticesOf (updateGauges s) (raiseGauge s (examineTanks (updateGauges s))) :=
  (recordsAndNoticesOf_examineList compartments _).trans (recordsAndNoticesOf_raiseGauge s _)

/-- Of the part a sweep end's judgements change the records, the stamps, the gravity lines and the notices alone. -/
theorem judgedSweep_only (s : State) : judgedSweep s = { s with
    gauge := { s.gauge with
      recs := (judgedSweep s).gauge.recs, prevStamp := s.gauge.lastStamp, lastStamp := some s.time.port, swept := true }
    meter := { s.meter with g0 := (judgedSweep s).meter.g0, g1 := (judgedSweep s).meter.g1 }
    links := { s.links with notices := (judgedSweep s).links.notices } } := by
  have hw := recordsAndNoticesOf_judged s
  rw [judgedSweep, updateLines_eq]
  generalize raiseGauge s (examineTanks (updateGauges s)) = w at hw ⊢
  rw [show w = _ from hw]
  rfl

/-- Whether a sweep end finds a reported change of a tank's gauge state (R29). -/
def turnedAt (s : State) (c : Nat) : Bool :=
  match s.gaugeRec c, freshRec s c with
  | some a, some b => reported a.state b.state
  | _, _ => false

theorem gaugeRec_judgedSweep (s : State) {c : Nat} (hc : c < 48) :
    (judgedSweep s).gaugeRec c = (freshRec s c).map (accounted (unexplainedIn (updateGauges s) c)) := by
  have hu : (judgedSweep s).gauge = (examineTanks (updateGauges s)).gauge := by simp [judgedSweep]
  rw [State.gaugeRec, hu]
  exact (gaugeRec_examineTanks _ hc).trans (by rw [gaugeRec_updateGauges s hc])

/-- The account of unexplained change has no part in a change of gauge state. -/
theorem madeChange_eq (s : State) {c : Nat} (hc : c < 48) :
    madeChange s (examineTanks (updateGauges s)) c = turnedAt s c := by
  rw [madeChange, turnedAt, gaugeRec_examineTanks _ hc, gaugeRec_updateGauges s hc]
  cases s.gaugeRec c <;> cases freshRec s c <;> simp [accounted_state]

theorem notices_judgedSweep (s : State) :
    (judgedSweep s).links.notices = (raiseGauge s (examineTanks (updateGauges s))).links.notices := by
  simp [judgedSweep]

theorem notices_judgedSweep_other (s : State) {k : NoticeKind} (h1 : k ≠ .gauge) (h2 : k ≠ .change) :
    (judgedSweep s).links.notices.get k.place = s.links.notices.get k.place := by
  rw [notices_judgedSweep, notices_raiseGauge_other h1, notices_examineTanks_other h2]
  rfl

/-- What stands of the GAUGE notice at the examination is what stood before the sweep end. -/
theorem gauge_examineTanks (s : State) :
    (examineTanks (updateGauges s)).links.notices.get 5 = s.links.notices.get 5 :=
  notices_examineTanks_other (k := .gauge) (by decide) _

theorem gauge_judgedSweep_quiet {s : State} (h : ∀ c < 48, turnedAt s c = false) :
    (judgedSweep s).links.notices.get 5 = s.links.notices.get 5 := by
  rw [notices_judgedSweep, raiseGauge_quiet fun c hc => by rw [madeChange_eq s hc, h c hc], gauge_examineTanks]

/-- GAUGE names the lowest tank with a reported change, and how many there are (R29). -/
theorem gauge_judgedSweep {s : State} {c : Nat} {b : GaugeRec} (hc : c < 48) (h : turnedAt s c = true)
    (hlow : ∀ k < c, turnedAt s k = false) (hb : freshRec s c = some b) :
    (judgedSweep s).links.notices.get 5 = if s.links.enables.getLsbD 3 then
        some (.gauge c b.state b.lastFault ((List.range 48).filter (turnedAt s)).length)
      else s.links.notices.get 5 := by
  have hg : (examineTanks (updateGauges s)).gaugeRec c = some (accounted (unexplainedIn (updateGauges s) c) b) := by
    rw [gaugeRec_examineTanks _ hc, gaugeRec_updateGauges s hc, hb]; rfl
  have hcount : compartments.filter (madeChange s (examineTanks (updateGauges s))) = (List.range 48).filter (turnedAt s) :=
    List.filter_congr fun k hk => madeChange_eq s (mem_compartments.1 hk)
  have hraise := raiseGauge_lowest hc (by rw [madeChange_eq s hc, h])
    (fun k hk => by rw [madeChange_eq s (by omega), hlow k hk]) hg
  rw [accounted_state, accounted_lastFault, hcount] at hraise
  have hn := raise_notices (.gauge c b.state b.lastFault ((List.range 48).filter (turnedAt s)).length)
    (examineTanks (updateGauges s)) .gauge
  rw [enabled_gauge, ← hraise, ← notices_judgedSweep] at hn
  have he : (examineTanks (updateGauges s)).links.enables = s.links.enables := by simp
  simpa [NoticeKind.place, Detail.kind, gauge_examineTanks, he] using hn

/-- What stands of the CHANGE notice is what the examination left. -/
theorem change_judgedSweep (s : State) :
    (judgedSweep s).links.notices.get 7 = (examineTanks (updateGauges s)).links.notices.get 7 := by
  rw [notices_judgedSweep]
  exact notices_raiseGauge_other (k := .change) (by decide) s _

theorem unexplainedIn_updateGauges (s : State) {c : Nat} (hc : c < 48) :
    unexplainedIn (updateGauges s) c = unexplainedOf s c (freshRec s c) := by
  rw [unexplainedIn, gaugeRec_updateGauges s hc]; rfl

theorem change_judgedSweep_quiet {s : State} (h : ∀ c < 48, unexplainedOf s c (freshRec s c) = none) :
    (judgedSweep s).links.notices.get 7 = s.links.notices.get 7 := by
  rw [change_judgedSweep, examineTanks_quiet fun c hc => by rw [unexplainedIn_updateGauges s hc, h c hc]]
  rfl

/-- CHANGE keeps the detail of the highest tank with a change found (R37). -/
theorem change_judgedSweep_found {s : State} {c : Nat} {Δ : Int} (hc : c < 48) (h : unexplainedOf s c (freshRec s c) = some Δ)
    (hlast : ∀ k < 48, c < k → unexplainedOf s k (freshRec s k) = none) :
    (judgedSweep s).links.notices.get 7 =
      if s.links.enables.getLsbD 5 then some (.change c Δ) else s.links.notices.get 7 := by
  rw [change_judgedSweep, change_examineTanks hc (by rw [unexplainedIn_updateGauges s hc, h])
    fun k hk hck => by rw [unexplainedIn_updateGauges s hk, hlast k hk hck]]
  rfl

theorem gravityRec_judgedSweep (s : State) {d : Driver} (hd : d.gravity = true) :
    (judgedSweep s).gravityRec d = lineAfter (s.transfer d)
      (s.gauge.readings.get (s.store.tables.gaugeSlot (s.transfer d).tank)) (s.gravityRec d)
      (tankVolume (judgedSweep s) (s.transfer d).tank) s.time.port := by
  have hv : ∀ c, tankVolume (judgedSweep s) c = tankVolume (raiseGauge s (examineTanks (updateGauges s))) c := fun c => by
    simp [judgedSweep, tankVolume, State.gaugeRec]
  rw [judgedSweep, gravityRec_updateLines _ hd, lineAt, ← judgedSweep, hv]
  have hw := recordsAndNoticesOf_judged s
  generalize raiseGauge s (examineTanks (updateGauges s)) = w at hw ⊢
  rw [show w = _ from hw]
  rfl

/-- Where nothing is in hand a sweep end makes no end check and hands nothing on. -/
theorem finishSweep_at_rest {s : State} (hi : AllIdle s) (hn : HandsNothingOn s) :
    finishSweep s = beginSweep (stopSweep (setRefreshMark (judgedSweep s))) := by
  have hj := judgedSweep_only s
  have hx : AllIdle (setRefreshMark (judgedSweep s)) := fun d => by
    rw [setRefreshMark_transfer, State.transfer_congr (t := s) (by rw [hj])]
    exact hi d
  have hs : HandsNothingOn (setRefreshMark (judgedSweep s)) := by
    have hc : (setRefreshMark (judgedSweep s)).console = s.console := by simp [judgedSweep]
    have hq : (setRefreshMark (judgedSweep s)).seq = s.seq := by simp [judgedSweep]
    rw [HandsNothingOn, hc, hq]
    exact hn
  rw [finishSweep_eq, sweepChecks_allIdle hx, settle_handsNothingOn _ _ hs]

/-- The end checks of an active transfer, in the order of R112. -/
theorem endCheck_spec (w : State) (d : Driver) :
    let x := w.transfer d
    let unmeasured := d.gravity = true ∧ estimated w x.tank = true
    let low := d.gravity = true ∧ headLow w x.tank = true
    let above := x.direction = .fill ∧ ∃ g, w.gaugeRec x.tank = some g ∧ g.offTable = .above
    let reached := if x.direction = .discharge then tankMass w x.tank ≤ x.targetMass else x.targetMass ≤ tankMass w x.tank
    (unmeasured → endCheck w d = some .noMeasure) ∧ (¬ unmeasured → low → endCheck w d = some .headLost) ∧
      (¬ unmeasured → ¬ low → above → endCheck w d = some .overfill) ∧
      (¬ unmeasured → ¬ low → ¬ above → reached → endCheck w d = some .target) ∧
      (¬ unmeasured → ¬ low → ¬ above → ¬ reached → endCheck w d = none) := by
  simp only [← atTarget_iff, ← aboveTable_iff, endCheck]
  refine ⟨fun h1 => ?_, fun h1 h2 => ?_, fun h1 h2 h3 => ?_, fun h1 h2 h3 h4 => ?_, fun h1 h2 h3 h4 => ?_⟩
  · rw [if_pos h1]
  · rw [if_neg h1, if_pos h2]
  · rw [if_neg h1, if_neg h2, if_pos h3]
  · rw [if_neg h1, if_neg h2, if_neg h3, if_pos h4]
  · rw [if_neg h1, if_neg h2, if_neg h3, if_neg h4]

/-- TARGET is found on a transfer under the console once (R173). -/
theorem targetUnderConsole_spec (w : State) (d : Driver) :
    let x := w.transfer d
    let reached := if x.direction = .discharge then tankMass w x.tank ≤ x.targetMass else x.targetMass ≤ tankMass w x.tank
    (reached → w.console.reached.get d = false →
      targetUnderConsole d w = raise (.targetReached d x.tank x.owner (tankMass w x.tank))
        { w with console := { w.console with reached := w.console.reached.set d true } }) ∧
    ((¬ reached ∨ w.console.reached.get d = true) → targetUnderConsole d w = w) := by
  simp only [← atTarget_iff]
  refine ⟨fun h1 h2 => if_pos ⟨h1, h2⟩, fun h => if_neg ?_⟩
  rintro ⟨h1, h2⟩
  rcases h with h | h
  · exact h h1
  · rw [h2] at h; exact absurd h (by decide)

/-- Settles O24: the state that the sweep end's judgements leave is `judgedSweep`, and each end check is `endCheck`. -/
theorem aSweepEndUpdatesTheTanks : Obligations.ASweepEndUpdatesTheTanks := by
  refine ⟨fun s => ⟨judgedSweep s, judgedSweep_only s, fun c hc => ?_, fun c hc b h hlow hb => gauge_judgedSweep hc h hlow hb,
      fun h => gauge_judgedSweep_quiet h, fun c hc Δ h hlast => change_judgedSweep_found hc h hlast,
      fun h => change_judgedSweep_quiet h, fun k h1 h2 => notices_judgedSweep_other s h1 h2, fun d hd => ?_, finishSweep_eq s,
      finishSweep_at_rest⟩,
    fun w d => ⟨fun ha => ?_, fun hh => ?_, fun hr => sweepCheck_rests hr⟩⟩
  · rw [gaugeRec_judgedSweep s hc, unexplainedIn_updateGauges s hc]
    rfl
  · have hline := gravityRec_judgedSweep s hd
    refine ⟨fun hx => hline.trans (if_neg hx), fun hx hr => hline.trans (lineAfter_unmeasured _ _ _ hx hr),
      fun hx mm hr => ?_⟩
    rw [hline, lineAfter_measured _ _ _ hx hr]
    exact ⟨fun hb => measure_first _ _ hb,
      fun b hb => ⟨fun hs => measure_later _ hb hs, fun hs => measure_same _ hb hs, fun hs => measure_back _ hb hs⟩⟩
  · obtain ⟨h1, h2, h3, h4, h5⟩ := endCheck_spec w d
    exact ⟨fun a => sweepCheck_ends ha (h1 a), fun a b => sweepCheck_ends ha (h2 a b),
      fun a b e => sweepCheck_ends ha (h3 a b e), fun a b e f => sweepCheck_ends ha (h4 a b e f),
      fun a b e f => sweepCheck_goes_on ha (h5 a b e f)⟩
  · rw [sweepCheck_handedOver hh]
    exact targetUnderConsole_spec w d

end Sys2Proof.Survey
end

section
/-! PROOF. The statements about the Flow Metering Unit (spec/03_flow_metering.md): the second boundary, a pulse of a pump's
meter, and what ends a pumped transfer whose flow or running feedback fails. -/

namespace Sys2Proof.FlowMetering

open Sys2Proof.Machine

/-! ## The second boundary (R43, R44, R204) -/

/-- One pump's meter record after a second boundary of `s` (R43, R44). -/
def closedMeter (s : State) (p : Pump) : PumpMeter :=
  { s.pumpMeter p with
    rate := if dataValid s ∧ s.store.tables.fitted p.driver then
        pumpRate (sumTab (s.pumpMeter p).bins) (s.store.tables.factor p.driver)
      else 0
    bins := rollBins (s.pumpMeter p).bins }

/-- Each pump closes its second from the record and the tables as they stood before the boundary. -/
theorem pumpMeter_closeSeconds (s : State) (p : Pump) :
    (pumps.foldl closeSecond s).pumpMeter p = closedMeter s p := by
  cases p <;> rfl

theorem pumpMeter_secondBoundary (s : State) (p : Pump) : (secondBoundary s).pumpMeter p = closedMeter s p :=
  (State.pumpMeter_congr (by simp [secondBoundary]) p).trans (pumpMeter_closeSeconds s p)

/-- Beside the pumps' records a second boundary changes the port clock alone. -/
theorem secondBoundary_only (s : State) : secondBoundary s =
    { s with time := { s.time with port := (s.time.port + 1) % 4294967296 }, meter := (secondBoundary s).meter } := rfl

theorem rollBins_shift (bins : Tab 10 Nat) {i : Nat} (h : i < 9) : (rollBins bins).get i = bins.get (i + 1) := by
  rw [rollBins, Tab.get_build _ i (by omega), if_pos h]

theorem rollBins_open (bins : Tab 10 Nat) : (rollBins bins).get 9 = 0 := Tab.get_build _ 9 (by omega)

theorem closedMeter_rate (s : State) (p : Pump) :
    (closedMeter s p).rate =
      if s.store.dataState = .valid ∧ s.store.tables.fitted p.driver = true then
        rdivN ((s.pumpMeter p).bins.cells.sum * s.store.tables.factor p.driver * 9) 2500
      else 0 :=
  if_congr (and_congr_left' Survey.dataValid_iff) rfl rfl

theorem exec_secondBoundary (s : State) : exec .secondBoundary s = .next (unlessHeld secondBoundary s) := rfl

/-- Settles O11: the part after a second boundary is `secondBoundary`, and each pump's record in it is `closedMeter`. -/
theorem aSecondBoundaryClosesTheBins : Obligations.ASecondBoundaryClosesTheBins := by
  refine ⟨fun s hr => ?_, fun s hr => ⟨secondBoundary s, ?_, secondBoundary_only s, rfl, rfl, fun p => ?_⟩⟩
  · rw [exec_secondBoundary, unlessHeld_held _ s hr]
  · rw [exec_secondBoundary, unlessHeld_free _ s hr]
  · refine ⟨rollBins (s.pumpMeter p).bins, fun i hi => rollBins_shift _ hi, rollBins_open _, ?_⟩
    rw [pumpMeter_secondBoundary, ← closedMeter_rate]
    rfl

/-! ## A pulse (R42, R111) -/

/-- A pulse is the first of a transfer in PRIMING (R42, step 4). -/
abbrev IsFirstPulse (s : State) (p : Pump) : Prop :=
  (s.pumpMeter p).phase = .priming ∧ (s.transfer p.driver).state = .priming

/-- A pump's meter record after steps 1 to 3 of a pulse (R42). -/
def countedMeter (s : State) (p : Pump) : PumpMeter :=
  { s.pumpMeter p with
    total := ((s.pumpMeter p).total + 1) % 4294967296
    bins := (s.pumpMeter p).bins.set 9 ((s.pumpMeter p).bins.get 9 + 1)
    unattributed :=
      if (s.transfer p.driver).state = .idle ∧ (s.pumpMeter p).unattributed < 4294967295 then
        (s.pumpMeter p).unattributed + 1
      else (s.pumpMeter p).unattributed }

/-- A driver's transfer after step 3 of a pulse (R42). -/
def countedTransfer (s : State) (d : Driver) : Transfer :=
  if (s.transfer d).state = .idle then s.transfer d
  else { s.transfer d with pulses := ((s.transfer d).pulses + 1) % 4294967296 }

theorem setTransfer_self (s : State) (d : Driver) : s.setTransfer d (s.transfer d) = s := by cases d <;> rfl

theorem countedTransfer_state (s : State) (d : Driver) : (countedTransfer s d).state = (s.transfer d).state := by
  unfold countedTransfer; split <;> rfl

/-- Steps 1 to 3 write the pump's record and its driver's transfer, and nothing else. -/
theorem countPulse_eq (p : Pump) (s : State) :
    countPulse p s = (s.setPumpMeter p (countedMeter s p)).setTransfer p.driver (countedTransfer s p.driver) := by
  by_cases hi : (s.transfer p.driver).state = .idle
  · have hx : countedTransfer s p.driver = (s.setPumpMeter p (countedMeter s p)).transfer p.driver := by
      simp [countedTransfer, hi]
    rw [hx, setTransfer_self, countedMeter, if_congr (and_iff_right hi) rfl rfl]
    simp only [countPulse, holdsTransfer, hi]
    rfl
  · rw [countedMeter, countedTransfer, if_neg (fun h => hi h.1), if_neg hi]
    exact if_pos (bne_iff_ne.2 hi)

/-- A pump's meter record after a pulse (R42). -/
def pulsedMeter (s : State) (p : Pump) : PumpMeter :=
  { countedMeter s p with
    phase := if (s.pumpMeter p).phase = .off then .off else .flowWatch
    countdown := if (s.pumpMeter p).phase = .off then (s.pumpMeter p).countdown
      else s.store.tables.noFlowTime p.driver * 10 }

/-- A pump's transfer after a pulse (R42, R111). -/
def pulsedTransfer (s : State) (p : Pump) : Transfer :=
  if (s.transfer p.driver).state = .idle then s.transfer p.driver
  else { s.transfer p.driver with
    pulses := ((s.transfer p.driver).pulses + 1) % 4294967296
    state := if IsFirstPulse s p then .running else (s.transfer p.driver).state }

/-- What a pulse hands to the Sequencer: the entry into RUNNING, at the first pulse (R111). -/
def pulsedSeq (s : State) (p : Pump) : Sequencer :=
  if IsFirstPulse s p then s.seq.told p.driver (fun q => { q with entered := true }) else s.seq

/-- The part after a pulse, before its hand-on. -/
def pulsed (s : State) (p : Pump) : State :=
  { (s.setPumpMeter p (pulsedMeter s p)).setTransfer p.driver (pulsedTransfer s p) with seq := pulsedSeq s p }

theorem pulsedTransfer_not_first {s : State} {p : Pump} (h : ¬ IsFirstPulse s p) :
    pulsedTransfer s p = countedTransfer s p.driver := by
  simp only [pulsedTransfer, countedTransfer, if_neg h]

theorem pulsedTransfer_first {s : State} {p : Pump} (h : IsFirstPulse s p) :
    pulsedTransfer s p = { countedTransfer s p.driver with state := .running } := by
  have hi : (s.transfer p.driver).state ≠ .idle := by rw [h.2]; decide
  simp only [pulsedTransfer, countedTransfer, if_neg hi, if_pos h]

theorem pulsedMeter_off {s : State} {p : Pump} (h : (s.pumpMeter p).phase = .off) : pulsedMeter s p = countedMeter s p := by
  simp only [pulsedMeter, if_pos h]
  rw [← h]; rfl

/-- The countdown is loaded on the record that steps 1 to 3 left (R42, steps 4 and 5). -/
theorem watchFlow_counted {p : Pump} {s : State} (h : (s.pumpMeter p).phase ≠ .off) :
    watchFlow p (countPulse p s) =
      (s.setPumpMeter p (pulsedMeter s p)).setTransfer p.driver (countedTransfer s p.driver) := by
  rw [countPulse_eq, pulsedMeter, if_neg h, if_neg h]
  cases p <;> rfl

/-- A pulse that is not a transfer's first hands nothing on. -/
theorem pulsed_not_first {s : State} {p : Pump} (h : ¬ IsFirstPulse s p) :
    pulsed s p = (s.setPumpMeter p (pulsedMeter s p)).setTransfer p.driver (countedTransfer s p.driver) := by
  rw [pulsed, pulsedTransfer_not_first h, pulsedSeq, if_neg h]
  cases p <;> rfl

theorem pulsed_first {s : State} {p : Pump} (h : IsFirstPulse s p) :
    pulsed s p = firstPulse p.driver
      ((s.setPumpMeter p (pulsedMeter s p)).setTransfer p.driver (countedTransfer s p.driver)) := by
  have hx : ((s.setPumpMeter p (pulsedMeter s p)).setTransfer p.driver (countedTransfer s p.driver)).transfer p.driver =
      countedTransfer s p.driver := by simp
  rw [firstPulse, hx, if_pos ((countedTransfer_state ..).trans h.2), notify_told, pulsed, pulsedTransfer_first h, pulsedSeq,
    if_pos h]
  cases p <;> rfl

theorem takePulse_eq (p : Pump) (s : State) : takePulse p s = pulsed s p := by
  have hm : ((countPulse p s).pumpMeter p).phase = (s.pumpMeter p).phase := by simp [countPulse_eq, countedMeter]
  simp only [takePulse, hm]
  cases hp : (s.pumpMeter p).phase with
  | off =>
    rw [pulsed_not_first (by simp [hp]), pulsedMeter_off hp]
    exact countPulse_eq p s
  | flowWatch =>
    rw [pulsed_not_first (by simp [hp])]
    exact watchFlow_counted (by simp [hp])
  | priming =>
    rw [watchFlow_counted (by simp [hp])]
    by_cases hx : (s.transfer p.driver).state = .priming
    · exact (pulsed_first ⟨hp, hx⟩).symm
    · rw [pulsed_not_first fun h => hx h.2, firstPulse, if_neg]
      simpa [countedTransfer_state] using hx

theorem pulsed_pumpMeter (s : State) (p q : Pump) :
    (pulsed s p).pumpMeter q = if q = p then pulsedMeter s p else s.pumpMeter q :=
  Eq.trans (by cases q <;> rfl) (State.pumpMeter_setPumpMeter s p q _)

theorem pulsed_transfer (s : State) (p : Pump) (d : Driver) :
    (pulsed s p).transfer d = if d = p.driver then pulsedTransfer s p else s.transfer d := by
  have h := State.transfer_setTransfer (s.setPumpMeter p (pulsedMeter s p)) p.driver d (pulsedTransfer s p)
  rw [State.setPumpMeter_transfer] at h
  exact h

/-- Beside the pumps' records, the transfers and the Sequencer a pulse changes nothing. -/
theorem pulsed_only (s : State) (p : Pump) : pulsed s p = { s with
    meter := { (pulsed s p).meter with g0 := s.meter.g0, g1 := s.meter.g1 }
    xfer := { s.xfer with transfers := (pulsed s p).xfer.transfers }, seq := (pulsed s p).seq } := by
  cases p <;> rfl

theorem exec_meterPulse (p : Pump) (s : State) :
    exec (.meterPulse p) s = .next (unlessHeld (fun s => settle s (takePulse p s)) s) := rfl

/-- Settles O25: the part that a pulse hands on is `pulsed`. -/
theorem aPulseIsTakenWhole : Obligations.APulseIsTakenWhole := by
  refine fun p s => ⟨fun hr => ?_, fun hr => ?_⟩
  · rw [exec_meterPulse, unlessHeld_held _ s hr]
  have hm : (pulsed s p).pumpMeter p = pulsedMeter s p := (pulsed_pumpMeter s p p).trans (if_pos rfl)
  refine ⟨pulsed s p, ?_, ?_, ?_, ?_, ?_, ?_, ?_, (pulsed_transfer s p p.driver).trans (if_pos rfl), rfl,
    fun q hq => (pulsed_pumpMeter s p q).trans (if_neg hq), fun d hd => (pulsed_transfer s p d).trans (if_neg hd),
    pulsed_only s p⟩
  · rw [exec_meterPulse, unlessHeld_free _ s hr, takePulse_eq]
  all_goals rw [hm]; rfl

/-! ## Expiries and trips (R48, R49, R50, R104) -/

/-- Ending a transfer stops its pump and so turns its phase OFF, whether or not the expiry already has (R47, R114). -/
theorem endTransfer_phaseOff (d : Driver) (reason : EndReason) (s : State) :
    endTransfer d reason (phaseOff d s) = endTransfer d reason s := by
  have h : stopDriver d
      ((phaseOff d s).setTransfer d { (phaseOff d s).transfer d with state := .closing, reason := some reason }) =
      stopDriver d (s.setTransfer d { s.transfer d with state := .closing, reason := some reason }) := by
    cases d <;> rfl
  simp only [endTransfer, h]

@[simp] theorem phaseOff_transfer (d e : Driver) (s : State) : (phaseOff d s).transfer e = s.transfer e :=
  State.transfer_congr (by simp) e

theorem endEvent_active {d : Driver} {reason : EndReason} {s : State} (h : (s.transfer d).state.active = true) :
    endEvent d reason s = endTransfer d reason s := if_pos h

theorem endEvent_inactive {d : Driver} {reason : EndReason} {s : State} (h : (s.transfer d).state.active = false) :
    endEvent d reason s = s := if_neg (by simp [h])

theorem expiry_closes {d : Driver} (reason : EndReason) {s : State} (h : (s.transfer d).state.active = true) :
    ClosesWith d reason s (endEvent d reason (phaseOff d s)) := by
  rw [endEvent_active (by simpa using h), endTransfer_phaseOff]
  exact endTransfer_closes d reason s

/-- An expiry that finds no transfer to end turns the phase OFF alone (R47). -/
theorem expiry_inactive {p : Pump} (reason : EndReason) {s : State} (h : (s.transfer p.driver).state.active = false) :
    endEvent p.driver reason (phaseOff p.driver s) =
      s.setPumpMeter p { s.pumpMeter p with phase := .off, countdown := 0 } := by
  rw [endEvent_inactive (by simpa using h)]
  cases p <;> rfl

theorem noFlowReason_eq (s : State) (x : Transfer) : noFlowReason s x =
    if x.direction = .discharge ∧ tankMass s x.tank ≤ s.store.tables.residual x.tank then .stripped else .noFlow := by
  cases hd : x.direction <;> simp [noFlowReason, hd]

theorem pumping_iff {x : XferState} : x.pumping = true ↔ x = .priming ∨ x = .running := by cases x <;> decide

theorem pumping_active {x : XferState} (h : x.pumping = true) : x.active = true := by
  rcases pumping_iff.1 h with rfl | rfl <;> rfl

theorem exec_primingExpiry_runs {p : Pump} {s : State} (h : (s.pumpMeter p).phase = .priming) :
    exec (.primingExpiry p) s = .next (settle s (endEvent p.driver .noFlow (phaseOff p.driver s))) :=
  congrArg Host.Outcome.next (if_pos h)

theorem exec_primingExpiry_stale {p : Pump} {s : State} (h : (s.pumpMeter p).phase ≠ .priming) :
    exec (.primingExpiry p) s = .next s := congrArg Host.Outcome.next (if_neg h)

theorem exec_noFlowExpiry_runs {p : Pump} {s : State}
    (h : (s.pumpMeter p).phase = .flowWatch ∧ (s.pumpMeter p).countdown = 0) :
    exec (.noFlowExpiry p) s =
      .next (settle s (endEvent p.driver (noFlowReason s (s.transfer p.driver)) (phaseOff p.driver s))) :=
  congrArg Host.Outcome.next (if_pos h)

theorem exec_noFlowExpiry_stale {p : Pump} {s : State}
    (h : ¬ ((s.pumpMeter p).phase = .flowWatch ∧ (s.pumpMeter p).countdown = 0)) : exec (.noFlowExpiry p) s = .next s :=
  congrArg Host.Outcome.next (if_neg h)

theorem exec_runningFeedbackFall_trips {p : Pump} {s : State} (hf : s.inputs.running p = true)
    (hx : (s.transfer p.driver).state.pumping = true) :
    exec (.runningFeedbackFall p) s = .next (settle s (endEvent p.driver .pumpTrip (setFeedback p false s))) :=
  congrArg Host.Outcome.next (if_pos ⟨hf, hx⟩)

theorem exec_runningFeedbackFall_quiet {p : Pump} {s : State}
    (h : ¬ (s.inputs.running p = true ∧ (s.transfer p.driver).state.pumping = true)) :
    exec (.runningFeedbackFall p) s = .next (setFeedback p false s) := congrArg Host.Outcome.next (if_neg h)

@[simp] theorem setFeedback_transfer (p : Pump) (b : Bool) (s : State) (d : Driver) :
    (setFeedback p b s).transfer d = s.transfer d := State.transfer_congr rfl d

theorem trip_closes {p : Pump} {s : State} (h : (s.transfer p.driver).state.pumping = true) :
    ClosesWith p.driver .pumpTrip (setFeedback p false s) (endEvent p.driver .pumpTrip (setFeedback p false s)) := by
  rw [endEvent_active (by simpa using pumping_active h)]
  exact endTransfer_closes ..

/-- Settles O26: an expiry whose phase runs ends the transfer by `expiry_closes`, a fall by `trip_closes`, and the others
change what the statement names alone. -/
theorem expiriesAndTripsEndAPumpedTransfer : Obligations.ExpiriesAndTripsEndAPumpedTransfer := by
  refine ⟨fun p s => ⟨fun hp => ⟨fun ha => ?_, fun hi => ?_⟩, fun hf => ⟨fun ha => ?_, fun hi => ?_⟩,
    exec_primingExpiry_stale, exec_noFlowExpiry_stale⟩, fun p s => ⟨fun hf hx => ?_, fun h => ?_, rfl⟩⟩
  · exact ⟨_, exec_primingExpiry_runs hp, expiry_closes .noFlow ha⟩
  · rw [exec_primingExpiry_runs hp, expiry_inactive .noFlow hi]
  · refine ⟨_, exec_noFlowExpiry_runs hf, ?_⟩
    rw [noFlowReason_eq]
    exact expiry_closes _ ha
  · rw [exec_noFlowExpiry_runs hf, expiry_inactive _ hi]
  · have hx := pumping_iff.2 hx
    exact ⟨_, exec_runningFeedbackFall_trips hf hx, trip_closes hx⟩
  · refine exec_runningFeedbackFall_quiet fun ⟨hf, hx⟩ => ?_
    rcases h with h | ⟨h1, h2⟩
    · exact absurd (hf.symm.trans h) (by decide)
    · exact (pumping_iff.1 hx).elim h1 h2

end Sys2Proof.FlowMetering
end

section
/-! PROOF. The statements about the Condition Engine (spec/04_the_condition_engine.md): FIXM, the figures of a condition and the
taking of marks, the completion of a projection, and a refresh with all that a publish hands on. -/

namespace Sys2Proof.ConditionEngine

open Sys2Proof.Machine Sys2Proof.Survey

/-! ## FIXM (R76) -/

theorem rule_fixm : RuleOf .fixm fixmMsg := ⟨rfl, fun _ _ => rfl⟩

theorem readArgs_compMass {c m : Nat} (hc : c < 256) (hm : m < 4294967296) :
    readArgs [1, 4] (toBE c 1 ++ toBE m 4) = some [c, m] := by
  rw [readArgs_eq _ _ (by simp), cutFields_append 1 _ _ _ (by omega), cutFields_one 4 _ (by omega)]

theorem isFixed_iff {T : Tables} {c : Nat} : T.isFixed c = true ↔ T.kind c = some .fixed := beq_iff_eq

/-- A number beyond the rows of T1 names no compartment, and reads as UNUSED. -/
theorem kind_beyond (T : Tables) {c : Nat} (h : 48 ≤ c) : T.kind c = some .unused := by
  have : rowBytes T.t1 c = [] := by simp [rowBytes, Tab.get?, T.t1.full, h]
  rw [Tables.kind, Tables.kindCode, this]; rfl

section
variable {args : List Byte} {c m : Nat} (u : State)

theorem fixmMsg_length (h : args.length ≠ 5) : fixmMsg args u = refuse .length u := by
  simp only [fixmMsg, readArgs_none [1, 4] args h]

theorem fixmMsg_data (h : readArgs [1, 4] args = some [c, m]) (hv : u.store.dataState ≠ .valid) :
    fixmMsg args u = refuseData u := by
  simp only [fixmMsg, h, if_pos (dataValid_eq_false_iff.2 hv)]

theorem fixmMsg_range (h : readArgs [1, 4] args = some [c, m]) (hv : u.store.dataState = .valid)
    (hbad : u.store.tables.isFixed c = false ∨ 4000000 < m) : fixmMsg args u = refuse .range u := by
  simp only [fixmMsg, h, dataValid_iff.2 hv, Bool.true_eq_false, if_false]
  rcases hbad with hc | hm
  · rw [if_pos hc]
  · rw [if_pos (show massMax < m from hm), ite_self]

theorem fixmMsg_sets (h : readArgs [1, 4] args = some [c, m]) (hv : u.store.dataState = .valid)
    (hc : u.store.tables.isFixed c = true) (hm : m ≤ 4000000) :
    fixmMsg args u = done (setFixed c m u) [.num (u.engine.fixed.get c), .num m] := by
  simp only [fixmMsg, h, dataValid_iff.2 hv, hc, Bool.true_eq_false, if_false, if_neg (show ¬ massMax < m from not_lt.2 hm)]
  rfl

end

/-- Settles O33: FIXM is refused by the first check that fails, and an accepted one is `setFixed`. -/
theorem fixmSetsAFixedMass : Obligations.FixmSetsAFixedMass := by
  refine ⟨fun s c m hr hc hm => ?_, rule_fixm.otherForms fun args u h => fixmMsg_length u h, unknownOnShore _ rfl⟩
  have hargs := readArgs_compMass hc hm
  have hlen : (toBE c 1 ++ toBE m 4).length ≤ maxArgs := by simp [maxArgs]
  refine ⟨fun hv => rule_fixm.refusesData hr hlen (fixmMsg_data _ hargs hv),
    fun hv hbad => rule_fixm.refuses hr hlen (fixmMsg_range _ hargs hv ?_),
    fun hv _ hk h1 => rule_fixm.answers hr hlen (fixmMsg_sets _ hargs hv (isFixed_iff.2 hk) h1)⟩
  change s.store.tables.isFixed c = false ∨ _
  rw [← Bool.not_eq_true, isFixed_iff]
  rcases hbad with hc | hk | hm
  · exact .inl (by rw [kind_beyond _ hc]; decide)
  · exact .inl hk
  · exact .inr hm

/-! ## The greatest figure and its place (R67) -/

/-- `best` is the greatest figure of the list with its place, the lowest place that holds it (R67). -/
def IsGreatest (xs : List Nat) (best : Nat × Nat) : Prop :=
  xs[best.2]? = some best.1 ∧ ∀ j x, xs[j]? = some x → x ≤ best.1 ∧ (j < best.2 → x < best.1)

theorem IsGreatest.place_lt {xs : List Nat} {best : Nat × Nat} (h : IsGreatest xs best) : best.2 < xs.length :=
  (List.getElem?_eq_some_iff.1 h.1).1

/-- One more figure takes the place of the greatest only where it is greater. -/
theorem IsGreatest.append {xs : List Nat} {best : Nat × Nat} (h : IsGreatest xs best) (x : Nat) :
    IsGreatest (xs ++ [x]) (if best.1 < x then (x, xs.length) else best) := by
  have hlt := h.place_lt
  obtain ⟨hbest, hall⟩ := h
  have hcase : ∀ {j y}, (xs ++ [x])[j]? = some y → xs[j]? = some y ∨ (j = xs.length ∧ y = x) := fun {j y} hj => by
    rw [List.getElem?_append] at hj
    split at hj
    · exact .inl hj
    · have : j - xs.length = 0 := by simpa using (List.getElem?_eq_some_iff.1 hj).1
      rw [this] at hj
      exact .inr ⟨by omega, by simpa using hj.symm⟩
  split
  next hx =>
    refine ⟨by simp, fun j y hj => ?_⟩
    rcases hcase hj with hj | ⟨rfl, rfl⟩
    · have := (hall j y hj).1
      exact ⟨by omega, fun _ => by omega⟩
    · exact ⟨le_rfl, fun h => absurd h (lt_irrefl _)⟩
  next hx =>
    refine ⟨by rw [List.getElem?_append_left hlt, hbest], fun j y hj => ?_⟩
    rcases hcase hj with hj | ⟨rfl, rfl⟩
    · exact hall j y hj
    · exact ⟨not_lt.1 hx, fun h => absurd h (by omega)⟩

/-- The fold over the rest of a list keeps the greatest of what it has passed. -/
theorem IsGreatest.foldl : ∀ (xs : List Nat) {before : List Nat} {best : Nat × Nat}, IsGreatest before best →
    IsGreatest (before ++ xs)
      ((xs.zipIdx before.length).foldl (fun best x => if best.1 < x.1 then x else best) best)
  | [], _, _, h => by simpa using h
  | x :: xs, before, best, h => by
    have := IsGreatest.foldl xs (h.append x)
    rw [List.append_assoc, List.length_append] at this
    exact this

theorem greatest_isGreatest {xs : List Nat} (h : xs ≠ []) : IsGreatest xs (greatest xs) := by
  obtain ⟨x, xs, rfl⟩ := List.exists_cons_of_ne_nil h
  have h1 : IsGreatest [x] (x, 0) := ⟨rfl, fun j y hj => by
    obtain ⟨hlt, rfl⟩ := List.getElem?_eq_some_iff.1 hj
    simp⟩
  simpa [greatest] using IsGreatest.foldl xs h1

/-! ## The hydrostatic table (R61) -/

/-- At an end row the interpolation gives that row's figure. -/
theorem interp_endRow (k : Nat) (b : Bool) (q : Nat → Int) : (HydroPlace.mk k k 0 1 b).interp q = q k := by
  simp [HydroPlace.interp, rdiv_zero]

section
variable {T : Tables} {Δ : Nat}

theorem hydroPlace_below (h : Δ < T.hydroDisp 0) : hydroPlace T Δ = ⟨0, 0, 0, 1, true⟩ := if_pos h

theorem hydroPlace_above (h0 : T.hydroDisp 0 ≤ Δ) (h : T.hydroDisp (T.hydroCount - 1) < Δ) :
    hydroPlace T Δ = ⟨T.hydroCount - 1, T.hydroCount - 1, 0, 1, true⟩ :=
  (if_neg (not_lt.2 h0)).trans (if_pos h)

theorem interp_below (h : Δ < T.hydroDisp 0) :
    (∀ q, (hydroPlace T Δ).interp q = q 0) ∧ (hydroPlace T Δ).clamped = true := by
  rw [hydroPlace_below h]
  exact ⟨interp_endRow 0 true, rfl⟩

theorem interp_above (h0 : T.hydroDisp 0 ≤ Δ) (h : T.hydroDisp (T.hydroCount - 1) < Δ) :
    (∀ q, (hydroPlace T Δ).interp q = q (T.hydroCount - 1)) ∧ (hydroPlace T Δ).clamped = true := by
  rw [hydroPlace_above h0 h]
  exact ⟨interp_endRow _ true, rfl⟩

theorem hydroPlace_within (h0 : T.hydroDisp 0 ≤ Δ) (h : Δ ≤ T.hydroDisp (T.hydroCount - 1)) :
    (hydroPlace T Δ).clamped = false := by
  rw [hydroPlace, if_neg (not_lt.2 h0), if_neg (not_lt.2 h)]

/-- Within the table the place is the lowest pair of rows whose upper row is not passed (R61). -/
theorem hydroPlace_pair (h0 : T.hydroDisp 0 ≤ Δ) (h : Δ ≤ T.hydroDisp (T.hydroCount - 1)) {k : Nat}
    (hk : k < T.hydroCount - 1) (hlow : ∀ j < k, T.hydroDisp (j + 1) < Δ) (hup : Δ ≤ T.hydroDisp (k + 1)) :
    hydroPlace T Δ = ⟨k, k + 1, Δ - T.hydroDisp k, T.hydroDisp (k + 1) - T.hydroDisp k, false⟩ := by
  have hfind : (List.range (T.hydroCount - 1)).find? (fun k => decide (Δ ≤ T.hydroDisp (k + 1))) = some k := by
    rw [List.find?_range_eq_some]
    exact ⟨by simpa using hup, List.mem_range.2 hk, fun j hj => by simpa using hlow j hj⟩
  simp only [hydroPlace, if_neg (not_lt.2 h0), if_neg (not_lt.2 h), hfind, Option.getD_some]

/-- The lower row of the pair is not above the displacement, so that the proportion is not cut at 0. -/
theorem lowerRow_le (h0 : T.hydroDisp 0 ≤ Δ) : ∀ {k : Nat}, (∀ j < k, T.hydroDisp (j + 1) < Δ) → T.hydroDisp k ≤ Δ
  | 0, _ => h0
  | k + 1, h => (h k (Nat.lt_succ_self k)).le

theorem interp_within (h0 : T.hydroDisp 0 ≤ Δ) (h : Δ ≤ T.hydroDisp (T.hydroCount - 1)) {k : Nat}
    (hk : k < T.hydroCount - 1) (hlow : ∀ j < k, T.hydroDisp (j + 1) < Δ) (hup : Δ ≤ T.hydroDisp (k + 1)) (q : Nat → Int) :
    (hydroPlace T Δ).interp q =
      q k + rdiv ((q (k + 1) - q k) * ((Δ : Int) - T.hydroDisp k)) (T.hydroDisp (k + 1) - T.hydroDisp k) := by
  rw [hydroPlace_pair h0 h hk hlow hup, HydroPlace.interp, Nat.cast_sub (lowerRow_le h0 hlow)]

end

/-! ## The condition of a list of compartments (R60 to R68) -/

theorem conditionOf_cps (T : Tables) (cs : List SnapComp) :
    (conditionOf T cs).cps =
      (List.range T.cpCount).map (checkpointFig T cs (hydroPlace T (displacement cs)) (conditionOf T cs).trim) := rfl

/-- The figures of a checkpoint in use are those of stages 6 to 9 (R64 to R67). -/
theorem cps_get {T : Tables} {cs : List SnapComp} {j : Nat} {f : CpFig} (h : (conditionOf T cs).cps[j]? = some f) :
    f = checkpointFig T cs (hydroPlace T (displacement cs)) (conditionOf T cs).trim j := by
  rw [conditionOf_cps, List.getElem?_map] at h
  obtain ⟨i, hi, rfl⟩ := Option.map_eq_some_iff.1 h
  obtain ⟨_, rfl⟩ := List.getElem?_eq_some_iff.1 hi
  simp

/-- The greatest of a figure over the checkpoints bounds it at each of them, and stands at the lowest place (R67). -/
theorem greatest_cps {cps : List CpFig} (fig : CpFig → Nat) {j : Nat} {f : CpFig} (h : cps[j]? = some f) :
    let best := greatest (cps.map fig)
    fig f ≤ best.1 ∧ (j < best.2 → fig f < best.1) ∧ (j = best.2 → fig f = best.1) := by
  have hj : (cps.map fig)[j]? = some (fig f) := by rw [List.getElem?_map, h]; rfl
  obtain ⟨hbest, hall⟩ := greatest_isGreatest (xs := cps.map fig) (by rintro hn; simp [hn] at hj)
  refine ⟨(hall j _ hj).1, (hall j _ hj).2, ?_⟩
  rintro rfl
  exact Option.some.inj (hj.symm.trans hbest)

theorem greatest_place {cps : List CpFig} (fig : CpFig → Nat) (h : 1 ≤ cps.length) :
    (greatest (cps.map fig)).2 < cps.length := by
  have := (greatest_isGreatest (xs := cps.map fig) (by rintro hn; simp at hn; simp [hn] at h)).place_lt
  simpa using this

/-- A quality flag that asks something of the snapshot's tanks (R68). -/
theorem anyTank_iff (cs : List SnapComp) (p : SnapTank → Bool) :
    (cs.filterMap SnapComp.tank).any p = true ↔ ∃ y ∈ cs, ∃ t, y.tank = some t ∧ p t = true := by
  simp only [List.any_eq_true, List.mem_filterMap]
  exact ⟨fun ⟨t, ⟨y, hy, ht⟩, hp⟩ => ⟨y, hy, t, ht, hp⟩, fun ⟨y, hy, t, ht, hp⟩ => ⟨t, ⟨y, hy, ht⟩, hp⟩⟩

theorem source_estimate_iff (st : GaugeState) : st.source = .estimate ↔ st = .lost ∨ st = .masked := by
  cases st <;> simp [GaugeState.source]

theorem source_gauge_iff (st : GaugeState) : st.source = .gauge ↔ st = .unread ∨ st = .good ∨ st = .held := by
  cases st <;> simp [GaugeState.source]

/-! ## Snapshots and marks (R55, R57, R58) -/

theorem unreadEnabled_eq_nil_iff (s : State) : unreadEnabled s = [] ↔ ∀ c < 48, ∀ g, s.gaugeRec c = some g →
    g.state = .unread → s.gauge.currentMask.getLsbD (s.store.tables.gaugeSlot c) = false := by
  rw [unreadEnabled, List.filter_eq_nil_iff]
  refine forall_congr' fun c => ?_
  rw [mem_compartments]
  refine forall_congr' fun _ => ?_
  cases s.gaugeRec c <;> simp [maskFlag]

/-- A refresh may be run while no enabled tank is UNREAD (R57). -/
theorem refreshMay_iff (s : State) : refreshMay s = true ↔ ∀ c < 48, ∀ g, s.gaugeRec c = some g →
    g.state = .unread → s.gauge.currentMask.getLsbD (s.store.tables.gaugeSlot c) = false := by
  rw [refreshMay, List.isEmpty_iff, unreadEnabled_eq_nil_iff]

/-- The job that begins on the part as it stands (R57, R58). -/
def jobOn (s : State) (task : Task) : Job :=
  let snap := takeSnapshot s (task != .refresh)
  ⟨task, snap, workingOf s.store.tables task snap, publishedSeq s⟩

/-- The part with the engine's marks and job set. -/
def withMarks (s : State) (refresh : Bool) (proj : Option ProjReq) (job : Option Job) : State :=
  { s with engine := { s.engine with refreshMark := refresh, projMark := proj, job := job } }

section
variable {s : State}

theorem takeRefresh_begins (h : refreshMay s = true) :
    takeRefresh s = withMarks s false s.engine.projMark (some (jobOn s .refresh)) := if_pos h

theorem takeRefresh_declines (h : ¬ refreshMay s = true) :
    takeRefresh s = withMarks s false s.engine.projMark s.engine.job := if_neg h

theorem takeProjection_begins (req : ProjReq) (h : s.engine.published.isSome) :
    takeProjection req s = withMarks s s.engine.refreshMark none (some (jobOn s (.projection req false))) := if_pos h

theorem takeProjection_declines (req : ProjReq) (h : s.engine.published = none) :
    takeProjection req s = withMarks s s.engine.refreshMark none s.engine.job := if_neg (by simp [h])

theorem takeMark_busy (h : s.engine.job.isSome) : takeMark s = s := by
  obtain ⟨j, hj⟩ := Option.isSome_iff_exists.1 h
  simp only [takeMark, hj]

theorem takeMark_none (hj : s.engine.job = none) (hr : s.engine.refreshMark = false) (hp : s.engine.projMark = none) :
    takeMark s = s := by
  simp only [takeMark, hj, hr, hp]

theorem takeMark_refresh (hj : s.engine.job = none) (hr : s.engine.refreshMark = true)
    (h : s.engine.projMark = none ∨ s.engine.lastKind ≠ some .refresh) : takeMark s = takeRefresh s := by
  cases hp : s.engine.projMark with
  | none => simp only [takeMark, hj, hr, hp]
  | some req =>
    have hl := h.resolve_left (by simp [hp])
    simp only [takeMark, hj, hr, hp, if_neg hl]

theorem takeMark_projection {req : ProjReq} (hj : s.engine.job = none) (hp : s.engine.projMark = some req)
    (h : s.engine.refreshMark = false ∨ s.engine.lastKind = some .refresh) : takeMark s = takeProjection req s := by
  cases hr : s.engine.refreshMark with
  | false => simp only [takeMark, hj, hr, hp]
  | true =>
    have hl := h.resolve_left (by simp [hr])
    simp only [takeMark, hj, hr, hp, if_pos hl]

theorem engineRun_busy (h : s.engine.job.isSome) : engineRun s = s := by
  rw [engineRun, takeMark_busy h, takeMark_busy h]

theorem setRefreshMark_valid (hv : s.store.dataState = .valid) :
    setRefreshMark s = engineRun (withMarks s true s.engine.projMark s.engine.job) := if_pos (dataValid_iff.2 hv)

theorem setRefreshMark_not_valid (hv : s.store.dataState ≠ .valid) : setRefreshMark s = s :=
  if_neg (by simpa [dataValid_iff] using hv)

end

theorem publishedSeq_eq (s : State) : publishedSeq s = (s.engine.published.map Published.seq).getD 0 := by
  rw [publishedSeq]; cases s.engine.published <;> rfl

/-- A compartment of case B: a ballast tank that a transfer in flight holds has its target mass (R72). -/
def withTarget (targets : List (Nat × Nat)) (y : SnapComp) : SnapComp :=
  match targets.find? fun t => t.1 == y.comp with
  | some t => if y.kind = .ballast then { y with mass := t.2 } else y
  | none => y

theorem caseB_eq (req : ProjReq) (snap : Snapshot) :
    caseB req snap = (caseA req snap.comps).map (withTarget snap.targets) := by
  refine List.map_congr_left fun y _ => ?_
  by_cases hk : y.kind = .ballast <;> cases hf : snap.targets.find? (fun t => t.1 == y.comp) <;>
    simp [withTarget, hk, hf]

/-! ## The completion of a projection (R72 to R74) -/

theorem floored_eq (t : Int) : (floored t : Int) = max 0 t := by rw [floored]; omega

/-- The clearance of a hold from the drafts of a condition (R63, R83). -/
theorem clearanceAt_eq (T : Tables) (boom : Nat) (tide : Int) (row : Nat) (c : Condition) :
    clearanceAt T boom tide row c =
      boom - tide - (T.coaming row - max 0 (c.tRef - rdiv (c.trim * T.centre row) T.lbp)) := by
  rw [clearanceAt, floored_eq, draftAt]

theorem exec_projectionComplete_ends {s : State} {req : ProjReq} {void : Bool} {snap : Snapshot} {a b : Condition} {n : Nat}
    (h : s.engine.job = some ⟨.projection req void, snap, [a, b], n⟩) : exec .projectionComplete s =
      .next (completeProjection ⟨.projection req void, snap, [a, b], n⟩ req void a b s) := by
  change Host.Outcome.next (projectionEnds s) = _
  simp only [projectionEnds, h]

/-- With no projection in flight nothing completes (log entry 6). -/
theorem exec_projectionComplete_quiet {s : State} (h : ∀ j req void, s.engine.job = some j → j.task ≠ .projection req void) :
    exec .projectionComplete s = .next s := by
  change Host.Outcome.next (projectionEnds s) = _
  rw [projectionEnds]
  split
  · next hj => exact absurd rfl (h _ _ _ hj)
  · rfl

theorem discards_iff (s : State) (req : ProjReq) (void : Bool) :
    discards s req void = true ↔ req.gen ≠ s.tracker.gen ∨ s.tracker.op ≠ .loading ∨ void = true := by
  simp [discards, or_assoc]

section
variable {s : State} {j : Job} {req : ProjReq} {void : Bool} {a b : Condition}

/-- The part after a projection whose result is discarded, before the engine is free (R74). -/
def projectionEnded (s : State) : State := { s with engine := { s.engine with lastKind := some .projection } }

/-- The same with a result kept (R74). -/
def resultKept (s : State) (r : ProjResult) : State :=
  { s with engine := { s.engine with lastKind := some .projection, result := some r } }

theorem completeProjection_discards (h : discards s req void = true) :
    completeProjection j req void a b s = freeEngine (projectionEnded s) := if_pos h

theorem completeProjection_keeps (h : ¬ discards s req void = true) : completeProjection j req void a b s =
    freeEngine (acceptResult (projResult s j req a b) (resultKept s (projResult s j req a b))) := if_neg h

theorem acceptResult_other {r : ProjResult} (h : ∀ k, concerned s = some k → k.entry.pour ≠ r.req.pour) :
    acceptResult r s = s := by
  unfold acceptResult
  split
  · next k hk => exact if_neg fun e => h k hk e.1.symm
  · rfl

theorem acceptResult_concerned {r : ProjResult} {k : Concerned} (hk : concerned s = some k) (hp : k.entry.pour = r.req.pour)
    (hg : r.req.gen = s.tracker.gen) : acceptResult r s = evaluate { s with
      tracker := { s.tracker with standing := some ⟨r.reasons.empty, r.req.pour, r.req.gen, r.reasons⟩ } } := by
  simp only [acceptResult, hk, hp, hg, and_self, if_true]; rfl

end

/-- Settles O35: the condition is `conditionOf` stage by stage, a job begins as `jobOn`, the engine takes the mark that the
`takeMark` lemmas name, and a projection completes by `completeProjection`. -/
theorem aJobComputesItsConditionAndAProjectionIsJudged : Obligations.AJobComputesItsConditionAndAProjectionIsJudged := by
  refine ⟨fun T cs => ?_, fun s => ?_, fun s h => exec_projectionComplete_quiet h,
    fun s j req void a b hj htask hworking => ?_⟩
  · -- the figures of a list of compartments (R60 to R68)
    intro c Δ last sum kindMass holds
    refine ⟨(hydroPlace T Δ).interp, interp_below, interp_above,
      fun h0 h => ⟨hydroPlace_within h0 h, fun k hk hlow hup q => interp_within h0 h hk hlow hup q⟩,
      rfl, rfl, rfl, ⟨rfl, ?_⟩, rfl, rfl, rfl, rfl, rfl, ?_, fun j f hf => ?_, fun h => ?_, ?_, ?_, ?_, ?_⟩
    · exact Bool.eq_iff_iff.2 (bne_iff_ne.trans decide_eq_true_iff.symm)
    · exact (List.length_map ..).trans List.length_range
    · obtain rfl := cps_get hf
      obtain ⟨hsf, hsfLow, hsfAt⟩ := greatest_cps CpFig.sfMille hf
      obtain ⟨hbm, hbmLow, hbmAt⟩ := greatest_cps CpFig.bmMille hf
      exact ⟨rfl, rfl, rfl, rfl, hsf, hbm, hsfLow, hbmLow, hsfAt, hbmAt⟩
    · have hlen : c.cps.length = T.cpCount := (List.length_map ..).trans List.length_range
      rw [← hlen] at h ⊢
      exact ⟨greatest_place _ h, greatest_place _ h⟩
    · exact (anyTank_iff cs _).trans (by simp)
    · exact (anyTank_iff cs _).trans (by simp [source_estimate_iff])
    · exact (anyTank_iff cs _).trans (by simp [source_gauge_iff])
    · exact (anyTank_iff cs _).trans (by simp)
  · -- the job that begins, and the mark that the free engine takes (R55 to R58, R72)
    intro T comp comps targets addCargo atTarget mark pubSeq refreshJob projJob may p refreshes projects
    have hcomps : compartments.filterMap (snapComp s) = comps := by
      refine congrArg (List.filterMap · compartments) (funext fun c => ?_)
      rw [snapComp]
      cases h : s.store.tables.kind c with
      | none => simp [comp, T, h]
      | some k =>
        simp only [comp, T, h, Option.bind_some]
        cases k <;> rfl
    have hrefresh : jobOn s .refresh = refreshJob := by
      simp only [jobOn, takeSnapshot, workingOf, publishedSeq_eq, hcomps]
      rfl
    have hproj : ∀ req, jobOn s (.projection req false) = projJob req := fun req => by
      simp only [jobOn, takeSnapshot, workingOf, publishedSeq_eq, hcomps, caseB_eq]
      rfl
    have hrefreshes : s.engine.job = none → takeMark s = takeRefresh s → refreshes := fun hj ht => by
      refine ⟨fun hm => ?_, fun hm => ?_⟩
      · rw [ht, takeRefresh_begins ((refreshMay_iff s).2 hm), hrefresh]; rfl
      · rw [ht, takeRefresh_declines (mt (refreshMay_iff s).1 hm), hj]; rfl
    have hprojects : ∀ req, s.engine.job = none → takeMark s = takeProjection req s → projects req := fun req hj ht => by
      refine ⟨fun hm => ?_, fun hm => ?_⟩
      · rw [ht, takeProjection_begins req hm, hproj]; rfl
      · rw [ht, takeProjection_declines req hm, hj]; rfl
    exact ⟨takeMark_busy, fun hj => ⟨takeMark_none hj, fun hr hp => hrefreshes hj (takeMark_refresh hj hr hp),
      fun req hp hr => hprojects req hj (takeMark_projection hj hp hr)⟩, rfl, setRefreshMark_valid, setRefreshMark_not_valid⟩
  · -- the result of a completed projection (R73, R74, R157)
    obtain ⟨task, snap, working, n⟩ := j
    obtain rfl : task = .projection req void := htask
    obtain rfl : working = [a, b] := hworking
    intro T free ended clearance failed case r kept off
    have hclear : ∀ x, caseClearance s req.hold x = clearance x := fun x => by
      simp only [caseClearance, clearanceAt_eq]
      rfl
    have hfailed : ∀ x, caseReasons s x (caseClearance s req.hold x) = failed x := fun x => by
      rw [hclear]
      simp only [caseReasons, trimFlag, ← Bool.decide_or]
      rfl
    have hcase : ∀ x, caseResult s req.hold x = case x := fun x => by
      rw [caseResult, hfailed, hclear]
      rfl
    have hr : projResult s ⟨.projection req void, snap, [a, b], n⟩ req a b = r := by
      simp only [projResult, hcase]
      rfl
    rw [exec_projectionComplete_ends hj]
    refine ⟨fun ho => ?_, fun ho hk => ?_, fun ho k hk hp => ?_⟩
    · rw [completeProjection_discards ((discards_iff ..).2 ho)]; rfl
    · rw [completeProjection_keeps (mt (discards_iff ..).1 ho), hr, acceptResult_other (s := resultKept s r) (r := r) hk]; rfl
    · have hg : req.gen = s.tracker.gen := by_contra fun h => ho (.inl h)
      rw [completeProjection_keeps (mt (discards_iff ..).1 ho), hr,
        acceptResult_concerned (s := resultKept s r) (r := r) hk hp hg]
      rfl

/-! ## The head of a gravity transfer (R107, R113) -/

theorem gravityHead_eq {w : State} {c : Nat} {g : GaugeRec} (p : Published) (h : w.gaugeRec c = some g) :
    gravityHead w c p = (w.store.tables.bottom c : Int) + g.corrected -
      max 0 (p.cond.tRef - rdiv (p.cond.trim * w.store.tables.centre c) w.store.tables.lbp) := by
  simp only [gravityHead, h, floored_eq, draftAt]
  rfl

theorem active_of_opening_or_running {x : XferState} (h : x = .opening ∨ x = .running) : x.active = true := by
  rcases h with rfl | rfl <;> rfl

theorem headCheck_closes {w : State} {d : Driver}
    (hx : (w.transfer d).state = .opening ∨ (w.transfer d).state = .running)
    (hlow : headLow w (w.transfer d).tank = true) : ClosesWith d .headLost w (headCheck w d) := by
  rw [headCheck, if_pos ⟨hx, hlow⟩, FlowMetering.endEvent_active (active_of_opening_or_running hx)]
  exact endTransfer_closes ..

theorem headCheck_keeps {w : State} {d : Driver}
    (h : ¬ (((w.transfer d).state = .opening ∨ (w.transfer d).state = .running) ∧ headLow w (w.transfer d).tank = true)) :
    headCheck w d = w := if_neg h

/-! ## The judgement of a publish (R83 to R89, R92) -/

theorem nextWatch_breach (w : Watch) {m : Nat} (c b : Nat) (h : 1000 ≤ m) : nextWatch w m c b = .breach := if_pos h

/-- The stress watch below 1,000 by the table of R87. -/
theorem nextWatch_below (w : Watch) {m : Nat} (c b : Nat) (h : m < 1000) :
    (w = .normal → nextWatch w m c b = if c ≤ m then .caution else .normal) ∧
    (w = .caution → nextWatch w m c b = if c ≤ m + b then .caution else .normal) ∧
    (w = .breach → (m + b < c → nextWatch w m c b = .normal) ∧
      (c ≤ m + b → nextWatch w m c b = if 1000 ≤ m + b then .breach else .caution)) := by
  refine ⟨?_, ?_, ?_⟩ <;> rintro rfl <;> rw [nextWatch, if_neg (not_le.2 h)]
  exact ⟨fun hc => if_pos hc, fun hc => if_neg (not_lt.2 hc)⟩

/-- M is the greater of the two stress figures (R87). -/
theorem stress_fst (c : Condition) : c.stress.1 = max c.maxSf c.maxBm := by
  unfold Condition.stress; split
  · exact (max_eq_left ‹_›).symm
  · exact (max_eq_right (le_of_lt (not_le.1 ‹_›))).symm

theorem stress_snd (c : Condition) :
    c.stress.2 = if c.maxBm ≤ c.maxSf then (.sf, c.maxSfAt) else (.bm, c.maxBmAt) := by
  unfold Condition.stress; split <;> rfl

/-- The end that the deepest draft names is the deeper one (R80). -/
theorem deepestOf_end (c : Condition) :
    (c.tFwd < c.tAft → (deepestOf c).2 = .aft) ∧ (c.tAft < c.tFwd → (deepestOf c).2 = .fwd) :=
  ⟨fun h => if_pos h, fun h => (if_neg (not_lt.2 h.le)).trans (if_pos h)⟩

/-- A raised notice does not read the Limits Unit (R200). -/
theorem raise_withLimits (d : Detail) (s : State) (l : Limits) :
    raise d { s with limits := l } = { raise d s with limits := l } := by
  unfold raise; split <;> rfl

/-- The part with the Limits Unit's record of a setting of the stop latch, the pour enable line off (R89, R92). -/
def latchSet (cause : LatchCause) (number : Nat) (s : State) : State :=
  { s with limits := { s.limits with
      latch := true
      causes := s.limits.causes.add cause
      lastSetting := some ⟨cause, s.time.port, number⟩
      settings := countTo 65535 s.limits.settings
      pourEnable := false } }

theorem setLatch_eq (cause : LatchCause) (number : Nat) (s : State) :
    setLatch cause number s = evaluate (raise (.stop cause number) (latchSet cause number s)) := by
  simp only [setLatch, settleLine, Bool.not_true, Bool.and_false]
  rfl

/-- The Limits Unit's record after the figures of a judgement, before the watch's entry into BREACH (R84). -/
theorem judgeFigures_limits (p : Published) (s : State) : (judgeFigures p s).limits = { s.limits with
      judgedSeq := p.seq
      deepest := some (deepestOf p.cond)
      trim := some p.cond.trim
      clearances := (judgeFigures p s).limits.clearances
      flags :=
        { draft := draftFlag s.limits.maxDraft p.cond.deepest, trim := trimFlag s.store.tables p.cond.trim
          air := (judgeFigures p s).limits.flags.air }
      m := p.cond.stress.1
      mSource := p.cond.stress.2
      watch := nextWatch s.limits.watch p.cond.stress.1 s.store.tables.cautionAt s.store.tables.band } := rfl

theorem judgeFigures_clearance {p : Published} {s : State} {h : Nat} (hp : s.engine.published = some p) (hn : p.seq ≠ 0)
    (h1 : 1 ≤ h) (h12 : h ≤ 12) : (judgeFigures p s).limits.clearances.get (h - 1) =
      match s.limits.boom, s.store.tables.rowOfHold h with
      | some boom, some row => some (clearanceAt s.store.tables boom s.limits.tide row p.cond)
      | _, _ => none := by
  refine (Tab.get_build _ (h - 1) (by omega)).trans ?_
  rw [Nat.sub_add_cancel h1]
  simp only [clearanceOf, State.setLimits, hp, hn]
  cases s.limits.boom <;> cases s.store.tables.rowOfHold h <;> rfl

theorem judgeFigures_air (p : Published) (s : State) {i : Nat} (hi : i < 12) : (judgeFigures p s).limits.flags.air.get i =
    airFlag s.limits.minClear ((judgeFigures p s).limits.clearances.get i) :=
  Tab.get_build _ i hi

theorem enterBreach_enters {before : Watch} {s : State} (h : before ≠ .breach ∧ s.limits.watch = .breach) :
    enterBreach before s = evaluate (raise (.stop .breach s.limits.judgedSeq)
      (raise (.breach s.limits.judgedSeq s.limits.m s.limits.mSource.1 s.limits.mSource.2)
        (latchSet .breach s.limits.judgedSeq s))) := by
  rw [enterBreach, if_pos h, setLatch_eq]
  simp only [latchSet, raise_withLimits, raise_limits, raise_time]

theorem enterBreach_keeps {before : Watch} {s : State} (h : ¬ (before ≠ .breach ∧ s.limits.watch = .breach)) :
    enterBreach before s = s := if_neg h

/-- Of the Limits Unit an entry into BREACH writes what a setting of the latch does, and no limit flag. -/
theorem enterBreach_flags (before : Watch) (s : State) :
    (enterBreach before s).limits.flags = s.limits.flags ∧ (enterBreach before s).limits.watch = s.limits.watch := by
  by_cases h : before ≠ .breach ∧ s.limits.watch = .breach
  · simp [enterBreach_enters h, latchSet]
  · simp [enterBreach_keeps h]

/-! ## The Pour Tracker at a publish (R155 to R157) -/

/-- The previous planned ROB after a publish of a ballast ROB (R148; log entry 34). -/
def prevRobAt (rob : Nat) (t : Tracker) : Option Nat := if t.prevRob = none ∧ t.op ≠ .idle then some rob else t.prevRob

theorem settlePrevRob_eq (rob : Nat) (t : Tracker) : settlePrevRob rob t = { t with prevRob := prevRobAt rob t } := by
  unfold settlePrevRob prevRobAt; split <;> rfl

/-- The lag during a pour of a previous planned ROB and a current pour, at that pour's own tally (R155). -/
theorem lagDuring_eq (t : Tracker) (rob : Nat) : lagDuring t rob ((t.cur.map CurrentPour.tally).getD 0) =
    match t.prevRob, t.cur with
    | some r, some p => if p.started then (rob : Int) - expectedRob r p p.tally else 0
    | _, _ => 0 := by
  unfold lagDuring
  cases t.prevRob <;> cases t.cur <;> rfl

theorem withLag_eq (rob : Nat) (t : Tracker) : withLag rob t = { t with
    prevRob := prevRobAt rob t
    lag := match prevRobAt rob t, t.cur with
      | some r, some p => if p.started then (rob : Int) - expectedRob r p p.tally else 0
      | _, _ => 0
    lagBefore := match prevRobAt rob t with | some r => (rob : Int) - r | none => 0 } := by
  rw [withLag, lagDuring_eq, settlePrevRob_eq]
  rfl

theorem publishRequest_eq (s : State) : publishRequest s =
    match concerned s with
    | some c =>
      if s.tracker.state = .evaluating ∧ reasonSet s c &&& ~~~Reason.projection.bit ≠ 0#13 then none
      else some ⟨c.entry.pour, c.entry.hold, c.entry.planned - c.tally, s.tracker.gen⟩
    | none => none := by
  unfold publishRequest
  cases concerned s with
  | none => rfl
  | some c =>
    by_cases hs : s.tracker.state = .evaluating
    · by_cases hr : reasonSet s c &&& ~~~Reason.projection.bit = 0#13
      · simp only [if_pos hs, if_pos hr, if_neg fun h : _ ∧ _ ≠ _ => h.2 hr]; rfl
      · simp only [if_pos hs, if_neg hr, if_pos (And.intro hs hr)]
    · simp only [if_neg hs, if_neg fun h : _ ∧ _ => hs h.1]; rfl

/-- While a job is in flight a projection request sets the mark and no more (R56, R57). -/
theorem requestProjection_busy {s : State} (req : ProjReq) (h : s.engine.job.isSome) : requestProjection req s =
    if s.store.dataState = .valid then { s with engine := { s.engine with projMark := some req } } else s := by
  by_cases hv : s.store.dataState = .valid
  · rw [requestProjection, if_pos (dataValid_iff.2 hv), if_pos hv]
    exact engineRun_busy h
  · rw [requestProjection, if_neg (mt dataValid_iff.1 hv), if_neg hv]

/-- The part with the lag figures of a publish (R155). -/
def lagPublished (rob : Nat) (s : State) : State := { s with tracker := withLag rob s.tracker }

theorem trackerPublish_busy {s : State} (rob : Nat) (h : s.engine.job.isSome) : trackerPublish rob s =
    if s.store.dataState = .valid ∧ (publishRequest (lagPublished rob s)).isSome then
      { evaluate (lagPublished rob s) with
        engine := { (evaluate (lagPublished rob s)).engine with projMark := publishRequest (lagPublished rob s) } }
    else evaluate (lagPublished rob s) := by
  change (match publishRequest (lagPublished rob s) with
    | some req => requestProjection req (evaluate (lagPublished rob s))
    | none => evaluate (lagPublished rob s)) = _
  cases hr : publishRequest (lagPublished rob s) with
  | none => simp
  | some req =>
    have he : (evaluate (lagPublished rob s)).engine = s.engine := by simp [lagPublished]
    have hs : (evaluate (lagPublished rob s)).store = s.store := by simp [lagPublished]
    exact (requestProjection_busy req (by rw [he]; exact h)).trans (if_congr (by rw [hs]; simp) rfl rfl)

theorem trackerPublish_lag (rob : Nat) (s : State) : (trackerPublish rob s).tracker.lag = (withLag rob s.tracker).lag := by
  have h : (evaluate (lagPublished rob s)).tracker.lag = (withLag rob s.tracker).lag := by simp [lagPublished]
  rw [← h]
  change (match publishRequest (lagPublished rob s) with
    | some req => requestProjection req (evaluate (lagPublished rob s))
    | none => evaluate (lagPublished rob s)).tracker.lag = _
  split <;> simp

/-! ## The pace of the pumps (R117) -/

/-- A pump's transfer takes the lag of a publish: it is paced and RUNNING (R117). -/
abbrev TakesLag (s : State) (p : Pump) : Prop := (s.transfer p.driver).paced = true ∧ (s.transfer p.driver).state = .running

/-- The setpoint that a lag gives a pump's transfer (R117). -/
def lagSpeed (lag : Int) (s : State) (p : Pump) : Nat :=
  pacedSetpoint (s.store.tables.minSpeed p.driver) (s.transfer p.driver).base s.xfer.paceGain lag

/-- A pump's transfer after a publish. -/
def pacedTransfer (lag : Int) (s : State) (p : Pump) : Transfer :=
  if TakesLag s p then { s.transfer p.driver with setpoint := some (lagSpeed lag s p) } else s.transfer p.driver

/-- A pump's outputs after a publish. -/
def pacedOut (lag : Int) (s : State) (p : Pump) : PumpOut :=
  if TakesLag s p then { s.pumpOut p with speed := speedOut s.store.tables p.driver (some (lagSpeed lag s p)) }
  else s.pumpOut p

theorem paceOne_eq (lag : Int) (s : State) (p : Pump) :
    paceOne lag s p = (s.setTransfer p.driver (pacedTransfer lag s p)).setPumpOut p (pacedOut lag s p) := by
  by_cases h : TakesLag s p
  · rw [pacedTransfer, pacedOut, if_pos h, if_pos h]
    exact (if_pos h).trans (by cases p <;> rfl)
  · rw [pacedTransfer, pacedOut, if_neg h, if_neg h]
    exact (if_neg h).trans (by cases p <;> rfl)

theorem paceOne_transfer (lag : Int) (s : State) (q : Pump) (d : Driver) :
    (paceOne lag s q).transfer d = if d = q.driver then pacedTransfer lag s q else s.transfer d := by
  rw [paceOne_eq, State.setPumpOut_transfer, State.transfer_setTransfer]

theorem paceOne_pumpOut (lag : Int) (s : State) (q p : Pump) :
    (paceOne lag s q).pumpOut p = if p = q then pacedOut lag s q else s.pumpOut p := by
  rw [paceOne_eq, State.pumpOut_setPumpOut, State.setTransfer_pumpOut]

theorem paceOne_paceGain (lag : Int) (s : State) (q : Pump) : (paceOne lag s q).xfer.paceGain = s.xfer.paceGain := by
  rw [paceOne_eq]; cases q <;> rfl

theorem pump_driver (p : Pump) : p.driver.pump? = some p := by cases p <;> rfl

theorem driver_inj {p q : Pump} (h : p.driver = q.driver) : p = q :=
  Option.some.inj (by rw [← pump_driver p, h, pump_driver])

theorem driver_not_gravity (p : Pump) : p.driver.gravity = false := by rw [Driver.gravity, pump_driver]; rfl

/-- What a lag makes of a pump depends on the tables, the gain, and the pump's own transfer and outputs. -/
theorem paced_congr {s t : State} {p : Pump} (lag : Int) (hs : s.store = t.store)
    (hx : s.transfer p.driver = t.transfer p.driver) (hg : s.xfer.paceGain = t.xfer.paceGain) (ho : s.pumpOut p = t.pumpOut p) :
    pacedTransfer lag s p = pacedTransfer lag t p ∧ pacedOut lag s p = pacedOut lag t p := by
  simp only [pacedTransfer, pacedOut, TakesLag, lagSpeed, hs, hx, hg, ho, and_self]

/-- One pump's pace has no part in another's. -/
theorem paced_paceOne {p q : Pump} (lag : Int) (s : State) (h : p ≠ q) :
    pacedTransfer lag (paceOne lag s q) p = pacedTransfer lag s p ∧ pacedOut lag (paceOne lag s q) p = pacedOut lag s p :=
  paced_congr lag (by simp) (by rw [paceOne_transfer, if_neg fun e => h (driver_inj e)]) (paceOne_paceGain ..)
    (by rw [paceOne_pumpOut, if_neg h])

/-- Each of several pumps takes the lag from its own transfer and outputs as they stood before. -/
theorem pace_pumps (lag : Int) (p : Pump) : ∀ {l : List Pump} {s : State}, l.Nodup →
    (l.foldl (paceOne lag) s).transfer p.driver = (if p ∈ l then pacedTransfer lag s p else s.transfer p.driver) ∧
      (l.foldl (paceOne lag) s).pumpOut p = if p ∈ l then pacedOut lag s p else s.pumpOut p
  | [], _, _ => ⟨rfl, rfl⟩
  | q :: l, s, h => by
    obtain ⟨hq, hl⟩ := List.nodup_cons.1 h
    rw [List.foldl_cons, (pace_pumps lag p hl).1, (pace_pumps lag p hl).2, paceOne_transfer, paceOne_pumpOut]
    by_cases hp : p = q
    · subst hp
      simp [hq]
    · have hd : p.driver ≠ q.driver := fun e => hp (driver_inj e)
      simp [hp, hd, paced_paceOne lag s hp]

theorem takeLag_pump (lag : Int) (s : State) (p : Pump) :
    (takeLag lag s).transfer p.driver = pacedTransfer lag s p ∧ (takeLag lag s).pumpOut p = pacedOut lag s p := by
  have hp : p ∈ pumps := by cases p <;> decide
  have := pace_pumps lag p (l := pumps) (s := s) (by decide)
  rwa [if_pos hp, if_pos hp] at this

theorem takeLag_gravity (lag : Int) (s : State) {d : Driver} (h : d.gravity = true) :
    (takeLag lag s).transfer d = s.transfer d := by
  refine foldl_keep (fun s => s.transfer d) (paceOne lag) (fun s q => ?_) pumps s
  have hq : d ≠ q.driver := by rintro rfl; rw [driver_not_gravity] at h; cases h
  exact (paceOne_transfer ..).trans (if_neg hq)

/-- `t` differs from `s` in the transfers and the pumps' outputs at most. -/
def TransfersAndOutputsOf (s t : State) : Prop :=
  t = { s with xfer := { t.xfer with valves := s.xfer.valves, paceGain := s.xfer.paceGain } }

theorem TransfersAndOutputsOf.trans {s t v : State} (h1 : TransfersAndOutputsOf s t) (h2 : TransfersAndOutputsOf t v) :
    TransfersAndOutputsOf s v :=
  Eq.trans h2 (by rw [h1])

theorem transfersAndOutputsOf_pace (lag : Int) : ∀ (l : List Pump) (s : State),
    TransfersAndOutputsOf s (l.foldl (paceOne lag) s)
  | [], _ => rfl
  | q :: l, s => by
    have h : TransfersAndOutputsOf s (paceOne lag s q) := by rw [paceOne_eq]; cases q <;> rfl
    exact h.trans (transfersAndOutputsOf_pace lag l _)

theorem takeLag_only (lag : Int) (s : State) : TransfersAndOutputsOf s (takeLag lag s) :=
  transfersAndOutputsOf_pace lag pumps s

/-! ## A refresh completes (R57, R69, R71) -/

theorem publishMay_iff (s : State) : publishMay s = true ↔ s.gauge.swept = true ∧ ∀ c < 48, ∀ g, s.gaugeRec c = some g →
    g.state = .unread → s.gauge.currentMask.getLsbD (s.store.tables.gaugeSlot c) = false := by
  rw [publishMay, Bool.and_eq_true_iff, List.isEmpty_iff, unreadEnabled_eq_nil_iff]

theorem exec_refreshComplete_ends {s : State} {snap : Snapshot} {c : Condition} {n : Nat}
    (h : s.engine.job = some ⟨.refresh, snap, [c], n⟩) (hp : publishMay s = true) :
    exec .refreshComplete s = .next (completeRefresh c s) := by
  change Host.Outcome.next (refreshEnds s) = _
  simp only [refreshEnds, h, if_pos hp]

/-- With no refresh in flight nothing completes, and none while no condition may be published (log entries 6 and 29). -/
theorem exec_refreshComplete_quiet {s : State}
    (h : (∀ j, s.engine.job = some j → j.task ≠ .refresh) ∨ ¬ publishMay s = true) : exec .refreshComplete s = .next s := by
  change Host.Outcome.next (refreshEnds s) = _
  rw [refreshEnds]
  split
  · next hj => rw [if_neg (h.resolve_left fun hn => hn _ hj rfl)]
  · rfl

theorem freeEngine_eq (s : State) : freeEngine s = engineRun { s with engine := { s.engine with job := none } } := rfl

theorem headChecks_eq (s : State) : headChecks s = headCheck (headCheck s .g0) .g1 := rfl

/-- What a completed refresh does before the engine is free (R69, R71). -/
theorem completeRefresh_eq (c : Condition) (s : State) :
    let p := publishedOf s c
    let w := trackerPublish c.rob (judgePublish p (publish p s))
    completeRefresh c s = freeEngine (settle s
      (raise (.condition p.seq) (headCheck (headCheck (takeLag w.tracker.lag w) .g0) .g1))) := by
  rw [completeRefresh, handPublish, transferPublish, headChecks_eq]
  rfl

/-- Settles O34: the Limits Unit's record is that of `judgeFigures`, the part that the tracker leaves is read off by
`enterBreach_enters`, `withLag_eq` and `trackerPublish_busy`, and the pumps and gravity lines by the `takeLag` lemmas. -/
theorem aRefreshPublishesAndIsJudged : Obligations.ARefreshPublishesAndIsJudged := by
  refine ⟨fun s h => exec_refreshComplete_quiet ?_, fun w c => ⟨fun g p hg => gravityHead_eq p hg, headLow_iff w c⟩,
    fun w d => ⟨fun hx hl => headCheck_closes hx ((headLow_iff ..).2 hl),
      fun h => headCheck_keeps fun hh => h ⟨hh.1, (headLow_iff ..).1 hh.2⟩⟩, ?_⟩
  · -- no refresh in flight, or none that may publish (log entries 6 and 29)
    rw [publishMay_iff]
    rcases h with h | h | ⟨c, hc, g, hg, hu, hm⟩
    · exact .inl h
    · exact .inr fun hp => by simp [h] at hp
    · exact .inr fun hp => by simp [hp.2 c hc g hg hu] at hm
  intro s j c hj htask hworking hswept hn hread T n port l m src
  obtain ⟨task, snap, working, pubSeq⟩ := j
  obtain rfl : task = .refresh := htask
  obtain rfl : working = [c] := hworking
  let p : Published := ⟨n, port, c⟩
  let L : Limits := (judgeFigures p (publish p s)).limits
  let W : State := trackerPublish c.rob (judgePublish p (publish p s))
  have hm : c.stress.1 = m := stress_fst c
  have hsrc : c.stress.2 = src := stress_snd c
  have hL : L = { l with
      judgedSeq := n, trim := some c.trim, deepest := L.deepest, clearances := L.clearances, m := m, mSource := src
      watch := L.watch
      flags := { draft := draftFlag l.maxDraft c.deepest, trim := trimFlag T c.trim, air := L.flags.air } } := by
    rw [← hm, ← hsrc]
    exact judgeFigures_limits p (publish p s)
  have hwatch : L.watch = nextWatch l.watch m T.cautionAt T.band := by rw [← hm]; rfl
  refine ⟨L, takeLag W.tracker.lag W, hL, ⟨_, rfl, deepestOf_end c⟩, fun h h1 h12 => ?_, fun i hi => ?_,
    fun hm => hwatch.trans (nextWatch_breach _ _ _ hm), fun hm => hwatch ▸ nextWatch_below _ _ _ hm, ?_⟩
  · refine (judgeFigures_clearance rfl hn h1 h12).trans ?_
    simp only [clearanceAt_eq]
    rfl
  · exact judgeFigures_air p _ hi
  · intro pub set latched judged k prev lag lagged request v asked speed paced
    have hlatched : enterBreach l.watch pub = latched := by
      by_cases hb : l.watch ≠ .breach ∧ L.watch = .breach
      · rw [enterBreach_enters (s := pub) hb, show latched = _ from if_pos hb]
        change evaluate (raise (.stop .breach n) (raise (.breach n c.stress.1 c.stress.2.1 c.stress.2.2) _)) = _
        rw [hm, hsrc]
        rfl
      · rw [enterBreach_keeps (s := pub) hb, show latched = _ from if_neg hb]
    have hjudged : judgePublish p (publish p s) = judged := by
      have hf := enterBreach_flags l.watch pub
      rw [hlatched] at hf
      change raiseLimit l.flags l.watch.cautionFlag (enterBreach l.watch pub) = _
      rw [hlatched]
      exact if_congr (by rw [hf.1, hf.2]) rfl rfl
    have hlagged : lagPublished c.rob judged = lagged :=
      congrArg (fun t => { judged with tracker := t }) (withLag_eq c.rob k)
    have hrequest : publishRequest lagged = request := publishRequest_eq lagged
    have hasked : W = asked := by
      have hjob : judged.engine.job.isSome := by simp [← hjudged, publish, hj]
      have hstore : judged.store = s.store := by simp [← hjudged, publish]
      have hw : W = _ := congrArg (trackerPublish c.rob) hjudged
      rw [hw, trackerPublish_busy c.rob hjob, hlagged, hrequest, hstore]
    have hxfer : W.xfer = s.xfer := by simp [W, publish]
    have hstore : W.store = s.store := by simp [W, publish]
    have hlag : W.tracker.lag = lag := by
      have hw : W.tracker.lag = (withLag c.rob (judgePublish p (publish p s)).tracker).lag := trackerPublish_lag ..
      rw [hw, hjudged, withLag_eq]
      rfl
    refine ⟨?_, fun p => ?_, fun d hd => ?_, ?_⟩
    · have hq := takeLag_only W.tracker.lag W
      rw [TransfersAndOutputsOf, hxfer] at hq
      exact hq.trans (by rw [hasked])
    · obtain ⟨ht, ho⟩ := takeLag_pump W.tracker.lag W p
      obtain ⟨hpt, hpo⟩ := paced_congr (s := W) (t := s) (p := p) W.tracker.lag hstore (State.transfer_congr (by rw [hxfer]) _)
        (by rw [hxfer]) (State.pumpOut_congr hxfer p)
      rw [ht, ho, hpt, hpo, hlag]
      exact ⟨fun h => ⟨if_pos h, if_pos h⟩, fun h => ⟨if_neg h, if_neg h⟩⟩
    · exact (takeLag_gravity _ _ hd).trans (State.transfer_congr (by rw [hxfer]) d)
    · rw [exec_refreshComplete_ends hj ((publishMay_iff s).2 ⟨hswept, hread⟩), completeRefresh_eq, freeEngine_eq]
      rfl

end Sys2Proof.ConditionEngine
end

section
/-! PROOF. The statements about the limits, the stress watch and the stop latch
(spec/05_limits_the_stress_watch_and_the_stop_latch.md): TIDE, STPR, what every step keeps of the latch and the pour enable
line, and the invariants of the state after reset. -/

namespace Sys2Proof.LimitsUnit

open Sys2Proof.Machine Sys2Proof.ShipData Sys2Proof.Survey Sys2Proof.ConditionEngine

/-! ## The stop figures -/

/-- The figures of the Limits Unit that R88, R91 and R92 tie together. -/
structure StopFigures where
  watch : Watch
  latch : Bool
  causes : LatchCauses
  line : Bool

/-- The stop figures of a limit status record (R80). -/
def stopOf (l : Limits) : StopFigures := ⟨l.watch, l.latch, l.causes, l.pourEnable⟩

/-- `t` has the stop figures and the operation state of `s`. -/
def SameStop (s t : State) : Prop := stopOf t.limits = stopOf s.limits ∧ t.tracker.op = s.tracker.op

@[simp] theorem sameStop_iff {s t : State} :
    SameStop s t ↔ stopOf t.limits = stopOf s.limits ∧ t.tracker.op = s.tracker.op := Iff.rfl

/-- What every step keeps: the pour enable line by R92, the latch with BREACH by R88, and with its causes by R80 and R91. -/
structure StopSound (s : State) : Prop where
  line : LineFollows s
  breach : BreachLatched s
  cause : LatchHasCause s

/-- The three depend on the stop figures and the operation state alone. -/
theorem StopSound.of_same {s t : State} (hs : StopSound s) (h : SameStop s t) : StopSound t := by
  obtain ⟨hl, hop⟩ := h
  obtain ⟨hwatch, hlatch, hcauses, hline⟩ := StopFigures.mk.inj hl
  obtain ⟨line, breach, cause⟩ := hs
  constructor
  · rw [LineFollows, hline, hop, hlatch]; exact line
  · rw [BreachLatched, hwatch, hlatch]; exact breach
  · rw [LatchHasCause, hlatch, hcauses]; exact cause

theorem stopSound_reset : StopSound State.reset := ⟨rfl, nofun, rfl⟩

/-! ## Acts that keep the stop figures -/

section
variable (s : State)

@[simp] theorem stopOf_judgeAir : stopOf (judgeAir s).limits = stopOf s.limits := rfl

@[simp] theorem stopOf_judgeDraft : stopOf (judgeDraft s).limits = stopOf s.limits := by
  unfold judgeDraft; split <;> rfl

@[simp] theorem stopOf_limitsWithdraw : stopOf (limitsWithdraw s).limits = stopOf s.limits := by
  rw [limitsWithdraw_limits]; rfl

@[simp] theorem stopOf_applyTide (h : Int) : stopOf (applyTide h s).limits = stopOf s.limits := by
  simp only [applyTide]
  split
  · simp only [evaluate_frame, raiseLimit_frame]; rfl
  · rfl

@[simp] theorem stopOf_withdrawData (before : State) : stopOf (withdrawData before s).limits = stopOf s.limits := by
  simp [withdrawData]

@[simp] theorem stopOf_uncommit (before : State) : stopOf (uncommit before s).limits = stopOf s.limits := by
  simp only [uncommit]; split <;> simp

/-! The tracker's acts keep the operation state: OPBG and OPND alone change it (R148, R149). -/

@[simp] theorem trackerPublish_op (rob : Nat) : (trackerPublish rob s).tracker.op = s.tracker.op := by
  have : (withLag rob s.tracker).op = s.tracker.op := by rw [withLag_eq]
  simp only [trackerPublish]; split <;> simp [this]

@[simp] theorem applyExchange_op : (applyExchange s).tracker.op = s.tracker.op := by simp [applyExchange, swapPlans]

@[simp] theorem applyPending_op : (applyPending s).tracker.op = s.tracker.op := by
  simp only [applyPending]; split <;> simp

@[simp] theorem setHold_op (h m : Nat) : (setHold h m s).tracker.op = s.tracker.op := by
  simp only [setHold, addCorrection]; split <;> simp

@[simp] theorem openUnexpected_op (pour hold : Nat) : (openUnexpected pour hold s).tracker.op = s.tracker.op := by
  simp [openUnexpected]

@[simp] theorem startPour_op (p : CurrentPour) : (startPour p s).tracker.op = s.tracker.op := by simp [startPour]

@[simp] theorem becomeHeld_op : (becomeHeld s).tracker.op = s.tracker.op := rfl

@[simp] theorem acknowledge_op (pour : Nat) : (acknowledge pour s).tracker.op = s.tracker.op := by
  simp only [acknowledge]; (repeat' split) <;> simp

@[simp] theorem changePour_op (f : CurrentPour → CurrentPour) : (changePour f s).tracker.op = s.tracker.op := rfl

@[simp] theorem storeTally_op (p : CurrentPour) (tally : Nat) : (storeTally p tally s).tracker.op = s.tracker.op := rfl

@[simp] theorem takeTally_op (p : CurrentPour) (tally : Nat) : (takeTally p tally s).tracker.op = s.tracker.op := by
  simp [takeTally]

@[simp] theorem writeRecord_op (p : CurrentPour) : (writeRecord p s).tracker.op = s.tracker.op := by
  simp only [writeRecord]; split <;> simp

@[simp] theorem recordPour_op (p : CurrentPour) : (recordPour p s).tracker.op = s.tracker.op := by simp [recordPour]

@[simp] theorem closePour_op (p : CurrentPour) : (closePour p s).tracker.op = s.tracker.op := by
  simp only [closePour]; split <;> simp

@[simp] theorem nextState_op : (nextState s).tracker.op = s.tracker.op := rfl

end

/-! ## Acts that write the stop figures (R84, R88, R89, R91, R94) -/

theorem stopSound_raise {s : State} (d : Detail) (h : StopSound s) : StopSound (raise d s) := h.of_same (by simp)

theorem stopSound_evaluate {s : State} (h : StopSound s) : StopSound (evaluate s) := h.of_same (by simp)

theorem stopSound_latchSet (cause : LatchCause) (number : Nat) (s : State) : StopSound (latchSet cause number s) where
  line := (Bool.and_false _).symm
  breach _ := rfl
  cause := by cases cause <;> simp [LatchHasCause, latchSet, LatchCauses.add]

/-- A setting of the latch makes all three hold, whatever stood before: the latch has its cause, and the line is off. -/
theorem stopSound_setLatch (cause : LatchCause) (number : Nat) (s : State) : StopSound (setLatch cause number s) := by
  rw [setLatch_eq]
  exact stopSound_evaluate (stopSound_raise _ (stopSound_latchSet cause number s))

/-- A judgement moves the watch, and an entry into BREACH sets the latch in the same act (R84, R88). -/
theorem stopSound_judgePublish (p : Published) {s : State} (h : StopSound s) : StopSound (judgePublish p s) := by
  have hjudged : StopSound (enterBreach s.limits.watch (judgeFigures p s)) := by
    by_cases hb : s.limits.watch ≠ .breach ∧ (judgeFigures p s).limits.watch = .breach
    · rw [enterBreach, if_pos hb]
      exact stopSound_setLatch ..
    · rw [enterBreach_keeps hb]
      have hkept : (judgeFigures p s).limits.watch = .breach → s.limits.watch = .breach :=
        fun hw => by_contra fun hn => hb ⟨hn, hw⟩
      exact ⟨h.line, fun hw => h.breach (hkept hw), h.cause⟩
  exact hjudged.of_same (by simp [judgePublish])

/-- OPBG leaves the latch set exactly in BREACH, with that cause alone (R94). -/
theorem stopSound_limitsBegin (p : OpParams) (s : State) : StopSound (limitsBegin p s) := by
  have hlatch : StopSound (settleLine <| s.setLimits { s.limits with
      maxDraft := some p.maxDraft, boom := some p.boom, minClear := some p.minClear, ackTime := p.ackTime, tide := p.tide
      latch := s.limits.watch == .breach, causes := { LatchCauses.none with breach := s.limits.watch == .breach }
      settings := 0, lastSetting := none }) :=
    ⟨rfl, beq_iff_eq.2, by simp [LatchHasCause, settleLine, State.setLimits, LatchCauses.none]⟩
  simp only [limitsBegin]
  split
  · exact hlatch.of_same (by simp)
  · exact hlatch

theorem stopSound_beginOperation (p : OpParams) (s : State) : StopSound (beginOperation p s) :=
  (stopSound_limitsBegin p (beginEngine (beginTracker p (clearUnattributed (beginGauges p.density s))))).of_same
    (by simp [beginOperation])

theorem stopSound_endOperation {s : State} (h : StopSound s) : StopSound (endOperation s) := ⟨rfl, h.breach, h.cause⟩

theorem stopSound_releaseLatch {s : State} (h : StopSound s) (hw : s.limits.watch ≠ .breach) :
    StopSound (releaseLatch s) := by
  unfold releaseLatch
  split
  · exact stopSound_evaluate ⟨rfl, fun hb => absurd hb hw, rfl⟩
  · exact h

theorem stopSound_takeTally (p : CurrentPour) (tally : Nat) {s : State} (h : StopSound s) :
    StopSound (takeTally p tally s) := by
  have hrise {u : State} (hu : StopSound u) : StopSound (latchRise p tally u) := by
    unfold latchRise
    split
    · exact stopSound_setLatch ..
    · exact hu
  have hrevised : StopSound (changePour (fun q => { q with revised := q.revised || decide (tally < p.tally) }) s) :=
    h.of_same (by simp)
  exact (hrise hrevised).of_same (by simp [takeTally])

theorem stopSound_applyTally (p : CurrentPour) (tally : Nat) {s : State} (h : StopSound s) :
    StopSound (applyTally p tally s) :=
  (stopSound_takeTally p tally h).of_same (by simp [applyTally])

theorem stopSound_judgeGrant {s : State} (h : StopSound s) : StopSound (judgeGrant s) := h.of_same (by simp)

theorem stopSound_endPour (p : CurrentPour) (tally : Nat) {s : State} (h : StopSound s) : StopSound (endPour p tally s) :=
  (stopSound_takeTally p tally h).of_same (by simp [endPour])

theorem stopSound_ackExpires (p : CurrentPour) (s : State) : StopSound (ackExpires p s) :=
  (stopSound_setLatch .ackTimeout p.entry.pour (s.setTracker { s.tracker with ack := none })).of_same
    (by simp [ackExpires])

/-! ## Requests -/

@[simp] theorem done_state (s : State) (data : List Item) : (done s data).state = s := rfl

@[simp] theorem refuse_state (c : ReplyCode) (s : State) (data : List Item) : (refuse c s data).state = s := rfl

@[simp] theorem refuseData_state (s : State) : (refuseData s).state = s := rfl

@[simp] theorem answer_limits (l : Link) (m : Mnem) (a : Answer) : (answer l m a).limits = a.state.limits := by
  simp [answer_eq_replied]

@[simp] theorem answer_tracker (l : Link) (m : Mnem) (a : Answer) : (answer l m a).tracker = a.state.tracker := by
  simp [answer_eq_replied]

theorem stopSound_answer {l : Link} {m : Mnem} {a : Answer} (h : StopSound a.state) : StopSound (answer l m a) :=
  h.of_same (by simp)

section
variable (args : List Byte) (s : State)

/-- The queries leave the part as it was. -/
theorem queries_state :
    (tankMsg args s).state = s ∧ (metrMsg args s).state = s ∧ (condMsg args s).state = s ∧ (projMsg args s).state = s ∧
      (limsMsg args s).state = s ∧ (xferMsg args s).state = s ∧ (seqqMsg args s).state = s ∧
      (pourMsg args s).state = s ∧ (phisMsg args s).state = s ∧ (rptgMsg args s).state = s ∧
      (dlogMsg args s).state = s ∧ ∀ l, (statMsg l args s).state = s := by
  refine ⟨?_, ?_, ?_, ?_, ?_, ?_, ?_, ?_, ?_, ?_, ?_, fun l => ?_⟩
  · simp only [tankMsg]; (repeat' split) <;> rfl
  · simp only [metrMsg]; (repeat' split) <;> rfl
  · simp only [condMsg]; (repeat' split) <;> rfl
  · simp only [projMsg]; (repeat' split) <;> rfl
  · simp only [limsMsg]; (repeat' split) <;> rfl
  · simp only [xferMsg]; (repeat' split) <;> rfl
  · simp only [seqqMsg]; (repeat' split) <;> rfl
  · simp only [pourMsg]; (repeat' split) <;> rfl
  · simp only [phisMsg]; (repeat' split) <;> rfl
  · simp only [rptgMsg]; (repeat' split) <;> rfl
  · simp only [dlogMsg]; (repeat' split) <;> rfl
  · simp only [statMsg]; (repeat' split) <;> rfl

/-! The requests of the ship data, gauging and the Condition Engine. -/

theorem sameStop_wselMsg : SameStop s (wselMsg args s).state := by
  simp only [wselMsg]; (repeat' split) <;> simp

theorem sameStop_storeRows (w : Window) (k : Nat) : SameStop s (storeRows w k args s) := by
  rw [storeRows, writeRows_only]
  simp only
  split <;> simp [withRows]

theorem sameStop_wputMsg : SameStop s (wputMsg args s).state := by
  simp only [wputMsg]
  (repeat' split) <;> simp [sameStop_iff.1 (sameStop_storeRows ..)]

theorem sameStop_wgetMsg : SameStop s (wgetMsg args s).state := by
  simp only [wgetMsg]; (repeat' split) <;> simp

theorem sameStop_smskMsg : SameStop s (smskMsg args s).state := by
  simp only [smskMsg]; (repeat' split) <;> simp

theorem sameStop_tdenMsg : SameStop s (tdenMsg args s).state := by
  simp only [tdenMsg]; (repeat' split) <;> simp [setDensity, resnapTank_eq]

theorem sameStop_fixmMsg : SameStop s (fixmMsg args s).state := by
  simp only [fixmMsg]; (repeat' split) <;> simp [setFixed]

theorem sameStop_tideMsg : SameStop s (tideMsg args s).state := by
  simp only [tideMsg]; (repeat' split) <;> simp

/-! The requests of the Transfer Unit and the Sequencer. -/

theorem sameStop_xstaMsg : SameStop s (xstaMsg args s).state := by
  simp only [xstaMsg]; (repeat' split) <;> simp

theorem sameStop_xstpMsg : SameStop s (xstpMsg args s).state := by
  simp only [xstpMsg]; (repeat' split) <;> simp

theorem sameStop_valvMsg : SameStop s (valvMsg args s).state := by
  simp only [valvMsg, closeValve, queryValve]; (repeat' split) <;> simp

theorem sameStop_vclrMsg : SameStop s (vclrMsg args s).state := by
  simp only [vclrMsg, clearValve]; (repeat' split) <;> simp

theorem sameStop_sqxcMsg : SameStop s (sqxcMsg args s).state := by
  simp only [sqxcMsg]; (repeat' split) <;> simp [swapPrograms]

theorem sameStop_sqgoMsg : SameStop s (sqgoMsg args s).state := by
  simp only [sqgoMsg]; (repeat' split) <;> simp [runFromStart, afterWalk]

theorem sameStop_sqpsMsg : SameStop s (sqpsMsg args s).state := by
  simp only [sqpsMsg, suspendHost]; (repeat' split) <;> simp

theorem sameStop_resumeBy (why : SuspendReason) : SameStop s (resumeBy why s) := by
  simp only [resumeBy, resumeHost]; (repeat' split) <;> simp

theorem sameStop_sqrsMsg : SameStop s (sqrsMsg args s).state := by
  simp only [sqrsMsg]; (repeat' split) <;> simp [unsuspend, afterWalk, sameStop_iff.1 (sameStop_resumeBy ..)]

theorem sameStop_sqabMsg : SameStop s (sqabMsg args s).state := by
  simp only [sqabMsg]; (repeat' split) <;> simp [readySeq]

/-! The requests of the Pour Tracker, the loader, the Record Keeper and the links. -/

theorem sameStop_plxcMsg : SameStop s (plxcMsg args s).state := by
  simp only [plxcMsg]; (repeat' split) <;> simp

theorem sameStop_hsetMsg : SameStop s (hsetMsg args s).state := by
  simp only [hsetMsg]; (repeat' split) <;> simp

theorem sameStop_lpstMsg : SameStop s (lpstMsg args s).state := by
  simp only [lpstMsg, startReported, refuseLoader]; (repeat' split) <;> simp

theorem sameStop_lhakMsg : SameStop s (lhakMsg args s).state := by
  simp only [lhakMsg]; (repeat' split) <;> simp

theorem sameStop_rptbMsg : SameStop s (rptbMsg args s).state := by
  simp only [rptbMsg, buildReport]; (repeat' split) <;> simp

theorem sameStop_storeEnables (e : BitVec 8) : SameStop s (storeEnables e s) :=
  ⟨foldl_keep (fun u => stopOf u.limits) _ (by simp) _ _, foldl_keep (fun u => u.tracker.op) _ (by simp) _ _⟩

theorem sameStop_ntenMsg : SameStop s (ntenMsg args s).state := by
  simp only [ntenMsg]; (repeat' split) <;> simp [sameStop_iff.1 (sameStop_storeEnables ..)]

theorem sameStop_clksMsg : SameStop s (clksMsg args s).state := by
  simp only [clksMsg]; (repeat' split) <;> simp [setClock]

end

/-! The requests that write the stop figures, and those that act after their answer. -/

section
variable (args : List Byte) {s : State}

theorem stopSound_stprMsg (h : StopSound s) : StopSound (stprMsg args s).state := by
  simp only [stprMsg]
  split
  · exact h
  · split
    · exact h
    · next hw => exact stopSound_releaseLatch h hw

theorem stopSound_opbgMsg (h : StopSound s) : StopSound (opbgMsg args s).state := by
  simp only [opbgMsg]
  split
  · exact h
  · split
    · exact h
    · split
      · exact h
      · split
        · exact h
        · exact stopSound_beginOperation ..

theorem stopSound_opndMsg (h : StopSound s) : StopSound (opndMsg args s).state := by
  simp only [opndMsg]
  split
  · exact h
  · split
    · exact h
    · split
      · exact h
      · exact stopSound_endOperation h

theorem stopSound_ltalMsg (h : StopSound s) : StopSound (ltalMsg args s).state := by
  simp only [ltalMsg]
  split
  · split
    · exact h
    · split
      · exact stopSound_applyTally _ _ h
      · exact h.of_same (by simp [refuseLoader])
  · exact h

theorem stopSound_lpndMsg (h : StopSound s) : StopSound (lpndMsg args s).state := by
  simp only [lpndMsg]
  split
  · split
    · exact h
    · split
      · next p _ =>
        rw [done_state]
        exact stopSound_judgeGrant (stopSound_endPour p _ h)
      · exact h.of_same (by simp [refuseLoader])
  · exact h

theorem sameStop_restartSeq (s : State) : SameStop s (restartSeq s) := by
  simp only [restartSeq]; split <;> simp

theorem sameStop_restart (s : State) : SameStop s (restart s) := by
  simp [restart, restartTransfers, sameStop_iff.1 (sameStop_restartSeq _), restartSweep, restartEngine, emptyNotices,
    restartLink]

theorem stopSound_rstrAct (l : Link) (h : StopSound s) : StopSound (rstrAct l args s) := by
  simp only [rstrAct]
  split
  · exact stopSound_answer h
  · exact (stopSound_answer (m := .rstr) (l := l) (a := done s []) h).of_same (sameStop_restart _)

theorem stopSound_sdcmAct (l : Link) (h : StopSound s) : StopSound (sdcmAct l args s) := by
  simp only [sdcmAct]
  split
  · exact stopSound_answer h
  · exact h.of_same (by simp)

/-- A request carried out keeps them (R198). -/
theorem stopSound_perform (m : Mnem) (l : Link) (h : StopSound s) : StopSound (perform m l args s) := by
  have ofSame {a : Answer} (ha : SameStop s a.state) : StopSound (answer l m a) := stopSound_answer (h.of_same ha)
  cases m with
  | tank | metr | cond | proj | lims | xfer | seqq | pour | phis | rptg | dlog | stat => exact ofSame (by simp [queries_state])
  | wsel => exact ofSame (sameStop_wselMsg args s)
  | wput => exact ofSame (sameStop_wputMsg args s)
  | wget => exact ofSame (sameStop_wgetMsg args s)
  | sdcm => exact stopSound_sdcmAct args l h
  | smsk => exact ofSame (sameStop_smskMsg args s)
  | tden => exact ofSame (sameStop_tdenMsg args s)
  | fixm => exact ofSame (sameStop_fixmMsg args s)
  | tide => exact ofSame (sameStop_tideMsg args s)
  | stpr => exact stopSound_answer (stopSound_stprMsg args h)
  | xsta => exact ofSame (sameStop_xstaMsg args s)
  | xstp => exact ofSame (sameStop_xstpMsg args s)
  | valv => exact ofSame (sameStop_valvMsg args s)
  | vclr => exact ofSame (sameStop_vclrMsg args s)
  | sqxc => exact ofSame (sameStop_sqxcMsg args s)
  | sqgo => exact ofSame (sameStop_sqgoMsg args s)
  | sqps => exact ofSame (sameStop_sqpsMsg args s)
  | sqrs => exact ofSame (sameStop_sqrsMsg args s)
  | sqab => exact ofSame (sameStop_sqabMsg args s)
  | opbg => exact stopSound_answer (stopSound_opbgMsg args h)
  | opnd => exact stopSound_answer (stopSound_opndMsg args h)
  | plxc => exact ofSame (sameStop_plxcMsg args s)
  | hset => exact ofSame (sameStop_hsetMsg args s)
  | lpst => exact ofSame (sameStop_lpstMsg args s)
  | ltal => exact stopSound_answer (stopSound_ltalMsg args h)
  | lpnd => exact stopSound_answer (stopSound_lpndMsg args h)
  | lhak => exact ofSame (sameStop_lhakMsg args s)
  | rptb => exact ofSame (sameStop_rptbMsg args s)
  | nten => exact ofSame (sameStop_ntenMsg args s)
  | clks => exact ofSame (sameStop_clksMsg args s)
  | rstr => exact stopSound_rstrAct args l h

end

/-! ## The links -/

section
variable {s : State} (l : Link)

theorem stopSound_setLink (x : LinkState) (h : StopSound s) : StopSound (s.setLink l x) := h.of_same (by simp)

theorem stopSound_judgeRequest (payload : List Byte) (h : StopSound s) : StopSound (judgeRequest l payload s) := by
  simp only [judgeRequest]
  split
  · exact stopSound_setLink l _ h
  · split
    · exact stopSound_perform _ _ l h
    · exact stopSound_setLink l _ h

theorem stopSound_serve (h : StopSound s) : StopSound (serve l s) := by
  simp only [serve]
  split
  · split
    · exact stopSound_judgeRequest l _ (stopSound_setLink l _ h)
    · exact h
  · exact h

theorem stopSound_requestArrives (payload : List Byte) (h : StopSound s) : StopSound (requestArrives l payload s) := by
  simp only [requestArrives]
  split
  · exact stopSound_serve l (stopSound_setLink l _ h)
  · exact stopSound_setLink l _ h

theorem stopSound_unlessHeld {f : State → State} (h : StopSound s) (hf : StopSound (f s)) : StopSound (unlessHeld f s) := by
  simp only [unlessHeld]
  split
  · exact h
  · exact hf

theorem stopSound_presentRequest (m : Mnem) (args : List Byte) (h : StopSound s) :
    StopSound (presentRequest l m args s) := by
  simp only [presentRequest]
  split
  · exact stopSound_unlessHeld h (stopSound_requestArrives l _ h)
  · exact h

theorem stopSound_setReceiver (r : Receiver) (h : StopSound s) : StopSound (s.setReceiver l r) := stopSound_setLink l _ h

theorem stopSound_frameByte (got : List Byte) (h : StopSound s) : StopSound (frameByte l got s) := by
  have hunting := stopSound_setReceiver l .hunting h
  simp only [frameByte]
  split
  · exact hunting
  · split
    · split
      · exact stopSound_requestArrives l _ hunting
      · exact hunting
    · exact stopSound_setReceiver l _ h

theorem stopSound_takeByte (b : Byte) (h : StopSound s) : StopSound (takeByte l b s) := by
  simp only [takeByte]
  split
  · exact stopSound_setReceiver l _ h
  · split
    · exact stopSound_setReceiver l _ h
    · exact stopSound_frameByte l _ h

theorem stopSound_abandonFrame (h : StopSound s) : StopSound (abandonFrame l s) := by
  simp only [abandonFrame]
  split
  · exact stopSound_setReceiver l _ h
  · exact h

theorem stopSound_frameSent (h : StopSound s) : StopSound (frameSent l s) := by
  simp only [frameSent]
  split
  · exact stopSound_serve l (stopSound_setLink l _ h)
  · exact h

theorem sameStop_sendShipNotice (s : State) : SameStop s (sendShipNotice s) := by
  simp only [sendShipNotice]; (repeat' split) <;> simp

theorem sameStop_sendShoreNotice (s : State) : SameStop s (sendShoreNotice s) := by
  simp only [sendShoreNotice]; (repeat' split) <;> simp

end

/-! ## The events of the part -/

section
variable (s : State)

/-- A hardware reset brings the stop figures of the state after reset (R95, R207). -/
theorem sameStop_resetPart (held strapA strapB : Bool) : SameStop State.reset (resetPart held strapA strapB s) := by
  have hblocks : SameStop State.reset (resetBlocks (setResetInputs held strapA strapB s)) := ⟨rfl, rfl⟩
  simp only [resetPart, endReset]
  (repeat' split) <;> simpa using hblocks

theorem sameStop_endVerification : SameStop s (endVerification s) := by
  simp only [endVerification]; split <;> simp

theorem sameStop_completeCommit : SameStop s (completeCommit s) := by
  simp only [completeCommit, commitPasses, commitFails, resetForCommit]
  (repeat' split) <;> simp

theorem stopSound_commitEnds (h : StopSound s) : StopSound (commitEnds s) := by
  simp only [commitEnds]
  split
  · exact stopSound_serve .shore (h.of_same (sameStop_completeCommit s))
  · exact h

theorem sameStop_acceptAnswer (a : SensorAnswer) : SameStop s (acceptAnswer a s) := by
  simp only [acceptAnswer]; (repeat' split) <;> simp

theorem sameStop_primingExpires (p : Pump) : SameStop s (primingExpires p s) := by
  simp only [primingExpires]; split <;> simp

theorem sameStop_flowExpires (p : Pump) : SameStop s (flowExpires p s) := by
  simp only [flowExpires]; split <;> simp

theorem sameStop_feedbackFalls (p : Pump) : SameStop s (feedbackFalls p s) := by
  simp only [feedbackFalls]; split <;> simp [setFeedback]

theorem sameStop_limitsChange (ch : Nat) (openMade closedMade : Bool) :
    SameStop s (limitsChange ch openMade closedMade s) := by
  simp only [limitsChange]; split <;> simp

theorem sameStop_travelExpires (ch : Nat) : SameStop s (travelExpires ch s) := by
  simp only [travelExpires]; split <;> simp

theorem sameStop_intervalExpires : SameStop s (intervalExpires s) := by
  simp only [intervalExpires]; split <;> simp

theorem sameStop_dwellExpires : SameStop s (dwellExpires s) := by
  simp only [dwellExpires]; split <;> simp

theorem stopSound_ackRunsOut (h : StopSound s) : StopSound (ackRunsOut s) := by
  simp only [ackRunsOut]
  split
  · exact stopSound_ackExpires ..
  · exact h

theorem stopSound_refreshEnds (h : StopSound s) : StopSound (refreshEnds s) := by
  simp only [refreshEnds]
  split
  · split
    · next c _ _ _ =>
      have hpublished : StopSound (publish (publishedOf s c) s) := h.of_same ⟨rfl, rfl⟩
      exact (stopSound_judgePublish (publishedOf s c) hpublished).of_same
        (by simp [completeRefresh, freeEngine, handPublish, transferPublish])
    · exact h
  · exact h

theorem sameStop_projectionEnds : SameStop s (projectionEnds s) := by
  simp only [projectionEnds, completeProjection, freeEngine, acceptResult]
  (repeat' split) <;> simp

theorem sameStop_consoleRises : SameStop s (consoleRises s) := by
  simp only [consoleRises, unlessHeld]; (repeat' split) <;> simp [setRequest]

theorem sameStop_consoleDrops : SameStop s (consoleDrops s) := by
  simp only [consoleDrops]; split <;> simp [setRequest]

theorem sameStop_tick : SameStop s (tick s) := by simp [tick, pumps]

theorem sameStop_passMillisecond : SameStop s (passMillisecond s) := by
  simp only [passMillisecond, unlessHeld, countTime]
  (repeat' split) <;> simp [sameStop_iff.1 (sameStop_tick _), passWindows, countMs]

end

/-! ## Every command and every step -/

theorem eq_command_of_request? {i : Instr} {m : Mnem} {l : Link} {args : List Byte} (h : i.request? = some (m, l, args)) :
    i = m.command l args := by
  cases i <;> cases h <;> rfl

/-- Every command keeps them. -/
theorem stopSound_exec (i : Instr) {s : State} (h : StopSound s) : ∃ t, exec i s = .next t ∧ StopSound t := by
  cases hq : i.request? with
  | some r =>
    obtain ⟨m, l, args⟩ := r
    rw [eq_command_of_request? hq, exec_command]
    exact ⟨_, rfl, stopSound_presentRequest l m args h⟩
  | none =>
    have ofSame {t : State} (ht : SameStop s t) :
        ∃ t', (.next t : Host.Outcome State Fault Refusal) = .next t' ∧ StopSound t' :=
      ⟨t, rfl, h.of_same ht⟩
    cases i
    case hardwareReset held straps => exact ⟨_, rfl, stopSound_reset.of_same (sameStop_resetPart s held straps.a straps.b)⟩
    case verificationEnd =>
      refine ⟨_, rfl, stopSound_unlessHeld h ?_⟩
      split
      · exact h.of_same (sameStop_endVerification s)
      · exact h
    case frameByteReceived l b => exact ⟨_, rfl, stopSound_unlessHeld h (stopSound_takeByte l b h)⟩
    case byteGapExpiry l => exact ⟨_, rfl, stopSound_abandonFrame l h⟩
    case transmitFrameEnd l => exact ⟨_, rfl, stopSound_frameSent l h⟩
    case shipNoticeSend => exact ofSame (sameStop_sendShipNotice s)
    case shoreNoticeSend => exact ofSame (sameStop_sendShoreNotice s)
    case commitComplete => exact ⟨_, rfl, stopSound_commitEnds s h⟩
    case sensorAnswer a => exact ofSame (sameStop_acceptAnswer s a)
    case replyWindowExpiry => exact ofSame (by split <;> simp)
    case sweepCountdownExpiry => exact ofSame (by split <;> simp)
    case meterPulse p => exact ⟨_, rfl, stopSound_unlessHeld h (h.of_same (by simp))⟩
    case secondBoundary => exact ⟨_, rfl, stopSound_unlessHeld h (h.of_same (by simp))⟩
    case primingExpiry p => exact ofSame (sameStop_primingExpires s p)
    case noFlowExpiry p => exact ofSame (sameStop_flowExpires s p)
    case runningFeedbackFall p => exact ofSame (sameStop_feedbackFalls s p)
    case limitInputChange ch a b => exact ofSame (sameStop_limitsChange s ch a b)
    case valveTravelExpiry ch => exact ofSame (sameStop_travelExpires s ch)
    case intervalExpiry => exact ofSame (sameStop_intervalExpires s)
    case dwellExpiry => exact ofSame (sameStop_dwellExpires s)
    case ackExpiry => exact ⟨_, rfl, stopSound_ackRunsOut s h⟩
    case refreshComplete => exact ⟨_, rfl, stopSound_refreshEnds s h⟩
    case projectionComplete => exact ofSame (sameStop_projectionEnds s)
    case consoleRequestRise => exact ofSame (sameStop_consoleRises s)
    case consoleRequestDrop => exact ofSame (sameStop_consoleDrops s)
    case runningFeedbackRise p => exact ofSame ⟨rfl, rfl⟩
    -- every other command is a request
    all_goals cases hq

/-- What falls due is a command, and a millisecond that passes moves no stop figure. -/
theorem stopSound_idle {s : State} (h : StopSound s) : ∃ t, idle s = .next t ∧ StopSound t := by
  unfold idle
  split
  · exact stopSound_exec _ h
  · exact ⟨_, rfl, h.of_same (sameStop_passMillisecond s)⟩

/-- Every step keeps them. -/
theorem stopSound_step {s : State} (h : StopSound s) : ∃ t, step s = .next t ∧ StopSound t := by
  unfold step
  split
  · next c rest _ =>
    have hrest : StopSound { s with pending := rest } := h.of_same ⟨rfl, rfl⟩
    exact stopSound_exec c hrest
  · exact stopSound_idle h

/-- Settles O57: a command keeps the stop figures and the operation state, or is one of the acts that write
them, of which each leaves the three holding (`stopSound_exec`). -/
theorem everyStepKeepsTheLatchAndTheLine : Obligations.EveryStepKeepsTheLatchAndTheLine := by
  intro s t line breach cause hstep
  obtain ⟨t', ht, hsound⟩ := stopSound_step ⟨line, breach, cause⟩
  obtain rfl : t' = t := by simpa using ht.symm.trans hstep
  exact ⟨hsound.line, hsound.breach, hsound.cause⟩

/-! ## The state after reset -/

theorem accountBalances_reset : AccountBalances State.reset := by
  intro tank hk out _
  have hempty : logged State.reset tank out = 0 := rfl
  rw [hempty, total]
  cases out <;> simp [State.reset, hk]

theorem consoleConsistent_reset : ConsoleConsistent State.reset := by
  simp [ConsoleConsistent, State.reset, SeqCore.fresh]

theorem sizesBounded_reset : SizesBounded State.reset := by
  simp [SizesBounded, State.reset]

/-- Settles O60: what is off, empty or none after reset has each invariant. -/
theorem theStateAfterResetHasTheInvariants : Obligations.TheStateAfterResetHasTheInvariants := by
  obtain ⟨line, breach, cause⟩ := stopSound_reset
  exact ⟨line, breach, cause, consoleConsistent_reset, accountBalances_reset, sizesBounded_reset⟩

/-! ## TIDE (R82, R83, R85) -/

theorem rule_tide : RuleOf .tide tideMsg := ⟨rfl, fun _ _ => rfl⟩

theorem tideMsg_length {args : List Byte} (u : State) (h : args.length ≠ 4) : tideMsg args u = refuse .length u := by
  simp only [tideMsg, readOne_none 4 args h]

theorem tideOk_iff {h : Int} : tideOk h = true ↔ -5000 ≤ h ∧ h ≤ 20000 := by simp [tideOk]

section
variable {h : Int} (u : State)

/-- The height that TIDE carries is judged by its range (R82). -/
theorem tideMsg_height (h0 : -2147483648 ≤ h) (h1 : h < 2147483648) : tideMsg (toBEInt h 4) u =
    if tideOk h = false then refuse .range u else done (applyTide h u) [.num u.limits.tide, .num h] := by
  have hread : readOne 4 (toBEInt h 4) = some (h % (256 ^ 4 : Nat)).toNat := readOne_toBE 4 _ (by omega)
  simp only [tideMsg, hread, signed32_toBEInt h h0 h1]

theorem applyTide_unjudged (hu : u.limits.boom = none ∨ u.limits.judgedSeq = 0) :
    applyTide h u = { u with limits := { u.limits with tide := h } } := by
  have hjudged : ¬ (u.limits.boom.isSome ∧ u.limits.judgedSeq ≠ 0) := by
    rintro ⟨hb, hj⟩
    rcases hu with hu | hu
    · simp [hu] at hb
    · exact hj hu
  exact if_neg hjudged

/-- The part with a tide height stored and the clearances and AIR_DRAFT flags that follow from it (R82). -/
def tideJudged (h : Int) (u : State) : State := judgeAir { u with limits := { u.limits with tide := h } }

theorem applyTide_judged (hb : u.limits.boom.isSome) (hj : u.limits.judgedSeq ≠ 0) : applyTide h u =
    evaluate (if u.limits.flags = (tideJudged h u).limits.flags then tideJudged h u
      else raise (limitDetail u.limits.flags (tideJudged h u).limits.watch.cautionFlag (tideJudged h u))
        (tideJudged h u)) := by
  rw [applyTide, if_pos ⟨hb, hj⟩]
  exact congrArg evaluate (if_congr (and_iff_left rfl) rfl rfl)

theorem tideJudged_clearance {boom k : Nat} (hb : u.limits.boom = some boom) (hj : u.limits.judgedSeq ≠ 0) (h1 : 1 ≤ k)
    (h12 : k ≤ 12) : (tideJudged h u).limits.clearances.get (k - 1) =
      match u.engine.published, u.store.tables.rowOfHold k with
      | some p, some row => some (clearanceAt u.store.tables boom h row p.cond)
      | _, _ => none := by
  refine (Tab.get_build _ (k - 1) (by omega)).trans ?_
  rw [Nat.sub_add_cancel h1]
  simp only [clearanceOf, hb, hj, if_false]
  cases u.engine.published <;> cases u.store.tables.rowOfHold k <;> rfl

theorem tideJudged_air {i : Nat} (hi : i < 12) : (tideJudged h u).limits.flags.air.get i =
    airFlag u.limits.minClear ((tideJudged h u).limits.clearances.get i) :=
  Tab.get_build _ i hi

end

/-- Settles O36: a TIDE in range is `applyTide`, whose clearances and flags the `tideJudged` lemmas read off. -/
theorem tideRecomputesTheClearances : Obligations.TideRecomputesTheClearances := by
  refine ⟨fun s h hr h0 h1 => ?_, rule_tide.otherForms fun args u hf => tideMsg_length u hf, unknownOnShore _ rfl⟩
  intro args u
  have hlen : args.length ≤ maxArgs := by simp [args, toBEInt, maxArgs]
  have hmsg := tideMsg_height u h0 h1
  have haccepted (hlo : -5000 ≤ h) (hhi : h ≤ 20000) :
      exec (.tide .ship args) s = .next (replied .ship .tide .done [.num s.limits.tide, .num h] (applyTide h u)) :=
    rule_tide.answers hr hlen (hmsg.trans (if_neg (by simp [tideOk_iff.2 ⟨hlo, hhi⟩])))
  refine ⟨fun hbad => ?_, fun hlo hhi hu => ?_, fun hlo hhi boom hb hj => ?_⟩
  · refine rule_tide.refuses hr hlen (hmsg.trans (if_pos ?_))
    rw [← Bool.not_eq_true, tideOk_iff]; omega
  · rw [haccepted hlo hhi, applyTide_unjudged u hu]
  · refine ⟨(tideJudged h u).limits.clearances, (tideJudged h u).limits.flags.air, fun k hk1 hk12 => ?_,
      fun i hi => tideJudged_air u hi, ?_⟩
    · refine (tideJudged_clearance u hb hj hk1 hk12).trans ?_
      simp only [clearanceAt_eq]
      rfl
    · rw [haccepted hlo hhi, applyTide_judged u (by rw [show u.limits.boom = _ from hb]; rfl) hj]
      rfl

/-! ## STPR (R91, R92) -/

theorem rule_stpr : RuleOf .stpr stprMsg := ⟨rfl, fun _ _ => rfl⟩

section
variable {u : State}

theorem stprMsg_length {args : List Byte} (h : args ≠ []) : stprMsg args u = refuse .length u := if_pos h

theorem stprMsg_state (h : u.limits.watch = .breach) : stprMsg [] u = refuse .state u := if_pos h

theorem stprMsg_clear (h : u.limits.watch ≠ .breach) (hl : u.limits.latch = false) :
    stprMsg [] u = done u u.limits.causes.items := by
  rw [stprMsg, if_neg (by simp), if_neg h, releaseLatch, if_neg (by simp [hl])]

/-- The part with the stop latch and its causes cleared and the pour enable line on exactly in LOADING (R91, R92). -/
def latchReleased (u : State) : State :=
  { u with limits := { u.limits with latch := false, causes := LatchCauses.none, pourEnable := u.tracker.op == .loading } }

theorem releaseLatch_set (h : u.limits.latch = true) : releaseLatch u = evaluate (latchReleased u) := by
  rw [releaseLatch, if_pos h]
  simp only [settleLine, State.setLimits, Bool.not_false, Bool.and_true]
  rfl

theorem stprMsg_set (h : u.limits.watch ≠ .breach) (hl : u.limits.latch = true) :
    stprMsg [] u = done (evaluate (latchReleased u)) u.limits.causes.items := by
  rw [stprMsg, if_neg (by simp), if_neg h, releaseLatch_set hl]

end

/-- Settles O37: STPR is refused by the first check that fails, and clears the latch by `stprMsg_clear` and `stprMsg_set`. -/
theorem stprClearsTheLatch : Obligations.StprClearsTheLatch := by
  refine ⟨fun s hr => ?_, rule_stpr.otherForms fun args u h => stprMsg_length h, unknownOnShore _ rfl⟩
  have hlen : ([] : List Byte).length ≤ maxArgs := Nat.zero_le _
  let u : State := taken .ship .stpr [] s
  exact ⟨fun hw => rule_stpr.refuses hr hlen (stprMsg_state (u := u) hw),
    fun hw hl => rule_stpr.answers hr hlen (stprMsg_clear (u := u) hw hl),
    fun hw hl => rule_stpr.answers hr hlen (stprMsg_set (u := u) hw hl)⟩

end Sys2Proof.LimitsUnit
end

section
/-! PROOF. The statements about valves, pumps and transfers (spec/06_valves_pumps_and_transfers.md): XSTP, XSTA, VALV and VCLR,
what a command makes of a valve, and what its limits and its travel time make of it and of its transfer. -/

namespace Sys2Proof.TransferUnit

open Sys2Proof.Machine Sys2Proof.Survey Sys2Proof.FlowMetering

/-! ## XSTP (R118) -/

theorem rule_xstp : RuleOf .xstp xstpMsg := ⟨rfl, fun _ _ => rfl⟩

theorem ofCode_code (d : Driver) : Driver.ofCode d.code = some d := (Driver.ofCode_iff _ d).2 rfl

theorem code_lt (d : Driver) : d.code < 6 := by cases d <;> decide

section
variable {args : List Byte} {n : Nat} {u : State}

theorem xstpMsg_length (h : args.length ≠ 1) : xstpMsg args u = refuse .length u := by
  simp only [xstpMsg, readOne_none 1 args h]

theorem xstpMsg_state (h : readOne 1 args = some n) (ho : u.tracker.op ≠ .loading) :
    xstpMsg args u = refuse .state u := by
  simp only [xstpMsg, h, if_pos ho]

theorem xstpMsg_console (h : readOne 1 args = some n) (ho : u.tracker.op = .loading) (hc : u.console.state ≠ .auto) :
    xstpMsg args u = refuse .console u := by
  simp only [xstpMsg, h, if_neg (not_not.2 ho), if_pos hc]

theorem xstpMsg_range (h : readOne 1 args = some n) (ho : u.tracker.op = .loading) (hc : u.console.state = .auto)
    (hn : 5 < n) : xstpMsg args u = refuse .range u := by
  simp only [xstpMsg, h, if_neg (not_not.2 ho), if_neg (not_not.2 hc), (Driver.ofCode_none n).2 hn]

theorem xstpMsg_stops {d : Driver} (h : readOne 1 args = some d.code) (ho : u.tracker.op = .loading)
    (hc : u.console.state = .auto) :
    xstpMsg args u = done (settle u (endEvent d .stopped u))
      [.xferState ((settle u (endEvent d .stopped u)).transfer d).state] := by
  simp only [xstpMsg, h, if_neg (not_not.2 ho), if_neg (not_not.2 hc), ofCode_code]

end

/-- An end event on an active transfer closes it (R114). -/
theorem endEvent_closes {d : Driver} (reason : EndReason) {s : State} (h : (s.transfer d).state.active = true) :
    ClosesWith d reason s (endEvent d reason s) := by
  rw [endEvent_active h]
  exact endTransfer_closes d reason s

/-- Settles O27: an XSTP that passes its checks is an end event, which closes an active transfer (`endEvent_closes`) and leaves
any other. -/
theorem xstpStopsATransfer : Obligations.XstpStopsATransfer := by
  refine ⟨fun s d hr ho hc => ?_, fun s b hr => ?_, rule_xstp.otherForms fun args u h => xstpMsg_length h, unknownOnShore _ rfl⟩
  · intro args u
    have hread : readOne 1 args = some d.code := readOne_toBE 1 d.code (by have := code_lt d; omega)
    refine ⟨endEvent d .stopped u, ?_, fun ha => endEvent_closes .stopped ha, fun hi => endEvent_inactive hi⟩
    exact rule_xstp.answers hr (by simp [args, maxArgs]) (xstpMsg_stops (u := u) hread ho hc)
  · have hread := readOne_byte b
    have hlen := byte_fits b
    exact ⟨fun ho => rule_xstp.refuses hr hlen (xstpMsg_state hread ho),
      fun ho hc => rule_xstp.refuses hr hlen (xstpMsg_console hread ho hc),
      fun ho hc hn => rule_xstp.refuses hr hlen (xstpMsg_range hread ho hc hn)⟩

/-! ## XSTA (R106, R108 to R110) -/

theorem rule_xsta : RuleOf .xsta xstaMsg := ⟨rfl, fun _ _ => rfl⟩

/-- The arguments of an XSTA that carries a start (R109). -/
def startArgs (r : StartReq) : List Byte :=
  toBE r.driver 1 ++ toBE r.tank 1 ++ toBE r.direction 1 ++ toBE r.target 4 ++ toBE r.paced 1 ++ toBE r.base 1

/-- Every argument of a start fits its field. -/
structure StartFits (r : StartReq) : Prop where
  driver : r.driver < 256
  tank : r.tank < 256
  direction : r.direction < 256
  target : r.target < 4294967296
  paced : r.paced < 256
  base : r.base < 256

theorem startArgs_fits (r : StartReq) : (startArgs r).length ≤ maxArgs := by simp [startArgs, maxArgs]

theorem readArgs_start {r : StartReq} (h : StartFits r) : readArgs [1, 1, 1, 4, 1, 1] (startArgs r) =
    some [r.driver, r.tank, r.direction, r.target, r.paced, r.base] := by
  obtain ⟨hd, ht, hdir, htarget, hp, hb⟩ := h
  rw [readArgs_eq _ _ (by simp [startArgs]), startArgs]
  simp only [List.append_assoc]
  rw [cutFields_append 1 _ _ _ hd, cutFields_append 1 _ _ _ ht, cutFields_append 1 _ _ _ hdir,
    cutFields_append 4 _ _ _ htarget, cutFields_append 1 _ _ _ hp, cutFields_one 1 _ hb]

/-- The start checks read nothing of the links. -/
theorem startFails_taken (args : List Byte) (s : State) (r : StartReq) (cause : StartCause) :
    StartFails (taken .ship .xsta args s) r cause ↔ StartFails s r cause := by
  cases cause <;> exact Iff.rfl

theorem startRefused_taken {s : State} {r : StartReq} {cause : StartCause} (args : List Byte)
    (h : StartRefused s r cause) : StartRefused (taken .ship .xsta args s) r cause :=
  ⟨(startFails_taken args s r cause).2 h.1, fun x hx hf => h.2 x hx ((startFails_taken args s r x).1 hf)⟩

theorem startPasses_taken {s : State} {r : StartReq} (args : List Byte) (h : StartPasses s r) :
    StartPasses (taken .ship .xsta args s) r :=
  fun x hf => h x ((startFails_taken args s r x).1 hf)

section
variable {r : StartReq} {u : State}

theorem xstaMsg_length {args : List Byte} (h : args.length ≠ 9) : xstaMsg args u = refuse .length u := by
  simp only [xstaMsg, readArgs_none [1, 1, 1, 4, 1, 1] args h]

theorem xstaMsg_refuses {cause : StartCause} (hf : StartFits r) (h : StartRefused u r cause) :
    xstaMsg (startArgs r) u = refuse cause.reply u [.startCause cause] := by
  simp only [xstaMsg, readArgs_start hf, (judgeStart_error_iff u r cause).2 h]

theorem xstaMsg_starts {d : Driver} (hf : StartFits r) (hd : d.code = r.driver) (h : StartPasses u r) :
    xstaMsg (startArgs r) u = done (acceptStart .link none (startNamed d r) u)
      (startItems ((acceptStart .link none (startNamed d r) u).transfer d)) := by
  simp only [xstaMsg, readArgs_start hf, (judgeStart_ok_iff hd).2 h]
  rfl

end

section
variable {r : StartReq} {s : State}

theorem exec_xsta_refuses {cause : StartCause} {code : ReplyCode} (hr : Ready .ship s) (hf : StartFits r)
    (h : StartRefused s r cause) (hcode : cause.reply = code) :
    exec (.xsta .ship (startArgs r)) s = .next (replied .ship .xsta code [.startCause cause]
      (taken .ship .xsta (startArgs r) s)) := by
  rw [← hcode]
  exact rule_xsta.answers hr (startArgs_fits r) (xstaMsg_refuses hf (startRefused_taken (startArgs r) h))

theorem exec_xsta_starts {d : Driver} (hr : Ready .ship s) (hf : StartFits r) (hd : d.code = r.driver)
    (h : StartPasses s r) : ∃ t, StartsTransfer .link none (startNamed d r) (taken .ship .xsta (startArgs r) s) t ∧
      exec (.xsta .ship (startArgs r)) s = .next (replied .ship .xsta .done (startItems (t.transfer d)) t) :=
  ⟨_, acceptStart_starts .link none (startNamed d r) _,
    rule_xsta.answers hr (startArgs_fits r) (xstaMsg_starts hf hd (startPasses_taken (startArgs r) h))⟩

end

/-- Settles O28: the part that has taken the request refuses the start by the check that is the first to fail in `s`. -/
theorem xstaIsRefusedByTheFirstCheck : Obligations.XstaIsRefusedByTheFirstCheck := by
  refine ⟨fun s d tank dir target paced base cause hr hd ht hdir htarget hp hb hrefused => ?_,
    rule_xsta.otherForms fun args u h => xstaMsg_length h, unknownOnShore _ rfl⟩
  exact exec_xsta_refuses (r := ⟨d, tank, dir, target, paced, base⟩) hr ⟨hd, ht, hdir, htarget, hp, hb⟩ hrefused
    (by cases cause <;> rfl)

/-- Settles O29: an accepted start is `acceptStart`, which does what R108 and R110 say (`acceptStart_starts`). -/
theorem xstaStartsATransfer : Obligations.XstaStartsATransfer := by
  intro s d tank dir target paced base hr ht hdir htarget hp hb hpass args
  have hd : d.code < 256 := (code_lt d).trans (by decide)
  exact exec_xsta_starts (r := ⟨d.code, tank, dir, target, paced, base⟩) hr ⟨hd, ht, hdir, htarget, hp, hb⟩ rfl hpass

/-! ## The valve that an identity names (R96, R102) -/

theorem lineDriver_lineValve (d : Driver) : lineDriver d.lineValve = some d := by cases d <;> rfl

/-- A line valve is assigned while its driver is fitted (R96). -/
theorem assigned_lineValve (s : State) (d : Driver) :
    assigned s d.lineValve = true ↔ s.store.dataState = .valid ∧ s.store.tables.fitted d = true := by
  have : ¬ d.lineValve < 32 := by simp [Driver.lineValve]
  rw [assigned, Bool.and_eq_true, dataValid_iff, Tables.assigns, if_neg this, lineDriver_lineValve]

theorem assigned_valid {s : State} {ch : Nat} (h : assigned s ch = true) : s.store.dataState = .valid :=
  dataValid_iff.1 (Bool.and_eq_true_iff.1 h).1

/-- The channel of an identity (Request arguments). -/
theorem channelOf_iff (T : Tables) (id ch : Nat) : channelOf T id = some ch ↔
    (id < 48 ∧ T.isBallast id = true ∧ ch = T.gaugeSlot id) ∨ ∃ d : Driver, id = 48 + d.code ∧ ch = d.lineValve := by
  have hline : (∃ d : Driver, id = 48 + d.code ∧ ch = d.lineValve) ↔ 48 ≤ id ∧ id ≤ 53 ∧ id - 16 = ch := by
    constructor
    · rintro ⟨d, rfl, rfl⟩
      have := code_lt d
      simp only [Driver.lineValve]
      omega
    · rintro ⟨h1, h2, rfl⟩
      cases hd : Driver.ofCode (id - 48) with
      | none => exact absurd ((Driver.ofCode_none _).1 hd) (by omega)
      | some d =>
        have := (Driver.ofCode_iff _ d).1 hd
        exact ⟨d, by omega, by simp only [Driver.lineValve]; omega⟩
  rw [hline, channelOf]
  by_cases h48 : id < 48
  · rw [if_pos h48]
    by_cases hb : T.isBallast id = true
    · simp [h48, hb, eq_comm (a := ch)]
    · simp [hb]; omega
  · rw [if_neg h48]
    by_cases h53 : id ≤ 53
    · simp [h48, h53]; omega
    · simp [h48, h53]

theorem namedValve_eq_some_iff {s : State} {id ch : Nat} :
    namedValve s id = some ch ↔ channelOf s.store.tables id = some ch ∧ assigned s ch = true :=
  Option.filter_eq_some_iff

/-- The valve that an identity names: an assigned tank valve, or the line valve of a fitted driver. -/
theorem namedValve_iff (s : State) (id ch : Nat) : namedValve s id = some ch ↔
    s.store.dataState = .valid ∧
      ((id < 48 ∧ s.store.tables.isBallast id = true ∧ ch = s.store.tables.gaugeSlot id ∧ assigned s ch = true) ∨
        ∃ d : Driver, id = 48 + d.code ∧ ch = 32 + d.code ∧ s.store.tables.fitted d = true) := by
  rw [namedValve_eq_some_iff, channelOf_iff]
  constructor
  · rintro ⟨⟨hid, hb, hch⟩ | ⟨d, hid, rfl⟩, ha⟩
    · exact ⟨assigned_valid ha, .inl ⟨hid, hb, hch, ha⟩⟩
    · exact ⟨assigned_valid ha, .inr ⟨d, hid, rfl, ((assigned_lineValve s d).1 ha).2⟩⟩
  · rintro ⟨hv, ⟨hid, hb, hch, ha⟩ | ⟨d, hid, rfl, hf⟩⟩
    · exact ⟨.inl ⟨hid, hb, hch⟩, ha⟩
    · exact ⟨.inr ⟨d, hid, rfl⟩, (assigned_lineValve s d).2 ⟨hv, hf⟩⟩

/-! ## A command to an end (R97, R101) -/

theorem toward_iff {x : ValveState} {e : ValveEnd} : x.toward = some e ↔
    (e = .opened ∧ (x = .opened ∨ x = .opening)) ∨ (e = .closed ∧ (x = .closed ∨ x = .closing)) := by
  cases x <;> cases e <;> decide

theorem eq_feedback_iff {fb : Feedback} {e : ValveEnd} :
    fb = e.feedback ↔ (e = .opened ∧ fb = .opened) ∨ (e = .closed ∧ fb = .closed) := by
  cases fb <;> cases e <;> decide

theorem travelling_eq (e : ValveEnd) : e.travelling = if e = .opened then .opening else .closing := by cases e <;> rfl

theorem standing_eq (e : ValveEnd) : e.standing = if e = .opened then .opened else .closed := by cases e <;> rfl

section
variable {v : Valve} {e : ValveEnd} {n : Nat} {fb : Feedback}

theorem command_keeps (h : v.state = .fault ∨ v.state.toward = some e) :
    v.command e n fb = { v with commanded := e, handSet := false } := if_pos h

theorem command_travels (h : ¬ (v.state = .fault ∨ v.state.toward = some e)) (hfb : fb ≠ e.feedback) :
    v.command e n fb = { v with
      commanded := e, handSet := false, state := if e = .opened then .opening else .closing, countdown := n, drive := some e } := by
  rw [← travelling_eq]
  exact (if_neg h).trans (if_neg hfb)

theorem command_arrives (h : ¬ (v.state = .fault ∨ v.state.toward = some e)) (hfb : fb = e.feedback) :
    v.command e n fb = { v with
      commanded := e, handSet := false, state := if e = .opened then .opened else .closed, countdown := 0, drive := none } := by
  rw [← standing_eq]
  exact (if_neg h).trans (if_pos hfb)

end

/-! ## VALV with CLOSE (R102) -/

theorem readValve_none {args : List Byte} (h : ¬ (args.length = 1 ∨ ∃ id, args = [id, 1#8])) : readValve args = none := by
  match args, h with
  | [], _ => rfl
  | [_], h => exact absurd (.inl rfl) h
  | [id, act], h => exact if_neg fun hact => h (.inr ⟨id, by rw [hact]; rfl⟩)
  | _ :: _ :: _ :: _, _ => rfl

section
variable {u : State} {id : Byte} {ch : Nat}

theorem valvMsg_length {args : List Byte} (h : ¬ (args.length = 1 ∨ ∃ id, args = [id, 1#8])) :
    valvMsg args u = refuse .length u := by
  simp only [valvMsg, readValve_none h]

theorem readValve_close : readValve [id, 1#8] = some (id.toNat, true) := rfl

theorem valvMsg_close_data (hv : u.store.dataState ≠ .valid) : valvMsg [id, 1#8] u = refuseData u := by
  simp only [valvMsg, readValve_close, if_pos (dataValid_eq_false_iff.2 hv)]

theorem valvMsg_close_range (hv : u.store.dataState = .valid) (hn : namedValve u id.toNat = none) :
    valvMsg [id, 1#8] u = refuse .range u := by
  simp only [valvMsg, readValve_close, dataValid_iff.2 hv, hn, Bool.true_eq_false, if_false]

theorem valvMsg_close (hv : u.store.dataState = .valid) (hn : namedValve u id.toNat = some ch) :
    valvMsg [id, 1#8] u = closeValve ch u := by
  simp only [valvMsg, readValve_close, dataValid_iff.2 hv, hn, Bool.true_eq_false, if_false, if_true]

theorem closeValve_console (hc : u.console.state ≠ .auto) : closeValve ch u = refuse .console u := if_pos hc

theorem closeValve_busy (hc : u.console.state = .auto) (hh : (holderOf u ch).isSome) :
    closeValve ch u = refuse .busy u := by
  rw [closeValve, if_neg (not_not.2 hc), if_pos hh]

theorem closeValve_valve (hc : u.console.state = .auto) (hh : holderOf u ch = none) (hf : (u.valve ch).state = .fault) :
    closeValve ch u = refuse .valve u := by
  rw [closeValve, if_neg (not_not.2 hc), if_neg (by simp [hh]), if_pos hf]

theorem closeValve_closes (hc : u.console.state = .auto) (hh : holderOf u ch = none) (hf : (u.valve ch).state ≠ .fault) :
    closeValve ch u = done (commandValve ch .closed u) (valveItems ((commandValve ch .closed u).valve ch)) := by
  rw [closeValve, if_neg (not_not.2 hc), if_neg (by simp [hh]), if_neg hf]

end

/-- Settles O30: the checks of a VALV with CLOSE branch by branch, the identities by `namedValve_iff`, and a command to an end by
`command_keeps`, `command_travels` and `command_arrives`. -/
theorem valvClosesAFreeValve : Obligations.ValvClosesAFreeValve := by
  refine ⟨⟨fun s id hr => ?_, rule_valv.otherForms fun args u h => valvMsg_length h, unknownOnShore _ rfl⟩, namedValve_iff,
    fun s ch e => rfl, fun v e n fb => ?_⟩
  · intro args
    have hlen : args.length ≤ maxArgs := by simp [args, maxArgs]
    refine ⟨fun hv => rule_valv.refusesData hr hlen (valvMsg_close_data hv), fun hv =>
      ⟨fun hn => rule_valv.refuses hr hlen (valvMsg_close_range hv hn), fun ch hn => ?_⟩⟩
    have hmsg := valvMsg_close (u := taken .ship .valv args s) hv hn
    exact ⟨fun hc => rule_valv.refuses hr hlen (hmsg.trans (closeValve_console hc)),
      fun hc hh => rule_valv.refuses hr hlen (hmsg.trans (closeValve_busy hc hh)),
      fun hc hh hf => rule_valv.refuses hr hlen (hmsg.trans (closeValve_valve hc hh hf)),
      fun hc hh hf => rule_valv.answers hr hlen (hmsg.trans (closeValve_closes hc hh hf))⟩
  · intro told same shown
    have hkeeps (hf : v.state ≠ .fault) (hs : ¬ same) : ¬ (v.state = .fault ∨ v.state.toward = some e) :=
      not_or.2 ⟨hf, mt toward_iff.1 hs⟩
    exact ⟨fun h => command_keeps (h.imp_right toward_iff.2),
      fun hf hs hn => command_travels (hkeeps hf hs) (mt eq_feedback_iff.1 hn),
      fun hf hs hy => command_arrives (hkeeps hf hs) (eq_feedback_iff.2 hy)⟩

/-! ## VCLR (R103) -/

theorem rule_vclr : RuleOf .vclr vclrMsg := ⟨rfl, fun _ _ => rfl⟩

section
variable {u : State} {id : Byte} {ch : Nat}

theorem vclrMsg_length {args : List Byte} (h : args.length ≠ 1) : vclrMsg args u = refuse .length u := by
  simp only [vclrMsg, readOne_none 1 args h]

theorem vclrMsg_data (hv : u.store.dataState ≠ .valid) : vclrMsg [id] u = refuseData u := by
  simp only [vclrMsg, readOne_byte, if_pos (dataValid_eq_false_iff.2 hv)]

theorem vclrMsg_range (hv : u.store.dataState = .valid) (hn : namedValve u id.toNat = none) :
    vclrMsg [id] u = refuse .range u := by
  simp only [vclrMsg, readOne_byte, dataValid_iff.2 hv, hn, Bool.true_eq_false, if_false]

theorem vclrMsg_clear (hv : u.store.dataState = .valid) (hn : namedValve u id.toNat = some ch) :
    vclrMsg [id] u = clearValve ch u := by
  simp only [vclrMsg, readOne_byte, dataValid_iff.2 hv, hn, Bool.true_eq_false, if_false]

theorem clearValve_console (hc : u.console.state ≠ .auto) : clearValve ch u = refuse .console u := if_pos hc

theorem clearValve_state (hc : u.console.state = .auto) (hf : (u.valve ch).state ≠ .fault) :
    clearValve ch u = refuse .state u := by
  rw [clearValve, if_neg (not_not.2 hc), if_pos hf]

theorem clearValve_busy (hc : u.console.state = .auto) (hf : (u.valve ch).state = .fault)
    (hh : (holderOf u ch).isSome) : clearValve ch u = refuse .busy u := by
  rw [clearValve, if_neg (not_not.2 hc), if_neg (not_not.2 hf), if_pos hh]

theorem clearValve_valve (hc : u.console.state = .auto) (hf : (u.valve ch).state = .fault) (hh : holderOf u ch = none)
    (hfb : feedback u ch = .neither ∨ feedback u ch = .both) : clearValve ch u = refuse .valve u := by
  rw [clearValve, if_neg (not_not.2 hc), if_neg (not_not.2 hf), if_neg (by simp [hh])]
  rcases hfb with hfb | hfb <;> rw [hfb] <;> rfl

theorem clearValve_adopts {e : ValveEnd} (hc : u.console.state = .auto) (hf : (u.valve ch).state = .fault)
    (hh : holderOf u ch = none) (hfb : feedback u ch = e.feedback) :
    clearValve ch u = done (u.setValve ch ((u.valve ch).clearFault e)) [.valveEnd e] := by
  rw [clearValve, if_neg (not_not.2 hc), if_neg (not_not.2 hf), if_neg (by simp [hh]), hfb]
  cases e <;> rfl

end

/-- Settles O31: VCLR is refused by the first check that fails, and an accepted one adopts the end shown
(`clearValve_adopts`). -/
theorem vclrAdoptsTheShownEnd : Obligations.VclrAdoptsTheShownEnd := by
  refine ⟨fun s id hr => ?_, rule_vclr.otherForms fun args u h => vclrMsg_length h, unknownOnShore _ rfl⟩
  intro args u
  have hlen : args.length ≤ maxArgs := byte_fits id
  refine ⟨fun hv => rule_vclr.refusesData hr hlen (vclrMsg_data hv), fun hv =>
    ⟨fun hn => rule_vclr.refuses hr hlen (vclrMsg_range hv hn), fun ch hn => ?_⟩⟩
  have hmsg := vclrMsg_clear (u := u) hv hn
  exact ⟨fun hc => rule_vclr.refuses hr hlen (hmsg.trans (clearValve_console hc)),
    fun hc hf => rule_vclr.refuses hr hlen (hmsg.trans (clearValve_state hc hf)), fun hc hf =>
    ⟨fun hh => rule_vclr.refuses hr hlen (hmsg.trans (clearValve_busy hc hf hh)), fun hh =>
      ⟨fun hfb => rule_vclr.refuses hr hlen (hmsg.trans (clearValve_valve hc hf hh hfb)),
        fun e hfb => rule_vclr.answers hr hlen (hmsg.trans (clearValve_adopts hc hf hh hfb))⟩⟩⟩

/-! ## Limits and travel time (R96 to R100) -/

theorem moving_iff {x : ValveState} : x.moving = true ↔ x = .opening ∨ x = .closing := by cases x <;> decide

/-- What the limits of a valve in travel make of it (R97, R98). -/
theorem judgeLimits_moving {before s : State} {ch : Nat} (h : (s.valve ch).state.moving = true) :
    judgeLimits before s ch =
      if feedback s ch = .both then valveFails ch .switchDisagree s
      else if feedback s ch = (s.valve ch).commanded.feedback then valveArrives ch s
      else s := by
  rcases moving_iff.1 h with h | h <;> simp only [judgeLimits, h]

/-- What the limits of a standing valve make of it (R98, R99). -/
theorem judgeLimits_standing {before s : State} {ch : Nat} (h : (s.valve ch).state = .opened ∨ (s.valve ch).state = .closed) :
    judgeLimits before s ch =
      if feedback s ch = .both then valveFails ch .switchDisagree s
      else if commandedLimitBroke before s ch ∧ s.console.state ≠ .granted then valveFails ch .uncommanded s
      else s := by
  rcases h with h | h <;> simp only [judgeLimits, h]

theorem judgeLimits_fault {before s : State} {ch : Nat} (h : (s.valve ch).state = .fault) : judgeLimits before s ch = s := by
  simp only [judgeLimits, h]

/-- Both limits made fail a valve in every state but FAULT (R98). -/
theorem judgeLimits_disagree {before s : State} {ch : Nat} (h : (s.valve ch).state ≠ .fault) (hfb : feedback s ch = .both) :
    judgeLimits before s ch = valveFails ch .switchDisagree s := by
  cases hx : (s.valve ch).state with
  | fault => exact absurd hx h
  | opening | closing => rw [judgeLimits_moving (by rw [hx]; rfl), if_pos hfb]
  | opened => rw [judgeLimits_standing (.inl hx), if_pos hfb]
  | closed => rw [judgeLimits_standing (.inr hx), if_pos hfb]

section
variable (s : State) (ch : Fin 38) (a b : Bool)

theorem openLimit_setLimitInputs : (s.setLimitInputs ch.val a b).inputs.openLimit.get ch.val = a :=
  (Tab.get_set ..).trans (if_pos ⟨rfl, ch.isLt⟩)

theorem closedLimit_setLimitInputs : (s.setLimitInputs ch.val a b).inputs.closedLimit.get ch.val = b :=
  (Tab.get_set ..).trans (if_pos ⟨rfl, ch.isLt⟩)

theorem feedback_setLimitInputs : feedback (s.setLimitInputs ch.val a b) ch.val = Feedback.ofLimits a b := by
  rw [feedback, openLimit_setLimitInputs, closedLimit_setLimitInputs]

theorem commandedLimitBroke_iff :
    commandedLimitBroke s (s.setLimitInputs ch.val a b) ch.val = true ↔
      (s.valve ch.val).commanded.limitMade (s.inputs.openLimit.get ch.val) (s.inputs.closedLimit.get ch.val) = true ∧
        (s.valve ch.val).commanded.limitMade a b = false := by
  rw [commandedLimitBroke, openLimit_setLimitInputs, closedLimit_setLimitInputs, Bool.and_eq_true, Bool.not_eq_true']

variable {s ch}

theorem exec_limitInputChange_unassigned (h : assigned s ch.val = false) :
    exec (.limitInputChange ch a b) s = .next (s.setLimitInputs ch.val a b) :=
  congrArg Host.Outcome.next (if_neg (by simp [h]))

theorem exec_limitInputChange_assigned (h : assigned s ch.val = true) : exec (.limitInputChange ch a b) s =
    .next (settle s (judgeLimits s (s.setLimitInputs ch.val a b) ch.val)) :=
  congrArg Host.Outcome.next (if_pos h)

theorem exec_valveTravelExpiry_fails (h : (s.valve ch.val).state.moving = true) :
    exec (.valveTravelExpiry ch) s = .next (settle s (valveFails ch.val .stuck s)) :=
  congrArg Host.Outcome.next (if_pos h)

theorem exec_valveTravelExpiry_stale (h : (s.valve ch.val).state.moving = false) :
    exec (.valveTravelExpiry ch) s = .next s :=
  congrArg Host.Outcome.next (if_neg (by simp [h]))

end

/-- Settles O32: a change of an assigned valve's limits is judged by `judgeLimits`, whose faults and arrivals do what R97 to R100,
R110 and R115 say (`valveFails_fails`, `valveArrives_arrives`). -/
theorem aValveIsJudgedByItsLimitsAndItsTime : Obligations.AValveIsJudgedByItsLimitsAndItsTime := by
  refine ⟨fun s ch a b => ?_, fun s ch => ⟨fun h => ⟨_, exec_valveTravelExpiry_fails h, valveFails_fails ch.val .stuck s⟩,
    exec_valveTravelExpiry_stale⟩⟩
  intro v s1 fb e broke out fails
  refine ⟨exec_limitInputChange_unassigned a b, fun ha => ?_⟩
  have hout {t : State} (h : judgeLimits s s1 ch.val = t) : out = .next (settle s t) :=
    h ▸ exec_limitInputChange_assigned a b ha
  have hfails {cause : ValveFault} (h : judgeLimits s s1 ch.val = valveFails ch.val cause s1) : fails cause :=
    ⟨_, hout h, valveFails_fails ch.val cause s1⟩
  have hfb : feedback s1 ch.val = fb := feedback_setLimitInputs s ch a b
  have hbroke : commandedLimitBroke s s1 ch.val = true ↔ broke := commandedLimitBroke_iff s ch a b
  refine ⟨fun hf => hout (judgeLimits_fault hf), fun hf hboth => hfails (judgeLimits_disagree hf (hfb.trans hboth)),
    fun hm he => ⟨_, hout ?_, valveArrives_arrives ch.val s1⟩, fun hm hboth he => hout ?_,
    fun hs hboth => ⟨fun hbr hg => hfails ?_, fun hno => hout ?_⟩⟩
  · have hboth : fb ≠ .both := by rw [he]; cases e <;> decide
    rw [judgeLimits_moving (s := s1) hm, hfb, if_neg hboth]
    exact if_pos he
  · rw [judgeLimits_moving (s := s1) hm, hfb, if_neg hboth]
    exact if_neg he
  · rw [judgeLimits_standing (s := s1) hs, hfb, if_neg hboth]
    exact if_pos ⟨hbroke.2 hbr, hg⟩
  · rw [judgeLimits_standing (s := s1) hs, hfb, if_neg hboth]
    exact if_neg fun ⟨hbr, hg⟩ => hno.elim (fun hn => hn (hbroke.1 hbr)) hg

end Sys2Proof.TransferUnit
end

section
/-! PROOF. The statements about the Sequencer and its program (spec/07_the_sequence_program.md): SQXC and the program checks, the
walk and what the Sequencer hears, the steps by their kind, and SQPS, SQRS and SQAB. -/

namespace Sys2Proof.SequenceProgram

open Sys2Proof.Machine Sys2Proof.Survey Sys2Proof.FlowMetering Sys2Proof.TransferUnit

/-! ## Codes of a step (Request arguments) -/

theorem directionCode_none {n : Nat} (h : Direction.ofCode n = none) : 1 < n := by
  rcases n with _ | _ | n <;> simp [Direction.ofCode] at h ⊢

theorem directionCode_some {n : Nat} {dir : Direction} (h : Direction.ofCode n = some dir) :
    (n = 0 ∧ dir = .discharge) ∨ (n = 1 ∧ dir = .fill) := by
  rcases n with _ | _ | n <;> simp [Direction.ofCode] at h ⊢ <;> exact h.symm

theorem flagCode_isSome {n : Nat} : (flagOfCode n).isSome ↔ n ≤ 1 := by
  rcases n with _ | _ | n <;> simp [flagOfCode]

theorem targetCode_none {n : Nat} (h : Target.ofCode n = none) : 4000000 < n ∧ n ≠ 4294967295 := by
  rw [Target.ofCode] at h
  split at h
  · cases h
  next he =>
    split at h
    · cases h
    next hm => exact ⟨Nat.lt_of_not_le hm, he⟩

theorem targetCode_some {n : Nat} {t : Target} (h : Target.ofCode n = some t) :
    (n = 4294967295 ∧ t = .empty) ∨ (n ≤ 4000000 ∧ t = .mass n) := by
  rw [Target.ofCode] at h
  split at h
  next he => cases h; exact .inl ⟨he, rfl⟩
  · split at h
    next hm => cases h; exact .inr ⟨hm, rfl⟩
    · cases h

/-! ## The program checks (R123, R124, R140) -/

/-- The header's fields lie in their ranges (R123). -/
abbrev HeaderSound (b : ProgramBank) : Prop :=
  headMode b ≤ 1 ∧ 1 ≤ headLimit b ∧ headExit b ≤ 1 ∧ headInterval b ≤ 600 ∧ 1 ≤ headLength b ∧ headLength b ≤ 64

theorem headerOk_iff (b : ProgramBank) : headerOk b = true ↔ HeaderSound b := by simp [headerOk, HeaderSound, and_assoc]

theorem programFault_header {b : ProgramBank} (h : ¬ HeaderSound b) : programFault b = some .header :=
  if_neg (mt (headerOk_iff b).1 h)

theorem programFault_steps {b : ProgramBank} (h : HeaderSound b) :
    programFault b = ((List.range (headLength b)).find? fun i => !(stepAt b i).ok).map .step :=
  if_pos ((headerOk_iff b).2 h)

theorem programFault_step {b : ProgramBank} {i : Nat} (h : HeaderSound b) (hi : i < headLength b)
    (hpass : ∀ j < i, (stepAt b j).ok = true) (hfail : (stepAt b i).ok = false) : programFault b = some (.step i) := by
  have : (List.range (headLength b)).find? (fun i => !(stepAt b i).ok) = some i := by
    rw [List.find?_range_eq_some]
    exact ⟨by simp [hfail], List.mem_range.2 hi, fun j hj => by simp [hpass j hj]⟩
  rw [programFault_steps h, this, Option.map_some]

theorem programFault_none {b : ProgramBank} (h : HeaderSound b) (hpass : ∀ i < headLength b, (stepAt b i).ok = true) :
    programFault b = none := by
  have : (List.range (headLength b)).find? (fun i => !(stepAt b i).ok) = none := by
    rw [List.find?_range_eq_none]
    exact fun i hi => by simp [hpass i hi]
  rw [programFault_steps h, this, Option.map_none]

/-- A START passes where each of its codes is one and it is no FILL to EMPTY or on a gravity line (R124, R140). -/
theorem startStepOk_iff (d tank dir target p base a : Nat) : startStepOk d tank dir target p base a = true ↔
    d ≤ 5 ∧ tank ≤ 47 ∧ dir ≤ 1 ∧ (target ≤ 4000000 ∨ target = 4294967295) ∧ p ≤ 1 ∧ base ≤ 100 ∧ a ≤ 1 ∧
      ¬ (dir = 1 ∧ (target = 4294967295 ∨ 4 ≤ d)) := by
  have hp := flagCode_isSome (n := p)
  have ha := flagCode_isSome (n := a)
  rcases hd : Driver.ofCode d with _ | e
  · have := (Driver.ofCode_none d).1 hd
    simp [startStepOk, hd]; omega
  have hcode := (Driver.ofCode_iff d e).1 hd
  have hd5 : d ≤ 5 := by have := code_lt e; omega
  have hg : e.gravity = decide (4 ≤ d) := by rw [Bool.eq_iff_iff, Driver.gravity_iff, hcode, decide_eq_true_iff]
  rcases hdir : Direction.ofCode dir with _ | x
  · have := directionCode_none hdir
    simp [startStepOk, hd, hdir]; omega
  rcases ht : Target.ofCode target with _ | t
  · have := targetCode_none ht
    simp [startStepOk, hd, hdir, ht]; omega
  rcases hpf : flagOfCode p with _ | pf <;> rw [hpf] at hp
  · simp at hp
    simp [startStepOk, hd, hdir, ht, hpf]; omega
  rcases haf : flagOfCode a with _ | af <;> rw [haf] at ha
  · simp at ha
    simp [startStepOk, hd, hdir, ht, hpf, haf]; omega
  simp only [Option.isSome_some, true_iff] at hp ha
  rcases directionCode_some hdir with ⟨rfl, rfl⟩ | ⟨rfl, rfl⟩ <;> rcases targetCode_some ht with ⟨rfl, rfl⟩ | ⟨htm, rfl⟩ <;>
    simp [startStepOk, hd, hdir, ht, hpf, haf, hg] <;> omega

theorem stop_ok_iff (n : Nat) : (Step.stop n).ok = true ↔ n ≤ 5 := decide_eq_true_iff

theorem await_ok_iff (n : Nat) : (Step.await n).ok = true ↔ n ≤ 6 := decide_eq_true_iff

theorem waitPour_ok_iff (n : Nat) : (Step.waitPour n).ok = true ↔ 1 ≤ n ∧ n ≤ 999 := by simp [Step.ok]

theorem mark_ok_iff (n : Nat) : (Step.mark n).ok = true ↔ n ≤ 255 := decide_eq_true_iff

theorem dwell_ok_iff (n : Nat) : (Step.dwell n).ok = true ↔ 1 ≤ n ∧ n ≤ 65535 := by simp [Step.ok]

/-! ## SQXC (R139) -/

theorem rule_sqxc : RuleOf .sqxc sqxcMsg := ⟨rfl, fun _ _ => rfl⟩

theorem exchangeable_iff {q : SeqState} :
    q.exchangeable = true ↔ q = .empty ∨ q = .ready ∨ q = .complete ∨ q = .suspended := by cases q <;> decide

section
variable {u : State}

theorem sqxcMsg_length {args : List Byte} (h : args ≠ []) : sqxcMsg args u = refuse .length u := if_pos h

theorem sqxcMsg_busy (h : ¬ u.seq.core.state.exchangeable = true) : sqxcMsg [] u = refuse .busy u :=
  if_pos (Bool.eq_false_iff.2 h)

theorem sqxcMsg_fault {f : ProgramFault} (h : u.seq.core.state.exchangeable = true)
    (hf : programFault u.seq.standby = some f) : sqxcMsg [] u = refuse .range u [f.item] := by
  simp [sqxcMsg, h, hf]

theorem sqxcMsg_swaps (h : u.seq.core.state.exchangeable = true) (hf : programFault u.seq.standby = none) :
    sqxcMsg [] u = done (swapPrograms u) [headerItem u.seq.standby] := by
  simp [sqxcMsg, h, hf, swapPrograms]

end

/-- Settles O38: SQXC is refused by the state of the Sequencer and by the first program check that fails, and an accepted one is
`swapPrograms`. -/
theorem sqxcExchangesThePrograms : Obligations.SqxcExchangesThePrograms := by
  refine ⟨fun s hr => ?_, startStepOk_iff,
    fun n => ⟨stop_ok_iff n, await_ok_iff n, waitPour_ok_iff n, mark_ok_iff n, dwell_ok_iff n, rfl, rfl⟩,
    rule_sqxc.otherForms fun args u h => sqxcMsg_length h, unknownOnShore _ rfl⟩
  intro u b q open' header
  have hopen : u.seq.core.state.exchangeable = true ↔ open' := exchangeable_iff
  refine ⟨fun hq => rule_sqxc.refuses hr empty_fits (sqxcMsg_busy (mt hopen.1 hq)),
    fun hq hh => rule_sqxc.answers hr empty_fits (sqxcMsg_fault (u := u) (hopen.2 hq) (programFault_header hh)),
    fun hq hh => ⟨fun i hi hpass hfail => ?_, fun hpass => ?_⟩⟩
  · exact rule_sqxc.answers hr empty_fits (sqxcMsg_fault (u := u) (hopen.2 hq) (programFault_step hh hi hpass hfail))
  · exact rule_sqxc.answers hr empty_fits (sqxcMsg_swaps (u := u) (hopen.2 hq) (programFault_none hh hpass))

theorem mem_drivers (d : Driver) : d ∈ drivers := by cases d <;> decide

/-! ## The walk (R126) -/

theorem walkSteps_succ (n : Nat) (s : State) :
    walkSteps (n + 1) s = if (takeStep s).2 then walkSteps n (takeStep s).1 else (takeStep s).1 := by
  rw [walkSteps]
  rcases takeStep s with ⟨t, _ | _⟩ <;> rfl

/-! ## SQGO (R135) -/

theorem rule_sqgo : RuleOf .sqgo sqgoMsg := ⟨rfl, fun _ _ => rfl⟩

section
variable {u : State}

theorem sqgoMsg_length {args : List Byte} (h : args ≠ []) : sqgoMsg args u = refuse .length u := if_pos h

theorem sqgoMsg_state (h : ¬ (u.seq.core.state = .ready ∨ u.seq.core.state = .complete) ∨ u.tracker.op ≠ .loading) :
    sqgoMsg [] u = refuse .state u := by
  rcases h with h | h
  · exact if_pos (not_or.1 h)
  · simp [sqgoMsg, h]

theorem sqgoMsg_runs (hq : u.seq.core.state = .ready ∨ u.seq.core.state = .complete) (ho : u.tracker.op = .loading) :
    sqgoMsg [] u = done (judgeGrant (runFromStart u)) (walkItems (runFromStart u)) := by
  have : ¬ (u.seq.core.state ≠ .ready ∧ u.seq.core.state ≠ .complete) := by rwa [← not_or, not_not]
  simp only [sqgoMsg, if_neg this, ho]
  rfl

end

/-! ## The expiries (R128, R132; log entry 6) -/

section
variable {s : State}

theorem exec_intervalExpiry (s : State) : exec .intervalExpiry s = .next (intervalExpires s) := rfl

theorem intervalExpires_running (hq : s.seq.core.state = .running) (hp : s.seq.core.progress.isSome) :
    intervalExpires s = judgeGrant (walk (s.setCore { s.seq.core with interval := 0 })) := by
  obtain ⟨p, hp⟩ := Option.isSome_iff_exists.1 hp
  simp only [intervalExpires, hq, hp]

theorem intervalExpires_suspending (hq : s.seq.core.state = .suspending) (hp : s.seq.core.progress.isSome) :
    intervalExpires s = s.setCore { s.seq.core with interval := 0 } := by
  obtain ⟨p, hp⟩ := Option.isSome_iff_exists.1 hp
  simp only [intervalExpires, hq, hp]

theorem intervalExpires_stale
    (h : s.seq.core.progress = none ∨ (s.seq.core.state ≠ .running ∧ s.seq.core.state ≠ .suspending)) :
    intervalExpires s = s := by
  rw [intervalExpires]
  split
  next hq hp => exact absurd h (by simp [hq, hp])
  next hq hp => exact absurd h (by simp [hq, hp])
  next => rfl

theorem exec_dwellExpiry (s : State) : exec .dwellExpiry s = .next (dwellExpires s) := rfl

theorem dwellExpires_runs (hq : s.seq.core.state = .running) (hw : s.seq.core.wait = .dwell) :
    dwellExpires s = judgeGrant (moveOn (s.setCore { s.seq.core with dwell := 0 })) := if_pos ⟨hq, hw⟩

theorem dwellExpires_stale (h : s.seq.core.state ≠ .running ∨ s.seq.core.wait ≠ .dwell) : dwellExpires s = s :=
  if_neg (by rwa [not_and_or])

end

/-! ## What the Sequencer hears (R127, R128, R130, R131, R136; log entry 30) -/

/-- A reason other than HOST raises the SEQUENCE notice as the suspend leaves the Sequencer (R143). -/
theorem suspendSeq_raises {why : SuspendReason} (x : SuspendDetail) (s : State) (h : why ≠ .host) :
    suspendSeq why x s =
      raise (.sequence .suspended s.seq.core.pointer (stepKind s.seq.active s.seq.core.pointer) why x s.seq.core.passes)
        (s.setCore { s.seq.core with state := .suspended, wait := .nothing, suspend := why, detail := x }) := if_neg h

theorem suspendSeq_host (x : SuspendDetail) (s : State) : suspendSeq .host x s =
    s.setCore { s.seq.core with state := .suspended, wait := .nothing, suspend := .host, detail := x } := by simp [suspendSeq]

theorem reaches_eq_false_iff (r : EndReason) : r.reaches = false ↔ r ≠ .target ∧ r ≠ .stripped := by cases r <;> decide

theorem leftStart_iff (p : Progress) : p.leftStart = true ↔ p.entered = true ∨ p.ended.isSome := by simp [Progress.leftStart]

theorem badEnd_iff (p : Progress) (r : EndReason) :
    p.badEnd = some r ↔ p.ended = some r ∧ r ≠ .target ∧ r ≠ .stripped := by
  rw [Progress.badEnd, ← reaches_eq_false_iff]
  rcases p.ended with _ | x
  · simp
  · cases hx : x.reaches <;> simp [hx] <;> rintro rfl <;> simp [hx]

theorem badReturn_iff (p : Progress) (r : EndReason) :
    p.badReturn = some r ↔ p.idle = true ∧ p.ended = some r ∧ r ≠ .target ∧ r ≠ .stripped := by
  rw [← badEnd_iff, Progress.badReturn]
  cases p.idle <;> simp

/-- The step at the pointer is a START that awaits its transfer (R128). -/
theorem awaits_iff (s : State) : awaits s = true ↔
    ∃ d tank dir g p b, stepAt s.seq.active s.seq.core.pointer = .start d tank dir g p b 1 := by
  rw [awaits, currentStep]
  cases stepAt s.seq.active s.seq.core.pointer <;> simp

/-- What is taken of an option only where a flag is set is none where the option has no value to give. -/
theorem when_eq_none_iff {α : Type} {b : Bool} {o : Option α} :
    (if b then o else none) = none ↔ (b = true → ∀ a, o ≠ some a) := by
  cases b <;> simp [Option.eq_none_iff_forall_ne_some]

/-- An act returned a record to IDLE that a waiting START watches (R127). -/
theorem watched_iff {before s : State} {code tank dir g p b a : Nat}
    (h : stepAt s.seq.active s.seq.core.pointer = .start code tank dir g p b a) :
    watched s (returnedDrivers before s) = true ↔
      ∃ d : Driver, (before.transfer d).state ≠ .idle ∧ (s.transfer d).state = .idle ∧
        (d.code = code ∨ (s.transfer d).tank = tank) := by
  simp [watched, currentStep, h, returnedDrivers, mem_drivers, and_assoc]

section
variable {before s : State}

theorem hears_judges (hq : s.seq.core.state = .running)
    (hw : s.seq.core.wait = .opening ∨ s.seq.core.wait = .interval ∨ s.seq.core.wait = .transfer) :
    sequencerHears before s = walk s := by
  rcases hw with hw | hw | hw <;> simp only [sequencerHears, hq, hw]

theorem hears_waiting_start (hq : s.seq.core.state = .running)
    (hw : s.seq.core.wait = .driver ∨ s.seq.core.wait = .tank) :
    sequencerHears before s = if watched s (returnedDrivers before s) then walk s else s := by
  rcases hw with hw | hw <;> simp only [sequencerHears, hq, hw]

theorem hears_elsewhere (hq : s.seq.core.state = .running)
    (hw : s.seq.core.wait = .nothing ∨ s.seq.core.wait = .pour ∨ s.seq.core.wait = .dwell) :
    sequencerHears before s = s := by
  rcases hw with hw | hw | hw <;> simp only [sequencerHears, hq, hw]

theorem hears_suspending (hq : s.seq.core.state = .suspending) : sequencerHears before s = finishSuspending s := by
  simp only [sequencerHears, hq]

theorem hears_suspended_host (hq : s.seq.core.state = .suspended) (hs : s.seq.core.suspend = .host) :
    sequencerHears before s = hostToFault before s := by
  simp only [sequencerHears, hq, hs, if_true]

theorem hears_suspended_other (hq : s.seq.core.state = .suspended) (hs : s.seq.core.suspend ≠ .host) :
    sequencerHears before s = s := by
  simp only [sequencerHears, hq, if_neg hs]

theorem hears_at_rest (hq : s.seq.core.state = .empty ∨ s.seq.core.state = .ready ∨ s.seq.core.state = .yielded ∨
    s.seq.core.state = .complete) : sequencerHears before s = s := by
  rcases hq with hq | hq | hq | hq <;> simp only [sequencerHears, hq]

variable {p : Progress}

theorem finishSuspending_none (hp : s.seq.core.progress = none) : finishSuspending s = s := by
  simp only [finishSuspending, hp]

theorem finishSuspending_stays (hp : s.seq.core.progress = some p) (hl : ¬ p.leftStart = true) : finishSuspending s = s := by
  simp only [finishSuspending, hp, if_neg hl]

theorem finishSuspending_faults {r : EndReason} (hp : s.seq.core.progress = some p) (hl : p.leftStart = true)
    (ha : awaits s = true) (hr : p.badEnd = some r) : finishSuspending s = suspendSeq .transferFault (.ended r) s := by
  simp only [finishSuspending, hp, if_pos hl, Option.ite_none_right_eq_some.2 ⟨ha, hr⟩]

theorem finishSuspending_suspends (hp : s.seq.core.progress = some p) (hl : p.leftStart = true)
    (hn : awaits s = true → ∀ r, p.badEnd ≠ some r) : finishSuspending s = suspendSeq .host .nothing s := by
  simp only [finishSuspending, hp, if_pos hl, when_eq_none_iff.2 hn]

theorem hostToFault_none (hp : s.seq.core.progress = none) : hostToFault before s = s := by
  simp only [hostToFault, hp]

theorem hostToFault_faults {r : EndReason} (hp : s.seq.core.progress = some p) (ho : returnHeard before s = true)
    (ha : awaits s = true) (hr : p.badReturn = some r) :
    hostToFault before s = suspendSeq .transferFault (.ended r) s := by
  simp only [hostToFault, hp, if_pos ho, Option.ite_none_right_eq_some.2 ⟨ha, hr⟩]

theorem hostToFault_keeps (hp : s.seq.core.progress = some p)
    (hn : returnHeard before s = true → awaits s = true → ∀ r, p.badReturn ≠ some r) : hostToFault before s = s := by
  by_cases ho : returnHeard before s = true
  · simp only [hostToFault, hp, if_pos ho, when_eq_none_iff.2 (hn ho)]
  · simp only [hostToFault, hp, if_neg ho]

end

/-- The awaited transfer's own return to IDLE, recorded in the act (R128). -/
theorem returnHeard_iff (before s : State) : returnHeard before s = true ↔
    before.seq.core.progress.map Progress.idle = some false ∧ s.seq.core.progress.map Progress.idle = some true := by
  simp [returnHeard]

theorem pourRecorded_iff (s : State) (n : Nat) : pourRecorded s n = true ↔ ∃ x ∈ s.tracker.history, x.pour = n := by
  simp [pourRecorded]

theorem pourRecorded_eq_false_iff (s : State) (n : Nat) : pourRecorded s n = false ↔ ∀ x ∈ s.tracker.history, x.pour ≠ n := by
  simp [pourRecorded]

theorem hearRecord_eq {s : State} {n : Nat} (h : stepAt s.seq.active s.seq.core.pointer = .waitPour n) :
    hearRecord s = if s.seq.core.state = .running ∧ s.seq.core.wait = .pour ∧ pourRecorded s n then walk s else s := by
  simp only [hearRecord, currentStep, h]

theorem hearRecord_elsewhere {s : State} (h : s.seq.core.state ≠ .running ∨ s.seq.core.wait ≠ .pour) : hearRecord s = s := by
  rw [hearRecord]
  split
  · exact if_neg fun ⟨hq, hw, _⟩ => h.elim (· hq) (· hw)
  · rfl

/-- Settles O39: SQGO, the two expiries and `sequencerHears`, branch by branch. -/
theorem sqgoAndTheCountdownsMoveThePointer : Obligations.SqgoAndTheCountdownsMoveThePointer := by
  refine ⟨fun s hr => ⟨fun h => rule_sqgo.refuses hr empty_fits (sqgoMsg_state h),
      fun hq ho => rule_sqgo.answers hr empty_fits (sqgoMsg_runs (u := taken .ship .sqgo [] s) hq ho)⟩,
    rule_sqgo.otherForms fun args u h => sqgoMsg_length h, unknownOnShore _ rfl, fun s => ?_,
    fun s => ⟨rfl, rfl, fun n => walkSteps_succ n s⟩, fun before s => ?_, fun s => ⟨fun n hn hq hw => ?_, hearRecord_elsewhere⟩⟩
  · intro q expired moved
    rw [exec_intervalExpiry, exec_dwellExpiry]
    exact ⟨fun hq hp => congrArg _ (intervalExpires_running hq hp), fun hq hp => congrArg _ (intervalExpires_suspending hq hp),
      fun h => congrArg _ (intervalExpires_stale h), fun hq hw => congrArg _ (dwellExpires_runs hq hw),
      fun h => congrArg _ (dwellExpires_stale h)⟩
  · intro c heard awaited bad suspended faulted own
    have haw : awaits s = true ↔ awaited := awaits_iff s
    refine ⟨rfl, settle_handsNothingOn before s, fun hq => ⟨hears_judges hq, fun hw code tank dir g p b a hstep => ?_,
      hears_elsewhere hq⟩, fun hq => ⟨fun hp => ?_, fun p hp => ?_⟩,
      fun hq => ⟨hears_suspended_other hq, fun hs p hp => ?_, fun hp => ?_⟩, hears_at_rest⟩
    · have hreturns := watched_iff (before := before) hstep
      exact ⟨fun hret => (hears_waiting_start hq hw).trans (if_pos (hreturns.2 hret)),
        fun hret => (hears_waiting_start hq hw).trans (if_neg (mt hreturns.1 hret))⟩
    · exact (hears_suspending hq).trans (finishSuspending_none hp)
    · have hleft := leftStart_iff p
      have hbad : ∀ r, p.badEnd = some r ↔ bad p r := badEnd_iff p
      refine ⟨fun hl => ?_, fun hl r ha hb => ?_, fun hl hn => ?_⟩
      · exact (hears_suspending hq).trans (finishSuspending_stays hp (mt hleft.1 hl))
      · exact (hears_suspending hq).trans ((finishSuspending_faults hp (hleft.2 hl) (haw.2 ha) ((hbad r).2 hb)).trans
          (suspendSeq_raises _ _ (by decide)))
      · exact (hears_suspending hq).trans ((finishSuspending_suspends hp (hleft.2 hl)
          fun ha r hr => hn (haw.1 ha) r ((hbad r).1 hr)).trans (suspendSeq_host _ _))
    · have hown : returnHeard before s = true ↔ own := returnHeard_iff before s
      have hidle : own → p.idle = true := fun ho => by simpa [hp] using ho.2
      refine ⟨fun r ho ha hb => ?_, fun hn => ?_⟩
      · exact (hears_suspended_host hq hs).trans ((hostToFault_faults hp (hown.2 ho) (haw.2 ha)
          ((badReturn_iff p r).2 ⟨hidle ho, hb⟩)).trans (suspendSeq_raises _ _ (by decide)))
      · exact (hears_suspended_host hq hs).trans (hostToFault_keeps hp fun ho ha r hr =>
          hn ⟨hown.1 ho, haw.1 ha, r, ((badReturn_iff p r).1 hr).2⟩)
    · by_cases hs : s.seq.core.suspend = .host
      · exact (hears_suspended_host hq hs).trans (hostToFault_none hp)
      · exact hears_suspended_other hq hs
  · rw [hearRecord_eq hn]
    exact ⟨fun hx => if_pos ⟨hq, hw, (pourRecorded_iff s n).2 hx⟩,
      fun hx => if_neg fun h => absurd h.2.2 (Bool.eq_false_iff.1 ((pourRecorded_eq_false_iff s n).2 hx))⟩

/-! ## The end of a step and of a pass (R126, R133) -/

/-- The tank of a START step is at the step's target (R133; log entry 39). -/
def StartAtTarget (s : State) (tank dir g : Nat) : Prop :=
  let m := tankMass s tank
  let T := s.store.tables
  T.isBallast tank = true ∧
    ((dir = 0 ∧ ((g = 4294967295 ∧ m ≤ T.residual tank) ∨ (g ≤ 4000000 ∧ (m ≤ g ∨ m ≤ T.residual tank)))) ∨
      (dir = 1 ∧ g ≤ 4000000 ∧ min g (T.capacityMass tank (tankDensity s tank)) ≤ m))

theorem startAtTarget_iff (s : State) (tank dir g : Nat) : startAtTarget s tank dir g = true ↔ StartAtTarget s tank dir g := by
  rw [StartAtTarget, startAtTarget, Bool.and_eq_true]
  refine and_congr_right fun _ => ?_
  rcases hdir : Direction.ofCode dir with _ | x
  · have := directionCode_none hdir
    simp; omega
  rcases hg : Target.ofCode g with _ | t
  · have := targetCode_none hg
    cases x <;> simp <;> omega
  rcases directionCode_some hdir with ⟨rfl, rfl⟩ | ⟨rfl, rfl⟩ <;> rcases targetCode_some hg with ⟨rfl, rfl⟩ | ⟨hm, rfl⟩ <;>
    simp <;> omega

theorem allAtTarget_iff (s : State) : allAtTarget s = true ↔ ∀ i < headLength s.seq.active, ∀ d tank dir g p base a,
    stepAt s.seq.active i = .start d tank dir g p base a → StartAtTarget s tank dir g := by
  simp only [allAtTarget, List.all_eq_true, List.mem_range]
  refine forall₂_congr fun i _ => ?_
  cases stepAt s.seq.active i with
  | start d tank dir g p base a =>
    refine ⟨fun h _ _ _ _ _ _ _ he => ?_, fun h => (startAtTarget_iff s tank dir g).2 (h _ _ _ _ _ _ _ rfl)⟩
    cases he
    exact (startAtTarget_iff s tank dir g).1 h
  | _ => simp [Step.atTarget]

section
variable {s : State}

theorem nextStep_moves (h : s.seq.core.pointer + 1 < headLength s.seq.active) : nextStep s =
    (s.setCore { s.seq.core with pointer := s.seq.core.pointer + 1, progress := none, interval := 0, dwell := 0 }, true) :=
  if_pos h

theorem nextStep_ends (h : headLength s.seq.active ≤ s.seq.core.pointer + 1) : nextStep s = endPass s :=
  if_neg (Nat.not_lt.2 h)

theorem endPass_completes (h : passCompletes (countPass s) = true) : endPass s = (completeSeq (countPass s), false) := if_pos h

theorem endPass_repeats (h : ¬ passCompletes (countPass s) = true) : endPass s =
    (s.setCore { s.seq.core with
      pointer := 0, progress := none, interval := 0, dwell := 0, passes := countTo passMax s.seq.core.passes }, true) :=
  if_neg h

end

theorem passCompletes_iff (s : State) : passCompletes (countPass s) = true ↔
    headMode s.seq.active = 0 ∨ countTo passMax s.seq.core.passes = headLimit s.seq.active ∨
      (headExit s.seq.active = 1 ∧ allAtTarget s = true) := by
  have htarget : allAtTarget (countPass s) = allAtTarget s := rfl
  have hpasses : (countPass s).seq.core.passes = countTo passMax s.seq.core.passes := rfl
  simp [passCompletes, htarget, hpasses, or_assoc]

/-! ## The leaving conditions of a START in hand (R128) -/

/-- An awaited transfer returned to IDLE with an end reason that is not TARGET or STRIPPED (R128). -/
theorem leavingFault_iff (a : Nat) (p : Progress) (r : EndReason) : (if a == 1 then p.badReturn else none) = some r ↔
    a = 1 ∧ p.idle = true ∧ p.ended = some r ∧ r ≠ .target ∧ r ≠ .stripped := by
  rw [Option.ite_none_right_eq_some, beq_iff_eq, badReturn_iff]

section
variable {await : Bool} {p : Progress} {s : State}

theorem judgeLeaving_faults {r : EndReason} (h : (if await then p.badReturn else none) = some r) :
    judgeLeaving await p s = (suspendSeq .transferFault (.ended r) s, false) := by
  simp only [judgeLeaving, h]

theorem judgeLeaving_opening (h : (if await then p.badReturn else none) = none) (hl : ¬ p.leftStart = true) :
    judgeLeaving await p s = (waitFor .opening s, false) := by
  simp only [judgeLeaving, h, if_pos hl]

theorem judgeLeaving_interval (h : (if await then p.badReturn else none) = none) (hl : p.leftStart = true)
    (hi : s.seq.core.interval ≠ 0) : judgeLeaving await p s = (waitFor .interval s, false) := by
  simp only [judgeLeaving, h, if_neg (not_not.2 hl), if_pos hi]

theorem judgeLeaving_transfer (h : (if await then p.badReturn else none) = none) (hl : p.leftStart = true)
    (hi : s.seq.core.interval = 0) (ha : await = true) (hn : p.idle = false) :
    judgeLeaving await p s = (waitFor .transfer s, false) := by
  have hn : await = true ∧ ¬ p.idle = true := ⟨ha, Bool.eq_false_iff.1 hn⟩
  simp only [judgeLeaving, h, if_neg (not_not.2 hl), if_neg (not_not.2 hi), if_pos hn]

theorem judgeLeaving_leaves (h : (if await then p.badReturn else none) = none) (hl : p.leftStart = true)
    (hi : s.seq.core.interval = 0) (hn : await = true → p.idle = true) : judgeLeaving await p s = nextStep s := by
  have hn : ¬ (await = true ∧ ¬ p.idle = true) := fun ⟨ha, hi⟩ => hi (hn ha)
  simp only [judgeLeaving, h, if_neg (not_not.2 hl), if_neg (not_not.2 hi), if_neg hn]

end

/-! ## A START that is presented (R127) -/

/-- A START just begun is in hand: its step progress, and its interval loaded from the header (R128). -/
def inHand (b : ProgramBank) (d : Driver) (entered : Bool) (v : State) : State :=
  v.setCore { v.seq.core with progress := some ⟨d, entered, none, false⟩, interval := headInterval b * 10 }

section
variable {r : StartReq} {await : Bool} {s : State}

theorem present_driverBusy (h : StartRefused s r .driverBusy) : present r await s = (waitFor .driver s, false) := by
  simp only [present, (judgeStart_error_iff s r _).2 h]

theorem present_tankBusy (h : StartRefused s r .tankBusy) : present r await s = (waitFor .tank s, false) := by
  simp only [present, (judgeStart_error_iff s r _).2 h]

theorem present_refused {cause : StartCause} (hd : cause ≠ .driverBusy) (ht : cause ≠ .tankBusy)
    (h : StartRefused s r cause) : present r await s = (suspendSeq .stepRefused (.refused cause) s, false) := by
  rw [present, (judgeStart_error_iff s r cause).2 h]
  split
  next he => cases he
  next he => cases he; exact absurd rfl hd
  next he => cases he; exact absurd rfl ht
  next he => cases he; rfl

theorem present_begins {d : Driver} {v : State} {entered : Bool} (hd : d.code = r.driver) (h : StartPasses s r)
    (hv : acceptStart .program (some s.seq.core.pointer) (startNamed d r) s = v)
    (he : ((v.transfer d).state != .opening) = entered) :
    present r await s = judgeLeaving await ⟨d, entered, none, false⟩ (inHand s.seq.active d entered v) := by
  have hb : v.seq.active = s.seq.active := by simp [← hv]
  subst he
  simp only [present, (judgeStart_ok_iff hd).2 h, hv]
  rw [← hb]
  rfl

end

/-- A START just begun has no end to suspend for. -/
theorem noFault_begun (await : Bool) (d : Driver) (entered : Bool) :
    (if await then Progress.badReturn ⟨d, entered, none, false⟩ else none) = none := by cases await <;> rfl

section
variable {await : Bool} {b : ProgramBank} {d : Driver} {v : State}

/-- A START just begun that is in its start phase waits for OPENING (R128). -/
theorem judgeLeaving_begun_opening :
    judgeLeaving await ⟨d, false, none, false⟩ (inHand b d false v) = (waitFor .opening (inHand b d false v), false) :=
  judgeLeaving_opening (noFault_begun ..) (by simp [Progress.leftStart])

theorem judgeLeaving_begun_interval (h : headInterval b ≠ 0) :
    judgeLeaving await ⟨d, true, none, false⟩ (inHand b d true v) = (waitFor .interval (inHand b d true v), false) :=
  judgeLeaving_interval (noFault_begun ..) rfl (Nat.mul_ne_zero h (by decide))

theorem inHand_interval (entered : Bool) (h : headInterval b = 0) : (inHand b d entered v).seq.core.interval = 0 := by
  simp [inHand, h]

theorem judgeLeaving_begun_transfer (h : headInterval b = 0) (ha : await = true) :
    judgeLeaving await ⟨d, true, none, false⟩ (inHand b d true v) = (waitFor .transfer (inHand b d true v), false) :=
  judgeLeaving_transfer (noFault_begun ..) rfl (inHand_interval true h) ha rfl

theorem judgeLeaving_begun_leaves (h : headInterval b = 0) (ha : ¬ await = true) :
    judgeLeaving await ⟨d, true, none, false⟩ (inHand b d true v) = nextStep (inHand b d true v) :=
  judgeLeaving_leaves (noFault_begun ..) rfl (inHand_interval true h) fun h => absurd h ha

end

/-! ## The steps by their kind (R127 to R132) -/

section
variable {s : State}

theorem takeStep_start {d tank dir g p base a : Nat}
    (h : stepAt s.seq.active s.seq.core.pointer = .start d tank dir g p base a) (hp : s.seq.core.progress = none) :
    takeStep s = present ⟨d, tank, dir, g, p, base⟩ (a == 1) s := by
  simp only [takeStep, currentStep, h, hp]

theorem takeStep_start_inHand {d tank dir g p base a : Nat} {pr : Progress}
    (h : stepAt s.seq.active s.seq.core.pointer = .start d tank dir g p base a) (hp : s.seq.core.progress = some pr) :
    takeStep s = judgeLeaving (a == 1) pr s := by
  simp only [takeStep, currentStep, h, hp]

theorem takeStep_stop {d : Driver} (h : stepAt s.seq.active s.seq.core.pointer = .stop d.code) :
    takeStep s = nextStep (endEvent d .stopped s) := by
  simp only [takeStep, currentStep, h, stopStep, ofCode_code]

theorem takeStep_mark {v : Nat} (h : stepAt s.seq.active s.seq.core.pointer = .mark v) :
    takeStep s = nextStep (setStage v s) := by
  simp only [takeStep, currentStep, h]

theorem takeStep_finish (h : stepAt s.seq.active s.seq.core.pointer = .finish) :
    takeStep s = (completeSeq (countPass s), false) := by
  simp only [takeStep, currentStep, h, endStep]

theorem takeStep_dwell {n : Nat} (h : stepAt s.seq.active s.seq.core.pointer = .dwell n) :
    takeStep s = (s.setCore { s.seq.core with dwell := n * 10, wait := .dwell }, false) := by
  simp only [takeStep, currentStep, h]
  rfl

theorem takeStep_await {n : Nat} (h : stepAt s.seq.active s.seq.core.pointer = .await n) :
    takeStep s = if awaitHolds s n then nextStep s else (waitFor .transfer s, false) := by
  simp only [takeStep, currentStep, h]

theorem takeStep_waitPour {n : Nat} (h : stepAt s.seq.active s.seq.core.pointer = .waitPour n) :
    takeStep s = if pourRecorded s n then nextStep s else (deadlockCheck (waitFor .pour s), false) := by
  simp only [takeStep, currentStep, h]

theorem takeStep_unknown {k : Nat} (h : stepAt s.seq.active s.seq.core.pointer = .unknown k) : takeStep s = (s, false) := by
  simp only [takeStep, currentStep, h]

end

theorem awaitHolds_code (s : State) (d : Driver) : awaitHolds s d.code = true ↔ (s.transfer d).state = .idle := by
  simp [awaitHolds, ofCode_code]

/-- AWAIT of ALL waits for every PROGRAM transfer (R130). -/
theorem awaitHolds_all (s : State) :
    awaitHolds s 6 = true ↔ ∀ d, (s.transfer d).owner = some .program → (s.transfer d).state = .idle := by
  have hcode : Driver.ofCode 6 = none := rfl
  simp only [awaitHolds, hcode, List.all_eq_true, mem_drivers, true_imp_iff, Bool.or_eq_true, beq_iff_eq, bne_iff_ne]
  exact forall_congr' fun d => or_comm.trans imp_iff_not_or.symm

/-- The tracker holds its next pour on STAGE (R142). -/
theorem heldOnStage_iff (s : State) : heldOnStage s = true ↔
    ∃ x, concerned s = some x ∧ x.started = false ∧ hasReason s.tracker.lastReasons .stage = true := by
  rw [heldOnStage]
  cases concerned s <;> simp

/-- Where the deadlock check suspends a pointer that has just reached a WAIT_POUR (R142). -/
theorem deadlock_iff {s : State} {n : Nat} (h : stepAt s.seq.active s.seq.core.pointer = .waitPour n) :
    ((waitFor .pour s).seq.core.state = .running ∧ (waitFor .pour s).seq.core.wait = .pour ∧
      awaitsPlanned (waitFor .pour s) = true ∧ heldOnStage (waitFor .pour s) = true) ↔
      s.seq.core.state = .running ∧ PlanBears s.tracker.active n ∧ heldOnStage s = true := by
  have hplan : awaitsPlanned (waitFor .pour s) = true ↔ PlanBears s.tracker.active n := by
    rw [awaitsPlanned_iff]
    refine ⟨fun ⟨k, hk, hb⟩ => ?_, fun hb => ⟨n, h, hb⟩⟩
    cases h.symm.trans hk
    exact hb
  rw [hplan]
  exact ⟨fun ⟨hq, _, hb, hs⟩ => ⟨hq, hb, hs⟩, fun ⟨hq, hb, hs⟩ => ⟨hq, rfl, hb, hs⟩⟩

/-- Settles O40: `takeStep` by the kind of the step, and `nextStep` at the end of a step and of a pass. -/
theorem theWalkTakesEachStepByItsKind : Obligations.TheWalkTakesEachStepByItsKind := by
  intro s c b core waits noticed suspended completed passes atTargets
  have hends : completeSeq (countPass s) = completed passes := rfl
  have hcompletes : passCompletes (countPass s) = true ↔
      headMode b = 0 ∨ passes = headLimit b ∨ (headExit b = 1 ∧ atTargets) := by
    rw [passCompletes_iff, allAtTarget_iff]
    exact Iff.rfl
  refine ⟨fun d tank dir g p base a h hp => ?_, fun d tank dir g p base a pr h hp => ?_, fun d h => takeStep_stop h,
    fun v h => takeStep_mark h, fun h => takeStep_finish h, fun n h => takeStep_dwell h, fun d h => ?_, fun h => ?_,
    fun n h => ?_, fun k h => takeStep_unknown h, nextStep_moves, fun hend => ⟨fun hc => ?_, fun hm hl ht => ?_⟩⟩
  · intro r
    have hstep := takeStep_start h hp
    refine ⟨fun hr => hstep.trans (present_driverBusy hr), fun hr => hstep.trans (present_tankBusy hr),
      fun x hd ht hr => hstep.trans ((present_refused hd ht hr).trans
        (congrArg (·, false) (suspendSeq_raises _ _ (by decide)))), fun e he hpass => ?_⟩
    let v := acceptStart .program (some c.pointer) (startNamed e r) s
    refine ⟨v, acceptStart_starts .program (some c.pointer) (startNamed e r) s, fun ho => ?_, fun hne => ?_⟩
    · exact hstep.trans ((present_begins (v := v) he hpass rfl (by simp [ho])).trans judgeLeaving_begun_opening)
    · have hstep := hstep.trans (present_begins (v := v) he hpass rfl (bne_iff_ne.2 hne))
      exact ⟨fun hi => hstep.trans (judgeLeaving_begun_interval hi),
        fun hi ha => hstep.trans (judgeLeaving_begun_transfer hi (beq_iff_eq.2 ha)),
        fun hi ha => hstep.trans (judgeLeaving_begun_leaves hi (mt beq_iff_eq.1 ha))⟩
  · intro left bad
    have hstep := takeStep_start_inHand h hp
    have hleft : pr.leftStart = true ↔ left := leftStart_iff pr
    refine ⟨fun r hb => hstep.trans ((judgeLeaving_faults ((leavingFault_iff a pr r).2 hb)).trans
      (congrArg (·, false) (suspendSeq_raises _ _ (by decide)))), fun hno => ?_⟩
    have hnone : (if a == 1 then pr.badReturn else none) = none :=
      Option.eq_none_iff_forall_ne_some.2 fun r hr => hno r ((leavingFault_iff a pr r).1 hr)
    refine ⟨fun hl => hstep.trans (judgeLeaving_opening hnone (mt hleft.1 hl)),
      fun hl hi => hstep.trans (judgeLeaving_interval hnone (hleft.2 hl) hi),
      fun hl hi ha hidle => hstep.trans (judgeLeaving_transfer hnone (hleft.2 hl) hi (beq_iff_eq.2 ha) hidle),
      fun hl hi ha => hstep.trans (judgeLeaving_leaves hnone (hleft.2 hl) hi fun ha1 => ?_)⟩
    exact ha.resolve_left (not_not.2 (beq_iff_eq.1 ha1))
  · rw [takeStep_await h]
    exact if_congr (awaitHolds_code s d) rfl rfl
  · rw [takeStep_await h]
    refine ⟨fun hidle => if_pos ((awaitHolds_all s).2 hidle), fun ⟨d, ho, hne⟩ => if_neg fun hall => ?_⟩
    exact hne ((awaitHolds_all s).1 hall d ho)
  · rw [takeStep_waitPour h]
    refine ⟨fun hx => if_pos ((pourRecorded_iff s n).2 hx), fun hx => ?_⟩
    rw [if_neg (Bool.eq_false_iff.1 ((pourRecorded_eq_false_iff s n).2 hx)), deadlockCheck]
    intro held
    have hheld : heldOnStage s = true ↔ held := heldOnStage_iff s
    refine ⟨fun hno => congrArg (·, false) (if_neg fun hd => ?_), fun hh hb hq => congrArg (·, false) ((if_pos ?_).trans
      (suspendSeq_raises _ _ (by decide)))⟩
    · obtain ⟨-, hb, hs⟩ := (deadlock_iff h).1 hd
      exact hno ⟨hheld.1 hs, hb⟩
    · exact (deadlock_iff h).2 ⟨hq, hb, hheld.2 hh⟩
  · rw [nextStep_ends hend, endPass_completes (hcompletes.2 hc), hends]
  · have hno : ¬ passCompletes (countPass s) = true := fun hp => by
      rcases hcompletes.1 hp with h | h | ⟨hx, ha⟩
      exacts [hm h, hl h, ht.elim (· hx) (· ha)]
    exact (nextStep_ends hend).trans (endPass_repeats hno)

/-! ## SQPS (R136) -/

theorem rule_sqps : RuleOf .sqps sqpsMsg := ⟨rfl, fun _ _ => rfl⟩

theorem rule_sqrs : RuleOf .sqrs sqrsMsg := ⟨rfl, fun _ _ => rfl⟩

theorem rule_sqab : RuleOf .sqab sqabMsg := ⟨rfl, fun _ _ => rfl⟩

section
variable {u : State}

theorem sqpsMsg_length {args : List Byte} (h : args ≠ []) : sqpsMsg args u = refuse .length u := if_pos h

theorem sqpsMsg_running (hq : u.seq.core.state = .running) : sqpsMsg [] u = done (suspendHost u) [] := by
  simp [sqpsMsg, hq]

theorem sqpsMsg_suspended (hq : u.seq.core.state = .suspending ∨ u.seq.core.state = .suspended) :
    sqpsMsg [] u = done u [] := by
  rcases hq with hq | hq <;> simp [sqpsMsg, hq]

theorem sqpsMsg_console (hq : u.seq.core.state = .yielded) : sqpsMsg [] u = refuse .console u := by
  simp [sqpsMsg, hq]

theorem sqpsMsg_state (hq : u.seq.core.state = .empty ∨ u.seq.core.state = .ready ∨ u.seq.core.state = .complete) :
    sqpsMsg [] u = refuse .state u := by
  rcases hq with hq | hq | hq <;> simp [sqpsMsg, hq]

theorem suspendHost_opening (hw : u.seq.core.wait = .opening) :
    suspendHost u = u.setCore { u.seq.core with state := .suspending, wait := .nothing, suspend := .host } := if_pos hw

theorem suspendHost_at_once (hw : u.seq.core.wait ≠ .opening) : suspendHost u =
    u.setCore { u.seq.core with state := .suspended, wait := .nothing, suspend := .host, detail := .nothing } :=
  (if_neg hw).trans (suspendSeq_host .nothing u)

/-! ## SQRS (R137) -/

theorem sqrsMsg_length {args : List Byte} (h : args ≠ []) : sqrsMsg args u = refuse .length u := if_pos h

theorem sqrsMsg_suspending (hq : u.seq.core.state = .suspending) :
    sqrsMsg [] u = done (unsuspend .opening u) (walkItems (unsuspend .opening u)) := by
  simp [sqrsMsg, hq]

theorem sqrsMsg_suspended {w : State} (hq : u.seq.core.state = .suspended)
    (h : resumeBy u.seq.core.suspend (unsuspend .nothing u) = w) : sqrsMsg [] u = done (judgeGrant w) (walkItems w) := by
  simp [sqrsMsg, hq, h, afterWalk]

theorem sqrsMsg_console (hq : u.seq.core.state = .yielded) : sqrsMsg [] u = refuse .console u := by
  simp [sqrsMsg, hq]

theorem sqrsMsg_state (hq : (u.seq.core.state = .empty ∨ u.seq.core.state = .ready ∨ u.seq.core.state = .complete) ∨
    u.seq.core.state = .running) : sqrsMsg [] u = refuse .state u := by
  rcases hq with (hq | hq | hq) | hq <;> simp [sqrsMsg, hq]

theorem resumeHost_started (h : u.seq.core.progress.isSome) :
    resumeHost u = walk (u.setCore { u.seq.core with interval := headInterval u.seq.active * 10 }) := by
  obtain ⟨p, hp⟩ := Option.isSome_iff_exists.1 h
  simp only [resumeHost, hp]
  rfl

theorem resumeHost_fresh (h : u.seq.core.progress = none) : resumeHost u = resumeStep u := by
  simp only [resumeHost, h]

theorem resumeStep_walks (h : ∀ n, stepAt u.seq.active u.seq.core.pointer ≠ .dwell n) : resumeStep u = walk u := by
  rw [resumeStep]
  split
  next n hn => exact absurd hn (h n)
  next => rfl

theorem resumeStep_dwells {n : Nat} (h : stepAt u.seq.active u.seq.core.pointer = .dwell n) (hd : u.seq.core.dwell ≠ 0) :
    resumeStep u = u.setCore { u.seq.core with wait := .dwell } := by
  simp only [resumeStep, currentStep, h, if_neg hd]
  rfl

theorem resumeStep_moves {n : Nat} (h : stepAt u.seq.active u.seq.core.pointer = .dwell n) (hd : u.seq.core.dwell = 0) :
    resumeStep u = moveOn u := by
  simp only [resumeStep, currentStep, h, if_pos hd]

end

/-! ## Ends one after another (R114, R115; log entry 38) -/

/-- What the ends of transfers leave of the gauges, the links and a Sequencer with no START in hand, beside what
`endEvents_fields` says. -/
structure EndsKeep (s t : State) : Prop where
  gauge : t.gauge = { s.gauge with recs := t.gauge.recs }
  links : t.links = { s.links with notices := t.links.notices }
  core : s.seq.core.progress = none → t.seq.core = s.seq.core

theorem EndsKeep.refl (s : State) : EndsKeep s s := ⟨rfl, rfl, fun _ => rfl⟩

theorem EndsKeep.trans {s t v : State} (h1 : EndsKeep s t) (h2 : EndsKeep t v) : EndsKeep s v where
  gauge := h2.gauge.trans (by rw [h1.gauge])
  links := h2.links.trans (by rw [h1.links])
  core hp := (h2.core ((h1.core hp).symm ▸ hp)).trans (h1.core hp)

/-- Where no START is in hand nothing is written into the step progress (R128). -/
theorem told_core {q : Sequencer} (d : Driver) (f : Progress → Progress) (h : q.core.progress = none) :
    (q.told d f).core = q.core := by
  simp only [Sequencer.told, h, Option.map_none]
  rw [← h]

section
variable {d : Driver} {reason : EndReason} {s t : State}

theorem beginsClosing_keeps (h : BeginsClosing d reason s t) : EndsKeep s t := by
  obtain ⟨-, -, -, -, -, hseq, -, -, -, -, hgauge, -, -, -, -, -, hlinks, -⟩ := h
  exact ⟨by rw [hgauge], by rw [hlinks], fun hp => by rw [hseq, told_core _ _ hp]⟩

theorem returnsToIdle_keeps (h : ReturnsToIdle d s t) : EndsKeep s t := by
  obtain ⟨-, -, -, -, -, -, -, hlinks, hseq, -, -, -, -, -, -, hgauge, -⟩ := h
  exact ⟨hgauge, hlinks, fun hp => by rw [hseq, told_core _ _ hp]⟩

theorem closesWith_keeps (h : ClosesWith d reason s t) : EndsKeep s t := by
  obtain ⟨m, hbegins, hreturns, hstays⟩ := h
  by_cases hv : ValvesDone m d
  · exact (beginsClosing_keeps hbegins).trans (returnsToIdle_keeps (hreturns hv))
  · rw [hstays hv]
    exact beginsClosing_keeps hbegins

theorem closesWith_other {e : Driver} (h : ClosesWith d reason s t) (he : e ≠ d) : t.transfer e = s.transfer e := by
  obtain ⟨m, ⟨-, hother, -⟩, hreturns, hstays⟩ := h
  by_cases hv : ValvesDone m d
  · obtain ⟨-, hother', -⟩ := hreturns hv
    exact (hother' e he).trans (hother e he)
  · rw [hstays hv]
    exact hother e he

theorem closesWith_ended (h : ClosesWith d reason s t) :
    (t.transfer d).reason = some reason ∧ ((t.transfer d).state = .closing ∨ (t.transfer d).state = .idle) := by
  obtain ⟨m, ⟨hx, -⟩, hreturns, hstays⟩ := h
  by_cases hv : ValvesDone m d
  · obtain ⟨hx', -⟩ := hreturns hv
    rw [hx', hx]
    exact ⟨rfl, .inr rfl⟩
  · rw [hstays hv, hx]
    exact ⟨rfl, .inl rfl⟩

theorem endEvent_keeps (d : Driver) (reason : EndReason) (s : State) : EndsKeep s (endEvent d reason s) := by
  cases h : (s.transfer d).state.active
  · rw [endEvent_inactive h]
    exact .refl s
  · exact closesWith_keeps (endEvent_closes reason h)

theorem endEvent_other {e : Driver} (h : e ≠ d) : (endEvent d reason s).transfer e = s.transfer e := by
  cases ha : (s.transfer d).state.active
  · rw [endEvent_inactive ha]
  · exact closesWith_other (endEvent_closes reason ha) h

theorem endEvents_append (l₁ l₂ : List Driver) (reason : EndReason) (s : State) :
    endEvents (l₁ ++ l₂) reason s = endEvents l₂ reason (endEvents l₁ reason s) := List.foldl_append

theorem endEvents_keeps (reason : EndReason) : ∀ (l : List Driver) (s : State), EndsKeep s (endEvents l reason s)
  | [], s => .refl s
  | d :: l, s => (endEvent_keeps d reason s).trans (endEvents_keeps reason l (endEvent d reason s))

theorem endEvents_other : ∀ {l : List Driver} {s : State}, d ∉ l → (endEvents l reason s).transfer d = s.transfer d
  | [], _, _ => rfl
  | e :: l, s, h => by
    rw [List.mem_cons, not_or] at h
    exact (endEvents_other (s := endEvent e reason s) h.2).trans (endEvent_other h.1)

/-- Each active transfer of a list of drivers is ended once. -/
theorem endEvents_ended {l : List Driver} (hn : l.Nodup) (hd : d ∈ l) (ha : (s.transfer d).state.active = true) :
    ((endEvents l reason s).transfer d).reason = some reason ∧
      (((endEvents l reason s).transfer d).state = .closing ∨ ((endEvents l reason s).transfer d).state = .idle) := by
  obtain ⟨l₁, l₂, rfl⟩ := List.append_of_mem hd
  obtain ⟨-, hn₂, hdisjoint⟩ := List.nodup_append.1 hn
  have h₁ : d ∉ l₁ := fun hm => hdisjoint d hm d (List.mem_cons_self ..) rfl
  have h₂ : d ∉ l₂ := (List.nodup_cons.1 hn₂).1
  have hactive : ((endEvents l₁ reason s).transfer d).state.active = true := by rw [endEvents_other h₁, ha]
  rw [endEvents_append, show endEvents (d :: l₂) reason _ = endEvents l₂ reason (endEvent d reason _) from rfl,
    endEvents_other h₂]
  exact closesWith_ended (endEvent_closes reason hactive)

end

/-- The part after the ends among the first `i` drivers of those that `p` holds of. -/
def endedAmong (p : Driver → Bool) (reason : EndReason) (s : State) (i : Nat) : State :=
  endEvents ((drivers.take i).filter p) reason s

/-- The ends of active transfers are made one after another, in the order of the drivers (log entry 38). -/
theorem endedAmong_chain {p : Driver → Bool} {s : State} (reason : EndReason)
    (hp : ∀ d, p d = true → (s.transfer d).state.active = true) {i : Nat} {d : Driver} (hd : drivers[i]? = some d) :
    (p d = true → ClosesWith d reason (endedAmong p reason s i) (endedAmong p reason s (i + 1))) ∧
      (¬ p d = true → endedAmong p reason s (i + 1) = endedAmong p reason s i) := by
  have hstep : endedAmong p reason s (i + 1) = endEvents ([d].filter p) reason (endedAmong p reason s i) := by
    rw [endedAmong, List.take_add_one, hd, List.filter_append, endEvents_append]
    rfl
  have hlater : d ∉ (drivers.take i).filter p := fun hm => by
    have hdrop : d ∈ drivers.drop i := List.mem_of_getElem? (i := 0) (by simpa using hd)
    exact List.disjoint_take_drop (by decide) le_rfl (List.mem_of_mem_filter hm) hdrop
  refine ⟨fun h => ?_, fun h => ?_⟩
  · have hactive : ((endedAmong p reason s i).transfer d).state.active = true := by
      rw [endedAmong, endEvents_other hlater, hp d h]
    rw [hstep, List.filter_singleton, h]
    exact endEvent_closes reason hactive
  · rw [hstep, List.filter_singleton, Bool.eq_false_iff.2 h]
    rfl

/-! ## SQAB (R138) -/

section
variable {u : State}

theorem sqabMsg_length {args : List Byte} (h : args ≠ []) : sqabMsg args u = refuse .length u := if_pos h

theorem sqabMsg_console (hc : u.console.state ≠ .auto) : sqabMsg [] u = refuse .console u := by
  simp [sqabMsg, hc]

theorem sqabMsg_state (hc : u.console.state = .auto) (hq : u.seq.core.state = .empty) : sqabMsg [] u = refuse .state u := by
  simp [sqabMsg, hc, hq]

/-- The part after SQAB's ends: they hand nothing on, since the Sequencer is READY before them (R138). -/
def aborted (u : State) : State := endEvents (abortable u) .aborted (readySeq u)

theorem aborted_core : (aborted u).seq.core = { SeqCore.fresh .ready with passes := u.seq.core.passes } :=
  (endEvents_keeps .aborted (abortable u) (readySeq u)).core rfl

theorem aborted_fields (u : State) : (aborted u).console.state = u.console.state ∧
    (aborted u).engine.published = u.engine.published ∧ (aborted u).engine.result = u.engine.result ∧
    (aborted u).engine.fixed = u.engine.fixed ∧ (aborted u).seq.active = u.seq.active ∧
    (aborted u).seq.standby = u.seq.standby ∧ (aborted u).seq.stage = u.seq.stage := by
  simp [aborted, readySeq]

theorem sqabMsg_aborts (hc : u.console.state = .auto) (hq : u.seq.core.state ≠ .empty) :
    sqabMsg [] u = done (aborted u) [natItem (abortable u).length] := by
  have hquiet : HandsNothingOn (aborted u) :=
    ⟨.inl ((aborted_fields u).1.trans hc), .inr (.inl (by rw [aborted_core]; rfl))⟩
  have hsettle : settle u (aborted u) = aborted u := settle_handsNothingOn u _ hquiet
  simp only [sqabMsg, ne_eq, not_true_eq_false, if_false, hc, if_neg hq]
  exact congrArg (done · _) hsettle

/-- SQAB ends a driver's transfer: a PROGRAM transfer in OPENING, PRIMING or RUNNING (R138). -/
def abortsDriver (u : State) (d : Driver) : Bool :=
  (u.transfer d).owner == some .program && (u.transfer d).state.active

theorem abortsDriver_iff (d : Driver) : abortsDriver u d = true ↔
    (u.transfer d).owner = some .program ∧ (u.transfer d).state.active = true := by simp [abortsDriver]

theorem abortable_eq : abortable u = drivers.filter (abortsDriver u) := rfl

theorem mem_abortable (d : Driver) : d ∈ abortable u ↔
    (u.transfer d).owner = some .program ∧ (u.transfer d).state.active = true := by
  rw [abortable_eq, List.mem_filter, abortsDriver_iff]
  exact and_iff_right (mem_drivers d)

end

/-- Settles O41: SQPS, SQRS and SQAB are taken by the state of the Sequencer and the reason of its suspend, and SQAB's ends are
`endedAmong`, driver after driver. -/
theorem theHostSuspendsResumesAndAborts : Obligations.TheHostSuspendsResumesAndAborts := by
  refine ⟨fun s hr => ?_, fun s hr => ?_, rule_sqps.otherForms fun args u h => sqpsMsg_length h, unknownOnShore _ rfl,
    rule_sqrs.otherForms fun args u h => sqrsMsg_length h, unknownOnShore _ rfl,
    rule_sqab.otherForms fun args u h => sqabMsg_length h, unknownOnShore _ rfl⟩
  · intro c core idle u v ps rs resumed next
    have resumes {w : State} (hq : c.state = .suspended) (h : resumeBy c.suspend resumed = w) : rs w :=
      rule_sqrs.answers hr empty_fits (sqrsMsg_suspended (u := v) hq h)
    refine ⟨fun hq hw => ?_, fun hq hw => ?_, fun hq => rule_sqps.answers hr empty_fits (sqpsMsg_suspended (u := u) hq),
      fun hq => ⟨rule_sqps.refuses hr empty_fits (sqpsMsg_console hq), rule_sqrs.refuses hr empty_fits (sqrsMsg_console hq)⟩,
      fun hq => rule_sqps.refuses hr empty_fits (sqpsMsg_state hq),
      fun hq => rule_sqrs.refuses hr empty_fits (sqrsMsg_state hq),
      fun hq => rule_sqrs.answers hr empty_fits (sqrsMsg_suspending (u := v) hq), fun hq => ⟨fun hwhy => ?_, fun hwhy => ?_,
        fun hwhy => ⟨fun hp => ?_, fun hp => ⟨fun hno => ?_, fun n hn => ⟨fun hd => ?_, fun hd => ?_⟩⟩⟩⟩⟩
    · exact rule_sqps.answers hr empty_fits
        ((sqpsMsg_running (u := u) hq).trans (congrArg (done · []) (suspendHost_opening hw)))
    · exact rule_sqps.answers hr empty_fits
        ((sqpsMsg_running (u := u) hq).trans (congrArg (done · []) (suspendHost_at_once hw)))
    · exact resumes hq (by rw [hwhy]; rfl)
    · exact resumes hq (by rcases hwhy with hwhy | hwhy <;> rw [hwhy] <;> rfl)
    · exact resumes hq (by rw [hwhy]; exact resumeHost_started (u := resumed) hp)
    · exact resumes hq (by rw [hwhy]; exact (resumeHost_fresh (u := resumed) hp).trans (resumeStep_walks hno))
    · exact resumes hq (by rw [hwhy]; exact (resumeHost_fresh (u := resumed) hp).trans (resumeStep_dwells hn hd))
    · exact resumes hq (by rw [hwhy]; exact (resumeHost_fresh (u := resumed) hp).trans (resumeStep_moves hn hd))
  · intro ours
    refine ⟨fun hc => rule_sqab.refuses hr empty_fits (sqabMsg_console hc),
      fun hc hq => rule_sqab.refuses hr empty_fits (sqabMsg_state hc hq), fun hc hq => ?_⟩
    intro u ready
    have hours (d : Driver) : abortsDriver u d = true ↔ ours d := abortsDriver_iff (u := u) d
    have hmem (d : Driver) : d ∈ abortable u ↔ ours d := mem_abortable (u := u) d
    have hcount : (abortable u).length = drivers.countP fun d => decide (ours d) := by
      rw [abortable_eq, ← List.countP_eq_length_filter]
      exact List.countP_congr fun d _ => (hours d).trans decide_eq_true_iff.symm
    have hkeep : EndsKeep ready (aborted u) := endEvents_keeps ..
    refine ⟨aborted u, ?_, ⟨endedAmong (abortsDriver u) .aborted ready, rfl, rfl, fun i d hd => ?_⟩, hkeep.gauge, hkeep.links, ?_⟩
    · rw [← hcount]
      exact rule_sqab.answers hr empty_fits (sqabMsg_aborts (u := u) hc hq)
    · have hchain := endedAmong_chain .aborted (s := ready) (fun d hd => ((hours d).1 hd).2) hd
      exact ⟨fun ho => hchain.1 ((hours d).2 ho), fun ho => hchain.2 (mt (hours d).1 ho)⟩
    obtain ⟨hconsole, hpublished, hresult, hfixed, hactive, hstandby, hstage⟩ := aborted_fields u
    obtain ⟨hstore, hlimits, htracker, htime, hinputs, -⟩ := endEvents_frame (abortable u) .aborted ready
    refine ⟨hpublished, hresult, hfixed, fun hnone => ?_, fun d ho => ?_, fun d ho => ?_, aborted_core, hactive, hstandby, hstage,
      hstore, hlimits, htracker, hconsole.trans hc, htime, hinputs⟩
    · rw [aborted, List.eq_nil_iff_forall_not_mem.2 fun d hd => hnone d ((hmem d).1 hd)]
      rfl
    · exact endEvents_ended ((by decide : drivers.Nodup).filter _) ((hmem d).2 ho) ho.2
    · exact endEvents_other (mt (hmem d).1 ho)

end Sys2Proof.SequenceProgram
end

section
/-! PROOF. The statements about the loading operation and the pour plan (spec/08_the_loading_operation_and_the_pour_plan.md):
the reasons and what an evaluation does, OPBG, OPND, PLXC and HSET, the loader's requests, and the ack expiry. -/

namespace Sys2Proof.LoadingOperation

open Sys2Proof.Machine Sys2Proof.ShipData Sys2Proof.Survey Sys2Proof.ConditionEngine Sys2Proof.SequenceProgram

/-! ## The reason set (R154) -/

theorem hasReason_or (a b : Reasons) (r : Reason) : hasReason (a ||| b) r = (hasReason a r || hasReason b r) := by
  have hdistrib : (a ||| b) &&& r.bit = (a &&& r.bit) ||| (b &&& r.bit) := by ext i; simp [Bool.and_or_distrib_right]
  simp only [hasReason, hdistrib]
  rw [Bool.eq_iff_iff, Bool.or_eq_true, bne_iff_ne, bne_iff_ne, bne_iff_ne, Ne, BitVec.or_eq_zero_iff, not_and_or]

/-- A reason is in the set that holds `q` alone exactly if it is `q`. -/
theorem hasReason_bit (q r : Reason) : hasReason q.bit r = decide (q = r) := by cases q <;> cases r <;> rfl

theorem hasReason_empty (r : Reason) : hasReason 0#13 r = false := by simp [hasReason]

theorem hasReason_when (b : Bool) (q r : Reason) : hasReason (reasonWhen b q) r = (b && decide (q = r)) := by
  cases b
  · exact hasReason_empty r
  · exact hasReason_bit q r

section
variable (s : State) (c : Concerned)

/-- Each reason is in the set exactly by its own condition. -/
theorem hasReason_reasonSet (r : Reason) : hasReason (reasonSet s c) r =
    match r with
    | .noCondition => !s.engine.published.isSome
    | .stage => !c.started && decide (s.seq.stage < c.entry.stage)
    | .breach => s.limits.watch == .breach
    | .stopLatch => s.limits.latch
    | .lag => s.engine.published.isSome &&
        decide ((c.entry.lagTol : Int) < if c.started then s.tracker.lag else s.tracker.lagBefore)
    | .holdMass => overHold s c
    | .historyFull => !c.started && decide (128 ≤ s.tracker.history.length)
    | .projection => ((standingFor s c).map fun st => !st.passed).getD false
    | .airDraft => (s.engine.published.isSome && s.limits.flags.air.cells.any id) || standingHolds s c ProjReasons.airDraft
    | .draft => (s.engine.published.isSome && s.limits.flags.draft) || standingHolds s c ProjReasons.draft
    | .trim => (s.engine.published.isSome && s.limits.flags.trim) || standingHolds s c ProjReasons.trim
    | .overpour => c.started && !c.unexpected && decide (c.entry.planned + c.entry.overTol < c.tally)
    | .unexpected => c.unexpected := by
  rw [reasonSet]
  simp only [hasReason_or, hasReason_when]
  cases r <;> simp

/-- What the standing for the pour and the current generation holds. -/
theorem standingFor_iff (f : Standing → Bool) : ((standingFor s c).map f).getD false = true ↔
    ∃ x, s.tracker.standing = some x ∧ x.pour = c.entry.pour ∧ x.gen = s.tracker.gen ∧ f x = true := by
  rw [standingFor]
  cases s.tracker.standing with
  | none => simp
  | some st => by_cases h : st.pour = c.entry.pour ∧ st.gen = s.tracker.gen <;> simp [h]; tauto

theorem overHold_iff : overHold s c = true ↔ ∃ row, s.store.tables.rowOfHold c.entry.hold = some row ∧
    s.store.tables.maxHold row < s.tracker.holds.get (c.entry.hold - 1) + (c.entry.planned - c.tally) := by
  rw [overHold]
  cases s.store.tables.rowOfHold c.entry.hold with
  | none => simp
  | some row => exact decide_eq_true_iff.trans (by simp [Concerned.remaining])

end

/-- Settles O51: each reason's condition (`hasReason_reasonSet`) in the terms of R154. -/
theorem eachReasonHoldsByItsRule : Obligations.EachReasonHoldsByItsRule := by
  intro s c has published T standing remaining
  have hstanding (f : Standing → Bool) : ((standingFor s c).map f).getD false = true ↔ standing f := standingFor_iff s c f
  have holds (f : ProjReasons → Bool) : standingHolds s c f = true ↔ standing fun x => f x.reasons :=
    standingFor_iff s c fun x => f x.reasons
  simp only [has, hasReason_reasonSet, Bool.or_eq_true, Bool.and_eq_true, Bool.not_eq_true', decide_eq_true_eq, hstanding,
    holds, overHold_iff, beq_iff_eq, List.any_eq_true, id]
  simp [published, T, remaining, and_assoc]
  

/-! ## The pour concerned (R153) -/

/-- The tracker holds a current pour: PERMITTED, POURING, HOLD_REQUESTED or HELD (R153). -/
abbrev HoldsCurrent (t : Tracker) : Prop :=
  t.state = .permitted ∨ t.state = .pouring ∨ t.state = .holdRequested ∨ t.state = .held

/-- What an evaluation judges of a current pour. -/
def judgedOf (p : CurrentPour) : Concerned := ⟨p.entry, p.started, p.origin == .unexpected, p.tally⟩

section
variable {s : State}

/-- The pour concerned is the tracker's alone. -/
theorem concerned_congr {t : State} (h : t.tracker = s.tracker) : concerned t = concerned s := by
  simp only [concerned, nextEntry, h]

theorem concerned_evaluating (h : s.tracker.state = .evaluating) :
    concerned s = (nextEntry s).map fun e => ⟨e, false, false, 0⟩ := by
  simp only [concerned, h]

theorem concerned_current (h : HoldsCurrent s.tracker) : concerned s = s.tracker.cur.map judgedOf := by
  rcases h with h | h | h | h <;> simp only [concerned, h] <;> rfl

theorem concerned_resting (h : s.tracker.state = .idle ∨ s.tracker.state = .planDone) : concerned s = none := by
  rcases h with h | h <;> simp only [concerned, h]

/-- Where a pour is concerned it is the next of the plan in EVALUATING, and the current one otherwise. -/
theorem concerned_cases {c : Concerned} (h : concerned s = some c) :
    (s.tracker.state = .evaluating ∧ c.started = false) ∨
      ∃ p, HoldsCurrent s.tracker ∧ s.tracker.cur = some p ∧ c = judgedOf p := by
  cases hs : s.tracker.state with
  | idle | planDone => simp [concerned, hs] at h
  | evaluating =>
    rw [concerned_evaluating hs] at h
    obtain ⟨e, -, rfl⟩ := Option.map_eq_some_iff.1 h
    exact .inl ⟨rfl, rfl⟩
  | permitted | pouring | holdRequested | held =>
    have hc : HoldsCurrent s.tracker := by simp [HoldsCurrent, hs]
    rw [concerned_current hc] at h
    obtain ⟨p, hp, rfl⟩ := Option.map_eq_some_iff.1 h
    exact .inr ⟨p, hc, hp, rfl⟩

end

/-! ## What an evaluation does, by the tracker state (R156) -/

theorem sendHold_tracker (p : CurrentPour) (r : Reasons) (s : State) : (sendHold p r s).tracker = { s.tracker with
    state := .holdRequested
    cur := some { p with reasons := r, holds := countTo 65535 p.holds, union := p.union ||| r }
    ack := some (ticks s.limits.ackTime) } := by
  simp [sendHold]

section
variable {s : State} {c : Concerned} {r : Reasons} {p : CurrentPour}

theorem actOn_permits (hs : s.tracker.state = .evaluating) (h : r = 0#13 ∧ standingPassed s c = true) :
    actOn c r s = sendPermit (plannedPour s c.entry) s := by
  simp only [actOn, hs, if_pos h]

theorem actOn_waits (hs : s.tracker.state = .evaluating) (h : ¬ (r = 0#13 ∧ standingPassed s c = true)) :
    actOn c r s = s := by
  simp only [actOn, hs, if_neg h]

theorem actOn_goes_on (hs : s.tracker.state = .permitted ∨ s.tracker.state = .pouring) (hp : s.tracker.cur = some p)
    (h : r = 0#13) : actOn c r s = s := by
  rcases hs with hs | hs <;> simp only [actOn, hs, hp, if_pos h]

theorem actOn_holds (hs : s.tracker.state = .permitted ∨ s.tracker.state = .pouring) (hp : s.tracker.cur = some p)
    (h : r ≠ 0#13) : actOn c r s = sendHold p r s := by
  rcases hs with hs | hs <;> simp only [actOn, hs, hp, if_neg h]

theorem actOn_follows_requested (hs : s.tracker.state = .holdRequested) (hp : s.tracker.cur = some p) :
    actOn c r s = followReasons p r s := by
  simp only [actOn, hs, hp]

theorem actOn_resumes (hs : s.tracker.state = .held) (hp : s.tracker.cur = some p) (h : r = 0#13 ∧ p.started = true) :
    actOn c r s = sendResume p s := by
  simp only [actOn, hs, hp, if_pos h]

theorem actOn_permits_held (hs : s.tracker.state = .held) (hp : s.tracker.cur = some p) (hn : p.started = false)
    (h : r = 0#13 ∧ standingPassed s c = true) : actOn c r s = sendPermit p s := by
  simp only [actOn, hs, hp, if_neg (show ¬ (r = 0#13 ∧ p.started = true) by simp [hn]), if_pos h]

theorem actOn_follows_held (hs : s.tracker.state = .held) (hp : s.tracker.cur = some p)
    (h : r ≠ 0#13 ∨ (p.started = false ∧ ¬ standingPassed s c = true)) : actOn c r s = followReasons p r s := by
  have hstay : ¬ (r = 0#13 ∧ p.started = true) := by rintro ⟨hr, hp⟩; simp [hr, hp] at h
  have hvoid : ¬ (r = 0#13 ∧ standingPassed s c = true) := by rintro ⟨hr, hp⟩; simp [hr, hp] at h
  simp only [actOn, hs, hp, if_neg hstay, if_neg hvoid]

/-- An evaluation that finds a reason leaves a pour concerned that is as started as the one it judged. -/
theorem concerned_actOn (h : concerned s = some c) (hr : r ≠ 0#13) :
    ∃ x, concerned (actOn c r s) = some x ∧ x.started = c.started := by
  have held {p : CurrentPour} (hs : s.tracker.state = .permitted ∨ s.tracker.state = .pouring) (hp : s.tracker.cur = some p) :
      ∃ x, concerned (actOn c r s) = some x ∧ x.started = p.started := by
    rw [actOn_holds hs hp hr, concerned_current (by simp [HoldsCurrent, sendHold_tracker]), sendHold_tracker]
    exact ⟨_, rfl, rfl⟩
  have follows {p : CurrentPour} (hc : HoldsCurrent s.tracker) :
      ∃ x, concerned (followReasons p r s) = some x ∧ x.started = p.started := by
    rw [concerned_current (by exact hc)]
    exact ⟨_, rfl, rfl⟩
  obtain ⟨hs, -⟩ | ⟨p, hc, hp, rfl⟩ := concerned_cases h
  · exact ⟨c, by rw [actOn_waits hs fun h => hr h.1, h], rfl⟩
  · have hfollows := follows (p := p) hc
    rcases hc with hs | hs | hs | hs
    · exact held (.inl hs) hp
    · exact held (.inr hs) hp
    · rwa [actOn_follows_requested hs hp]
    · rwa [actOn_follows_held hs hp (.inl hr)]

end

/-- The part with the reason set of the pour concerned stored (R156). -/
def noted (s : State) (r : Reasons) : State := { s with tracker := { s.tracker with lastReasons := r } }

/-- `v` with the Sequencer suspended with DEADLOCK, where the pour concerned of `s` is not started and held on STAGE, and the
Sequencer waits for a pour of the plan (R142). -/
def deadlocked (s : State) (c : Concerned) (v : State) : State :=
  if c.started = false ∧ hasReason (reasonSet s c) .stage = true ∧ awaitsPlanned s = true ∧ v.seq.core.state = .running ∧
      v.seq.core.wait = .pour then
    raise (.sequence .suspended v.seq.core.pointer (stepKind v.seq.active v.seq.core.pointer) .deadlock .nothing
        v.seq.core.passes)
      { v with seq := { v.seq with
        core := { v.seq.core with state := .suspended, wait := .nothing, suspend := .deadlock, detail := .nothing } } }
  else v

theorem awaitsPlanned_congr {s t : State} (hq : t.seq = s.seq) (hp : t.tracker.active = s.tracker.active) :
    awaitsPlanned t = awaitsPlanned s := by
  simp only [awaitsPlanned, hq, hp]

theorem evaluate_none {s : State} (h : concerned s = none) : evaluate s = s := by
  simp only [evaluate, h]

theorem actOn_lastReasons (c : Concerned) (r : Reasons) (s : State) :
    (actOn c r s).tracker.lastReasons = s.tracker.lastReasons := by
  simp only [actOn]; (repeat' split) <;> simp [sendPermit, sendResume, followReasons, sendHold_tracker]

/-- An evaluation acts on the reason set of the pour concerned, and then checks for a deadlock (R156). -/
theorem evaluate_concerned {s : State} {c : Concerned} (h : concerned s = some c) :
    evaluate s = deadlocked s c (actOn c (reasonSet s c) (noted s (reasonSet s c))) := by
  have hacts : evaluate s =
      if (!c.started && hasReason (reasonSet s c) .stage) = true then
        deadlockCheck (actOn c (reasonSet s c) (noted s (reasonSet s c)))
      else actOn c (reasonSet s c) (noted s (reasonSet s c)) := by
    simp only [evaluate, h]; rfl
  rw [hacts, deadlocked]
  by_cases hd : c.started = false ∧ hasReason (reasonSet s c) .stage = true
  · obtain ⟨hn, hstage⟩ := hd
    have hr : reasonSet s c ≠ 0#13 := fun h0 => by simp [h0, hasReason_empty] at hstage
    obtain ⟨x, hx, hxs⟩ := concerned_actOn (s := noted s (reasonSet s c)) h hr
    have hheld : heldOnStage (actOn c (reasonSet s c) (noted s (reasonSet s c))) = true :=
      (heldOnStage_iff _).2 ⟨x, hx, hxs.trans hn, by rw [actOn_lastReasons]; exact hstage⟩
    have hwaits : awaitsPlanned (actOn c (reasonSet s c) (noted s (reasonSet s c))) = awaitsPlanned s :=
      awaitsPlanned_congr (by simp [noted]) (by simp [noted])
    rw [if_pos (by simp [hn, hstage]), deadlockCheck]
    refine (if_congr ?_ (suspendSeq_raises _ _ (by decide)) rfl)
    simp only [hheld, hwaits, hn, hstage]
    tauto
  · rw [if_neg (by simpa using hd), if_neg fun h => hd ⟨h.1, h.2.1⟩]

theorem standingPassed_iff (s : State) (c : Concerned) : standingPassed s c = true ↔
    ∃ st, s.tracker.standing = some st ∧ st.passed = true ∧ st.pour = c.entry.pour ∧ st.gen = s.tracker.gen := by
  rw [standingPassed, standingFor_iff]
  exact exists_congr fun st => by tauto

/-- Settles O50: `evaluate_concerned` with the act of each tracker state. -/
theorem anEvaluationActsByTheTrackerState : Obligations.AnEvaluationActsByTheTrackerState := by
  refine ⟨fun s => ⟨evaluate_none, awaitsPlanned_iff s⟩, fun s c hc => ?_⟩
  intro r dead noted' moved notified permits follows passed
  have heval : evaluate s = dead (actOn c r (noted s r)) := evaluate_concerned hc
  have hpassed : standingPassed (noted s r) c = true ↔ passed := standingPassed_iff _ c
  refine ⟨fun hs => ⟨fun ⟨hr, hp⟩ => ?_, fun h => ?_⟩, fun p hp => ⟨fun hs => ⟨fun hr => ?_, fun hr => ?_⟩, fun hs => ?_,
    fun hs => ⟨fun hr hst => ?_, fun hr hst hpass => ?_, fun hr hst hpass => ?_, fun hr => ?_⟩⟩⟩
  · exact heval.trans (congrArg dead (actOn_permits hs ⟨hr, hpassed.2 hp⟩))
  · exact heval.trans (congrArg dead (actOn_waits hs fun ⟨hr, hp⟩ => h ⟨hr, hpassed.1 hp⟩))
  · exact heval.trans (congrArg dead (actOn_goes_on hs hp hr))
  · exact heval.trans (congrArg dead (actOn_holds hs hp hr))
  · exact heval.trans (congrArg dead (actOn_follows_requested hs hp))
  · exact heval.trans (congrArg dead (actOn_resumes hs hp ⟨hr, hst⟩))
  · exact heval.trans (congrArg dead (actOn_permits_held hs hp hst ⟨hr, hpassed.2 hpass⟩))
  · exact heval.trans (congrArg dead (actOn_follows_held hs hp (.inr ⟨hst, fun h => hpass (hpassed.1 h)⟩)))
  · exact heval.trans (congrArg dead (actOn_follows_held hs hp (.inl hr)))

/-! ## A request of the shore link -/

/-- `f` is the rule of the shore link's request `m` (R198). -/
def ShoreRuleOf (m : Mnem) (f : List Byte → State → Answer) : Prop :=
  m.ofLink .shore = true ∧ ∀ args u, perform m .shore args u = answer .shore m (f args u)

section
variable {m : Mnem} {f : List Byte → State → Answer} {args : List Byte} {s : State}

theorem ShoreRuleOf.answers {a : Answer} (hf : ShoreRuleOf m f) (hr : Ready .shore s) (ha : args.length ≤ maxArgs)
    (h : f args (taken .shore m args s) = a) :
    exec (m.command .shore args) s = .next (replied .shore m a.code a.data a.state) := by
  obtain ⟨hl, hperform⟩ := hf
  rw [exec_ready m .shore args s hr ha hl, hperform, h, answer_eq_replied]

theorem ShoreRuleOf.otherForms {form : List Byte → Prop} (hf : ShoreRuleOf m f)
    (h : ∀ args u, ¬ form args → f args u = refuse .length u) : OtherFormsRefusedOnShore m form :=
  otherFormsRefusedOnShore m form hf.1 fun args u hn => by rw [hf.2, h args u hn]

end

/-! ## LHAK and the ack expiry (R162) -/

theorem rule_lhak : ShoreRuleOf .lhak lhakMsg := ⟨rfl, fun _ _ => rfl⟩

section
variable {args : List Byte} {u : State} {pour : Nat}

theorem lhakMsg_length (h : args.length ≠ 2) : lhakMsg args u = refuse .length u := by
  simp only [lhakMsg, readOne_none 2 args h]

theorem lhakMsg_pour (h : readOne 2 args = some pour) : lhakMsg args u =
    if inRange 1 999 pour = false then refuse .range u else done (acknowledge pour u) [] := by
  simp only [lhakMsg, h]

theorem acknowledge_named {p : CurrentPour} (hs : u.tracker.state = .holdRequested) (hp : u.tracker.cur = some p)
    (hn : p.entry.pour = pour) : acknowledge pour u = evaluate (becomeHeld u) := by
  simp only [acknowledge, hs, hp, if_pos hn]

theorem acknowledge_other (h : ¬ (u.tracker.state = .holdRequested ∧ ∃ p, u.tracker.cur = some p ∧ p.entry.pour = pour)) :
    acknowledge pour u = u := by
  rw [acknowledge]
  split
  · next p hs hp => exact if_neg fun hn => h ⟨hs, p, hp, hn⟩
  · rfl

end

section
variable {s : State}

theorem exec_ackExpiry (s : State) : exec .ackExpiry s = .next (ackRunsOut s) := rfl

theorem ackRunsOut_expires {p : CurrentPour} (hs : s.tracker.state = .holdRequested) (hp : s.tracker.cur = some p)
    (ha : s.tracker.ack.isSome) : ackRunsOut s = ackExpires p s := by
  obtain ⟨n, hn⟩ := Option.isSome_iff_exists.1 ha
  simp only [ackRunsOut, hs, hp, hn]

theorem ackRunsOut_stale (h : s.tracker.state ≠ .holdRequested ∨ s.tracker.cur = none ∨ s.tracker.ack = none) :
    ackRunsOut s = s := by
  rw [ackRunsOut]
  split
  · next p n hs hp ha => simp [hs, hp, ha] at h
  · rfl

end

/-- A setting of the latch, whatever its cause (R89, R92). -/
theorem setLatch_only (cause : LatchCause) (n : Nat) (s : State) : setLatch cause n s = evaluate { latchSet cause n s with
    links := { s.links with notices := s.links.notices.set NoticeKind.stop.place (some (.stop cause n)) } } := by
  rw [setLatch_eq]; rfl

/-- Settles O49: LHAK is `acknowledge`, the expiry `ackRunsOut`, and a setting of the latch `setLatch_only`. -/
theorem lhakAndTheAckExpiryMakeAPourHeld : Obligations.LhakAndTheAckExpiryMakeAPourHeld := by
  refine ⟨fun s pour hr hpour => ?_, rule_lhak.otherForms fun args u h => lhakMsg_length h, unknownOnShip _ rfl,
    fun s => ⟨fun p hs hp ha => ?_, fun h => ?_⟩, fun s cause n => ?_⟩
  · intro args u names
    have hlen : args.length ≤ maxArgs := by simp [args, maxArgs]
    have hmsg := lhakMsg_pour (u := u) (readOne_toBE 2 pour hpour)
    have haccepted (h1 : 1 ≤ pour) (h2 : pour ≤ 999) : lhakMsg args u = done (acknowledge pour u) [] :=
      hmsg.trans (if_neg (by simp [inRange_iff.2 ⟨h1, h2⟩]))
    refine ⟨fun hbad => rule_lhak.answers hr hlen (hmsg.trans (if_pos ?_)), fun h1 h2 => ⟨?_, fun hn => ?_⟩⟩
    · rw [inRange_eq_false_iff]; omega
    · rintro ⟨hs, p, hp, hn⟩
      exact rule_lhak.answers hr hlen ((haccepted h1 h2).trans
        (congrArg (done · []) (acknowledge_named (u := u) hs hp hn)))
    · exact rule_lhak.answers hr hlen ((haccepted h1 h2).trans (congrArg (done · []) (acknowledge_other hn)))
  · rw [exec_ackExpiry, ackRunsOut_expires hs hp ha]; rfl
  · rw [exec_ackExpiry, ackRunsOut_stale h]
  · rw [setLatch_only]
    cases cause <;> rfl

/-! ## OPND (R149, R169) -/

theorem rule_opnd : RuleOf .opnd opndMsg := ⟨rfl, fun _ _ => rfl⟩

section
variable {u : State}

theorem opndMsg_length {args : List Byte} (h : args ≠ []) : opndMsg args u = refuse .length u := if_pos h

theorem opndMsg_state (h : u.tracker.op ≠ .loading) : opndMsg [] u = refuse .state u := by
  rw [opndMsg, if_neg (by simp), if_pos h]

/-- What keeps OPND waiting: a transfer, a pour, or the console (R149). -/
abbrev Unmoving (u : State) : Prop :=
  AllIdle u ∧ (u.tracker.state = .evaluating ∨ u.tracker.state = .planDone) ∧ u.console.grantLine = false

theorem unmoving_iff : (allIdle u = false ∨ (u.tracker.state ≠ .evaluating ∧ u.tracker.state ≠ .planDone) ∨
    u.console.grantLine = true) ↔ ¬ Unmoving u := by
  rw [Unmoving, ← allIdle_iff, ← Bool.not_eq_true, ← Bool.not_eq_true]
  tauto

theorem opndMsg_busy (ho : u.tracker.op = .loading) (h : ¬ Unmoving u) : opndMsg [] u = refuse .busy u := by
  rw [opndMsg, if_neg (by simp), if_neg (by simp [ho]), if_pos (unmoving_iff.2 h)]

theorem opndMsg_ends (ho : u.tracker.op = .loading) (h : Unmoving u) :
    opndMsg [] u = done (endOperation u) [.num u.tracker.ended] := by
  rw [opndMsg, if_neg (by simp), if_neg (by simp [ho]), if_neg fun hb => unmoving_iff.1 hb h]
  rfl

end

/-- Settles O43: OPND is refused by the first check that fails, and ends the operation otherwise. -/
theorem opndEndsTheLoadingOperation : Obligations.OpndEndsTheLoadingOperation := by
  refine ⟨fun s hr => ?_, rule_opnd.otherForms fun args u h => opndMsg_length h, unknownOnShore _ rfl⟩
  intro u free
  have hlen : ([] : List Byte).length ≤ maxArgs := Nat.zero_le _
  have hfree : Unmoving u ↔ free := by simp only [Unmoving, ← allIdle_iff, free]; exact Iff.rfl
  exact ⟨fun ho => rule_opnd.refuses hr hlen (opndMsg_state (u := u) ho),
    fun ho hf => rule_opnd.refuses hr hlen (opndMsg_busy (u := u) ho (mt hfree.1 hf)),
    fun ho hf => rule_opnd.answers hr hlen (opndMsg_ends (u := u) ho (hfree.2 hf))⟩

/-! ## HSET (R165) -/

theorem rule_hset : RuleOf .hset hsetMsg := ⟨rfl, fun _ _ => rfl⟩

theorem pouringInto_iff (t : Tracker) (h : Nat) :
    pouringInto t h = true ↔ ∃ p, t.cur = some p ∧ p.started = true ∧ p.entry.hold = h := by
  rw [pouringInto]
  cases t.cur <;> simp

section
variable {args : List Byte} {u : State} {h m : Nat}

theorem hsetMsg_length (hl : args.length ≠ 5) : hsetMsg args u = refuse .length u := by
  simp only [hsetMsg, readArgs_none [1, 4] args hl]

theorem hsetMsg_range (ha : readArgs [1, 4] args = some [h, m]) (hbad : h = 0 ∨ 12 < h ∨ 4000000 < m) :
    hsetMsg args u = refuse .range u := by
  have : inRange 1 12 h = false ∨ massMax < m := by rw [inRange_eq_false_iff, massMax]; omega
  simp only [hsetMsg, ha, if_pos this]

theorem hsetMsg_hold (ha : readArgs [1, 4] args = some [h, m]) (h1 : 1 ≤ h) (h12 : h ≤ 12) (hm : m ≤ 4000000) :
    hsetMsg args u = if pouringInto u.tracker h then refuse .busy u
      else done (setHold h m u) [.num (u.tracker.holds.get (h - 1)), .num m] := by
  have : ¬ (inRange 1 12 h = false ∨ massMax < m) := by rw [inRange_eq_false_iff, massMax]; omega
  simp only [hsetMsg, ha, if_neg this]
  rfl

end

theorem setHold_eq (h m : Nat) (u : State) : setHold h m u = evaluate (setRefreshMark { u with
    tracker := { u.tracker with
      holds := u.tracker.holds.set (h - 1) m
      corrections := if u.tracker.op = .loading then
          u.tracker.corrections.set (h - 1)
            (u.tracker.corrections.get (h - 1) + ((m : Int) - u.tracker.holds.get (h - 1)))
        else u.tracker.corrections } }) := by
  simp only [setHold, addCorrection]
  split <;> rfl

/-- Settles O45: HSET is refused by the first check that fails, and is `setHold` otherwise. -/
theorem hsetSetsAHoldMass : Obligations.HsetSetsAHoldMass := by
  refine ⟨fun s h m hr hh hm => ?_, rule_hset.otherForms fun args u hl => hsetMsg_length hl, unknownOnShore _ rfl⟩
  intro args u t busy before
  have hlen : args.length ≤ maxArgs := by simp [args, maxArgs]
  have hargs : readArgs [1, 4] args = some [h, m] := readArgs_compMass hh hm
  refine ⟨fun hbad => rule_hset.refuses hr hlen (hsetMsg_range hargs hbad), fun h1 h12 hmax => ?_⟩
  have hmsg := hsetMsg_hold (u := u) hargs h1 h12 hmax
  exact ⟨fun hb => rule_hset.refuses hr hlen (hmsg.trans (if_pos ((pouringInto_iff _ _).2 hb))),
    fun hb => rule_hset.answers hr hlen (hmsg.trans ((if_neg fun hp => hb ((pouringInto_iff _ _).1 hp)).trans
      (congrArg (done · _) (setHold_eq h m u))))⟩

/-! ## The plan checks (R150, R151) -/

/-- The fields of a plan entry lie in their ranges (R150). -/
abbrev EntryInRange (e : PlanEntry) : Prop :=
  1 ≤ e.pour ∧ e.pour ≤ 999 ∧ 1 ≤ e.hold ∧ e.hold ≤ 12 ∧ 1 ≤ e.planned ∧ e.planned ≤ 500000 ∧ e.rob ≤ 4000000 ∧
    e.lagTol ≤ 4000000 ∧ e.overTol ≤ 500000 ∧ e.stage ≤ 255

theorem entry_ok_iff (e : PlanEntry) : e.ok = true ↔ EntryInRange e := by
  simp [PlanEntry.ok, inRange_iff, EntryInRange, and_assoc]

/-- Entry `i` of a plan passes the checks: its fields lie in their ranges, and no lower entry, nor one of `seen`, bears its
pour number (R150, R151). -/
def EntrySound (seen : List Nat) (es : List PlanEntry) (i : Nat) (e : PlanEntry) : Prop :=
  EntryInRange e ∧ e.pour ∉ seen ∧ ∀ j < i, ∀ x, es[j]? = some x → x.pour ≠ e.pour

theorem entrySound_first (seen : List Nat) (es : List PlanEntry) (e : PlanEntry) :
    EntrySound seen es 0 e ↔ (e.ok && !seen.contains e.pour) = true := by
  simp [EntrySound, entry_ok_iff]

theorem entrySound_cons (seen : List Nat) (a : PlanEntry) (es : List PlanEntry) (i : Nat) (e : PlanEntry) :
    EntrySound seen (a :: es) (i + 1) e ↔ EntrySound (a.pour :: seen) es i e := by
  have hlower : (∀ j < i + 1, ∀ x, (a :: es)[j]? = some x → x.pour ≠ e.pour) ↔
      a.pour ≠ e.pour ∧ ∀ j < i, ∀ x, es[j]? = some x → x.pour ≠ e.pour := by
    rw [Nat.forall_lt_succ_left]
    simp
  simp only [EntrySound, hlower, List.mem_cons, not_or]
  tauto

theorem firstBadEntry_none : ∀ {es : List PlanEntry} {seen : List Nat} (k : Nat),
    (∀ i e, es[i]? = some e → EntrySound seen es i e) → firstBadEntry k seen es = none
  | [], _, _, _ => rfl
  | a :: es, seen, k, h => by
    rw [firstBadEntry, if_pos ((entrySound_first seen _ a).1 (h 0 a rfl))]
    exact firstBadEntry_none (k + 1) fun i e he => (entrySound_cons seen a es i e).1 (h (i + 1) e he)

theorem firstBadEntry_some : ∀ {es : List PlanEntry} {seen : List Nat} {i : Nat} {e : PlanEntry} (k : Nat), es[i]? = some e →
    (∀ j < i, ∀ x, es[j]? = some x → EntrySound seen es j x) → ¬ EntrySound seen es i e →
    firstBadEntry k seen es = some (k + i)
  | [], _, _, _, _, he, _, _ => by simp at he
  | a :: es, seen, 0, e, k, he, _, hbad => by
    obtain rfl : a = e := by simpa using he
    rw [firstBadEntry, if_neg (mt (entrySound_first seen _ a).2 hbad), Nat.add_zero]
  | a :: es, seen, i + 1, e, k, he, hlow, hbad => by
    have hfirst := (entrySound_first seen (a :: es) a).1 (hlow 0 i.succ_pos a rfl)
    rw [firstBadEntry, if_pos hfirst, firstBadEntry_some (es := es) (k + 1) he
      (fun j hj x hx => (entrySound_cons seen a es j x).1 (hlow (j + 1) (Nat.succ_lt_succ hj) x hx))
      (mt (entrySound_cons seen a es i e).2 hbad), Nat.add_assoc, Nat.add_comm 1 i]

section
variable {b : PlanBank}

theorem planFault_empty (h : planEntries b = []) : planFault b = some 0 := by
  simp only [planFault, h]

theorem planFault_entries (h : planEntries b ≠ []) : planFault b = firstBadEntry 0 [] (planEntries b) := by
  rw [planFault]
  split
  · next he => exact absurd he h
  · rfl

end

/-! ## The exchange of the plans (R152) -/

section
variable {s : State}

theorem voidPermit_keeps {x : State} (h : s.tracker.state ≠ .permitted) : voidPermit s x = x := by
  rw [voidPermit]
  split
  · next hs _ => exact absurd hs h
  · rfl

theorem voidPermit_sends {x : State} {p : CurrentPour} (hs : s.tracker.state = .permitted) (hp : s.tracker.cur = some p) :
    voidPermit s x = issueShore (.phld p.entry.pour p.entry.hold 0#13)
      (raisePour .held (some (p.entry.pour, p.entry.hold)) 0#13 x) := by
  simp only [voidPermit, hs, hp]

/-- An applied exchange raises the POUR notice with the first entry of the new plan, and evaluates (R152, R158). -/
theorem applyExchange_eq {x : State} (h : voidPermit s (swapPlans s) = x) : applyExchange s =
    evaluate (raise (.pour .exchange x.tracker.state (concernedPair (swapPlans s)) 0#13) x) := by
  have hpair : concernedPair x = concernedPair (swapPlans s) := by
    have htracker : x.tracker = (swapPlans s).tracker := by rw [← h]; simp
    rw [concernedPair, concerned_congr htracker]; rfl
  rw [applyExchange, h, ← hpair]
  rfl

theorem applyExchange_gen (s : State) : (applyExchange s).tracker.gen = (s.tracker.gen + 1) % 65536 := by
  simp [applyExchange, swapPlans]

end

/-! ## PLXC (R151) -/

theorem rule_plxc : RuleOf .plxc plxcMsg := ⟨rfl, fun _ _ => rfl⟩

section
variable {u : State}

theorem plxcMsg_length {args : List Byte} (h : args ≠ []) : plxcMsg args u = refuse .length u := if_pos h

theorem plxcMsg_busy (h : u.tracker.exchange = true) : plxcMsg [] u = refuse .busy u := by
  rw [plxcMsg, if_neg (by simp), if_pos h]

theorem plxcMsg_range {i : Nat} (h : u.tracker.exchange = false) (hf : planFault u.tracker.standby = some i) :
    plxcMsg [] u = refuse .range u [.num i] := by
  rw [plxcMsg, if_neg (by simp), if_neg (by simp [h])]
  simp only [hf]
  rfl

theorem plxcMsg_pends {p : CurrentPour} (h : u.tracker.exchange = false) (hf : planFault u.tracker.standby = none)
    (hp : u.tracker.cur = some p) (hst : p.started = true) :
    plxcMsg [] u = done { u with tracker := { u.tracker with exchange := true } } [.applied false] := by
  rw [plxcMsg, if_neg (by simp), if_neg (by simp [h])]
  simp only [hf, pouring, hp, hst]
  rfl

theorem plxcMsg_applies (h : u.tracker.exchange = false) (hf : planFault u.tracker.standby = none)
    (hp : ∀ p, u.tracker.cur = some p → p.started = false) :
    plxcMsg [] u = done (applyExchange u) [.applied true, .num ((u.tracker.gen + 1) % 65536 : Nat)] := by
  have hn : ¬ pouring u.tracker = true := by
    rw [pouring]
    cases hc : u.tracker.cur with
    | none => simp
    | some p => simp [hp p hc]
  rw [plxcMsg, if_neg (by simp), if_neg (by simp [h])]
  simp only [hf, if_neg hn, applyExchange_gen]
  rfl

end

/-- Settles O44: the checks of `planFault`, and the exchange as `applyExchange_eq` gives it. -/
theorem plxcExchangesThePlans : Obligations.PlxcExchangesThePlans := by
  refine ⟨fun s hr => ?_, rule_plxc.otherForms fun args u h => plxcMsg_length h, unknownOnShore _ rfl⟩
  intro u es good swapped pair applied
  have hlen : ([] : List Byte).length ≤ maxArgs := Nat.zero_le _
  have hgood (i : Nat) (e : PlanEntry) : EntrySound [] es i e ↔ good i e := by
    simp [EntrySound, good, EntryInRange]
  refine ⟨fun hx => rule_plxc.refuses hr hlen (plxcMsg_busy (u := u) hx), fun hx => ⟨fun he => ?_, fun i e he hlow hbad => ?_,
    fun hne hall => ?_⟩⟩
  · exact rule_plxc.answers hr hlen (plxcMsg_range (u := u) hx (planFault_empty he))
  · have hne : es ≠ [] := by rintro h; simp [h] at he
    have hfault := firstBadEntry_some 0 he (fun j hj x hxj => (hgood j x).2 (hlow j hj x hxj)) (mt (hgood i e).1 hbad)
    rw [Nat.zero_add] at hfault
    exact rule_plxc.answers hr hlen (plxcMsg_range (u := u) hx ((planFault_entries hne).trans hfault))
  · have hfault : planFault u.tracker.standby = none :=
      (planFault_entries hne).trans (firstBadEntry_none 0 fun i e he => (hgood i e).2 (hall i e he))
    refine ⟨fun p hp hst => rule_plxc.answers hr hlen (plxcMsg_pends (u := u) hx hfault hp hst), fun hp => ?_⟩
    have happlied {x : State} (h : voidPermit u (swapPlans u) = x) : applied x :=
      rule_plxc.answers hr hlen ((plxcMsg_applies (u := u) hx hfault hp).trans
        (congrArg (done · _) (applyExchange_eq h)))
    exact ⟨fun hs => happlied (voidPermit_keeps hs), fun p hs hc => happlied (voidPermit_sends hs hc)⟩

/-! ## POUR notices and the shore queue (R158, R203) -/

/-- The ship notices with a POUR notice raised, where it is enabled (R200, R202). -/
def withPour (l : Links) (d : Detail) : Tab 10 (Option Detail) :=
  if l.enables.getLsbD 2 = true then l.notices.set 4 (some d) else l.notices

theorem raisePour_eq (e : PourEvent) (c : Option (Nat × Nat)) (set : Reasons) (s : State) : raisePour e c set s =
    { s with links := { s.links with notices := withPour s.links (.pour e s.tracker.state c set) } } := by
  rw [raisePour, raise, withPour]
  split
  · next h => rw [if_pos (show s.links.enables.getLsbD 2 = true from h)]; rfl
  · next h => rw [if_neg (show ¬ s.links.enables.getLsbD 2 = true from h)]

/-- A later POUR notice takes the place of an earlier one (R200). -/
theorem withPour_again (l : Links) (queue : List ShoreNotice) (d d' : Detail) :
    withPour { l with queue := queue, notices := withPour l d } d' = withPour l d' := by
  simp only [withPour]
  split <;> simp

/-- The POUR notice that stands after a shore notice is queued in the tracker state `st`: SHORE_LOST where the queue of 16
lost its oldest (R203). -/
def queuedDetail (queue : List ShoreNotice) (st : TrackerState) (d : Detail) : Detail :=
  match queue with
  | oldest :: _ => if queue.length < 16 then d else .pour (.shoreLost oldest) st none 0#13
  | [] => d

theorem queuedDetail_room {queue : List ShoreNotice} (st : TrackerState) (d : Detail) (h : queue.length < 16) :
    queuedDetail queue st d = d := by
  cases queue with
  | nil => rfl
  | cons oldest rest => exact if_pos h

/-- A POUR notice with its shore notice, as the queue has room for it or not (R158, R203). -/
theorem issueShore_raisePour (n : ShoreNotice) (e : PourEvent) (c : Option (Nat × Nat)) (set : Reasons) (s : State) :
    issueShore n (raisePour e c set s) = { s with links := { s.links with
      queue := (if s.links.queue.length < 16 then s.links.queue else s.links.queue.tail) ++ [n]
      notices := withPour s.links
        (queuedDetail s.links.queue s.tracker.state (.pour e s.tracker.state c set)) } } := by
  rw [raisePour_eq, issueShore, shoreQueueMax]
  by_cases h : s.links.queue.length < 16
  · simp only [if_pos h, queuedDetail_room _ _ h]
  · cases hq : s.links.queue with
    | nil => simp [hq] at h
    | cons oldest rest =>
      rw [hq] at h
      simp only [if_neg h, queuedDetail, raisePour_eq, List.tail_cons]
      rw [withPour_again]

/-! ## LPST (R159) -/

theorem rule_lpst : ShoreRuleOf .lpst lpstMsg := ⟨rfl, fun _ _ => rfl⟩

theorem names_iff (p : CurrentPour) (pour hold : Nat) :
    p.names pour hold = true ↔ p.entry.pour = pour ∧ p.entry.hold = hold := by simp [CurrentPour.names]

theorem readArgs_pourHold {pour hold : Nat} (hp : pour < 65536) (hh : hold < 256) :
    readArgs [2, 1] (toBE pour 2 ++ toBE hold 1) = some [pour, hold] := by
  rw [readArgs_eq _ _ (by simp), cutFields_append 2 _ _ _ (by omega), cutFields_one 1 _ (by omega)]

section
variable {args : List Byte} {u : State} {pour hold : Nat} {p : CurrentPour}

theorem lpstMsg_length (h : args.length ≠ 3) : lpstMsg args u = refuse .length u := by
  simp only [lpstMsg, readArgs_none [2, 1] args h]

theorem lpstMsg_range (h : readArgs [2, 1] args = some [pour, hold])
    (hbad : ¬ (1 ≤ pour ∧ pour ≤ 999 ∧ 1 ≤ hold ∧ hold ≤ 12)) : lpstMsg args u = refuse .range u := by
  have : inRange 1 999 pour = false ∨ inRange 1 12 hold = false := by simp only [inRange_eq_false_iff]; omega
  simp only [lpstMsg, h, if_pos this]

theorem lpstMsg_inRange (h : readArgs [2, 1] args = some [pour, hold]) (hin : 1 ≤ pour ∧ pour ≤ 999 ∧ 1 ≤ hold ∧ hold ≤ 12) :
    lpstMsg args u = if u.tracker.op ≠ .loading then refuseLoader .lpst u else startReported pour hold u := by
  have : ¬ (inRange 1 999 pour = false ∨ inRange 1 12 hold = false) := by simp only [inRange_eq_false_iff]; omega
  simp only [lpstMsg, h, if_neg this]

theorem startReported_other (hp : u.tracker.cur = some p) (hst : p.started = true) (hn : ¬ p.names pour hold = true) :
    startReported pour hold u = refuseLoader .lpst u := by
  simp only [startReported, hp, hst, if_true, if_neg hn]

theorem startReported_again (hp : u.tracker.cur = some p) (hst : p.started = true) (hn : p.names pour hold = true) :
    startReported pour hold u = done (raisePour .started (concernedPair u) p.reasons u) [.trackerState u.tracker.state] := by
  simp only [startReported, hp, hst, if_true, if_pos hn, raisePour_frame]

theorem startReported_starts (hp : u.tracker.cur = some p) (hst : p.started = false) (hn : p.names pour hold = true) :
    startReported pour hold u = done (startPour p u) [.trackerState (startPour p u).tracker.state] := by
  simp only [startReported, hp, hst, Bool.false_eq_true, if_false, if_pos hn]

theorem startReported_opens (h : ∀ p, u.tracker.cur = some p → p.started = false ∧ ¬ p.names pour hold = true) :
    startReported pour hold u =
      done (openUnexpected pour hold u) [.trackerState (openUnexpected pour hold u).tracker.state] := by
  rw [startReported]
  split
  · next p hp =>
    obtain ⟨hst, hn⟩ := h p hp
    rw [if_neg (by simp [hst]), if_neg hn]
  · rfl

end

/-- The pour of an unexpected start as it is opened (R159). -/
def openedPour (pour hold : Nat) (u : State) : CurrentPour :=
  { origin := .unexpected, entry := ⟨pour, hold, 0, 0, 0, 0, 0⟩, started := true, startStamp := u.time.port
    holdAtStart := u.tracker.holds.get (hold - 1), stageAtStart := u.seq.stage, tally := 0, revised := false
    reasons := 0#13, holds := 0, union := 0#13 }

/-- The part with an UNEXPECTED pour opened, not yet held (R159). -/
def opened (pour hold : Nat) (u : State) : State := { u with
  tracker := { u.tracker with cur := some (openedPour pour hold u), standing := none, state := .holdRequested } }

/-- The reasons an UNEXPECTED pour is held for (R154, R159). -/
def openedReasons (pour hold : Nat) (u : State) : Reasons :=
  reasonSet (opened pour hold u) ⟨⟨pour, hold, 0, 0, 0, 0, 0⟩, true, true, 0⟩

/-- An UNEXPECTED pour is opened and held, with PHLD and its POUR notice (R159). -/
theorem openUnexpected_eq (pour hold : Nat) (u : State) : openUnexpected pour hold u = { u with
    tracker := { (opened pour hold u).tracker with
      cur := some { openedPour pour hold u with
        reasons := openedReasons pour hold u, holds := 1, union := openedReasons pour hold u }
      lastReasons := openedReasons pour hold u, ack := some (u.limits.ackTime * 10) }
    links := { u.links with
      queue := (if u.links.queue.length < 16 then u.links.queue else u.links.queue.tail) ++
        [.phld pour hold (openedReasons pour hold u)]
      notices := withPour u.links (queuedDetail u.links.queue .holdRequested
        (.pour .held .holdRequested (some (pour, hold)) (openedReasons pour hold u))) } } := by
  have h : openUnexpected pour hold u = sendHold (openedPour pour hold u) (openedReasons pour hold u)
      (raisePour .started (some (pour, hold)) (openedReasons pour hold u)
        (noted (opened pour hold u) (openedReasons pour hold u))) := rfl
  have hunion : (openedPour pour hold u).union ||| openedReasons pour hold u = openedReasons pour hold u := BitVec.zero_or
  rw [h, raisePour_eq, sendHold, issueShore_raisePour, hunion]
  simp only [State.setTracker, noted, opened, withPour_again]
  rfl

/-- Settles O46: LPST by the pour it names and the tracker's current pour. -/
theorem lpstStartsAPourOrOpensAnUnexpectedOne : Obligations.LpstStartsAPourOrOpensAnUnexpectedOne := by
  refine ⟨fun s pour hold hr hpour hhold => ?_, rule_lpst.otherForms fun args u h => lpstMsg_length h, unknownOnShip _ rfl⟩
  intro args u inRange' pair state' atHold
  have hlen : args.length ≤ maxArgs := by simp [args, maxArgs]
  have hargs : readArgs [2, 1] args = some [pour, hold] := readArgs_pourHold hpour hhold
  have hstate (h : lpstMsg args u = refuseLoader .lpst u) : state' := rule_lpst.answers hr hlen h
  refine ⟨fun hbad => rule_lpst.answers hr hlen (lpstMsg_range hargs hbad), fun hin ho => ?_, fun hin ho => ?_⟩
  · exact hstate ((lpstMsg_inRange hargs hin).trans (if_pos ho))
  have hmsg : lpstMsg args u = startReported pour hold u := (lpstMsg_inRange hargs hin).trans (if_neg (not_not.2 ho))
  refine ⟨fun p hp hst => ⟨fun hother => ?_, fun hn hh => ?_⟩, fun p hp hst hn hh => ?_, fun hcur => ?_⟩
  · refine hstate (hmsg.trans (startReported_other hp hst fun h => ?_))
    obtain ⟨hn, hh⟩ := (names_iff p pour hold).1 h
    exact hother.elim (· hn) (· hh)
  · exact rule_lpst.answers hr hlen (hmsg.trans (startReported_again hp hst ((names_iff p pour hold).2 ⟨hn, hh⟩)))
  · intro st v pair'
    have hbegun : startPour p u = raise (.pour .started st pair' p.reasons) v := by subst hh; rfl
    have hstarts := hmsg.trans (startReported_starts (u := u) hp hst ((names_iff p pour hold).2 ⟨hn, hh⟩))
    rw [hbegun, raise_tracker] at hstarts
    exact rule_lpst.answers hr hlen hstarts
  · intro entry opened' set notice
    have hset : hasReason set .unexpected = true := hasReason_reasonSet opened' _ .unexpected
    refine ⟨rfl, hset, ?_⟩
    have hnotice : queuedDetail u.links.queue .holdRequested
        (.pour .held .holdRequested (some (pour, hold)) (openedReasons pour hold u)) = notice := by
      change queuedDetail s.links.queue _ _ = _
      simp only [notice, queuedDetail]
      cases s.links.queue <;> rfl
    have hopens := hmsg.trans (startReported_opens (u := u) fun p hp => ⟨(hcur p hp).1, fun h => ?_⟩)
    · rw [openUnexpected_eq, hnotice] at hopens
      exact rule_lpst.answers hr hlen hopens
    · obtain ⟨hn, hh⟩ := (names_iff p pour hold).1 h
      exact (hcur p hp).2.elim (· hn) (· hh)

/-! ## Tallies (R160) -/

theorem readArgs_tally {pour tally : Nat} (hp : pour < 65536) (ht : tally < 4294967296) :
    readArgs [2, 4] (toBE pour 2 ++ toBE tally 4) = some [pour, tally] := by
  rw [readArgs_eq _ _ (by simp), cutFields_append 2 _ _ _ (by omega), cutFields_one 4 _ (by omega)]

section
variable {u : State} {pour : Nat} {p : CurrentPour}

theorem pourOf_some (hp : u.tracker.cur = some p) (hst : p.started = true) (hn : p.entry.pour = pour) :
    pourOf u pour = some p := by
  simp only [pourOf, hp, if_pos (And.intro hst hn)]

theorem pourOf_none (h : ∀ p, u.tracker.cur = some p → p.started = false ∨ p.entry.pour ≠ pour) : pourOf u pour = none := by
  rw [pourOf]
  split
  · next p hp =>
    refine if_neg fun ⟨hst, hn⟩ => ?_
    exact (h p hp).elim (fun hf => by simp [hst] at hf) (· hn)
  · rfl

end

/-- The part with TALLY_REVISED set where the tally falls (R160, step 1). -/
def revised (p : CurrentPour) (tally : Nat) (u : State) : State :=
  { u with tracker := { u.tracker with cur := some { p with revised := p.revised || decide (tally < p.tally) } } }

/-- The part after steps 1 and 2 of R160. -/
def riseJudged (p : CurrentPour) (pour tally : Nat) (u : State) : State :=
  if u.tracker.state = .held ∧ p.tally < tally then setLatch .pourAfterHold pour (revised p tally u) else revised p tally u

theorem takeTally_eq {u : State} {p : CurrentPour} (tally : Nat) (hp : u.tracker.cur = some p) :
    takeTally p tally u = storeTally p tally (riseJudged p p.entry.pour tally u) := by
  have h : changePour (fun q => { q with revised := q.revised || decide (tally < p.tally) }) u = revised p tally u := by
    simp only [changePour, hp]; rfl
  rw [takeTally, h]
  rfl

/-! ## LTAL (R160) -/

theorem rule_ltal : ShoreRuleOf .ltal ltalMsg := ⟨rfl, fun _ _ => rfl⟩

section
variable {args : List Byte} {u : State} {pour tally : Nat}

theorem ltalMsg_length (h : args.length ≠ 6) : ltalMsg args u = refuse .length u := by
  simp only [ltalMsg, readArgs_none [2, 4] args h]

theorem ltalMsg_range (h : readArgs [2, 4] args = some [pour, tally]) (ht : 4000000 < tally) :
    ltalMsg args u = refuse .range u := by
  simp only [ltalMsg, h, if_pos (show massMax < tally from ht)]

theorem ltalMsg_state (h : readArgs [2, 4] args = some [pour, tally]) (ht : tally ≤ 4000000) (hp : pourOf u pour = none) :
    ltalMsg args u = refuseLoader .ltal u := by
  simp only [ltalMsg, h, if_neg (show ¬ massMax < tally from not_lt.2 ht), hp]

theorem ltalMsg_takes {p : CurrentPour} (h : readArgs [2, 4] args = some [pour, tally]) (ht : tally ≤ 4000000)
    (hp : pourOf u pour = some p) : ltalMsg args u = done (applyTally p tally u) [] := by
  simp only [ltalMsg, h, if_neg (show ¬ massMax < tally from not_lt.2 ht), hp]

end

/-- Settles O47: LTAL is refused by the first check that fails, and is `takeTally` otherwise. -/
theorem ltalTakesATally : Obligations.LtalTakesATally := by
  refine ⟨fun s pour tally hr hpour htally => ?_, rule_ltal.otherForms fun args u h => ltalMsg_length h, unknownOnShip _ rfl⟩
  intro args u pair
  have hlen : args.length ≤ maxArgs := by simp [args, maxArgs]
  have hargs : readArgs [2, 4] args = some [pour, tally] := readArgs_tally hpour htally
  refine ⟨fun ht => rule_ltal.answers hr hlen (ltalMsg_range hargs ht),
    fun ht hp => rule_ltal.answers hr hlen (ltalMsg_state hargs ht (pourOf_none (u := u) hp)), fun p ht hp hst hn => ?_⟩
  have htakes := ltalMsg_takes hargs ht (pourOf_some (u := u) hp hst hn)
  rw [applyTally, takeTally_eq (u := u) tally hp, hn] at htakes
  exact rule_ltal.answers hr hlen htakes

/-! ## The pour that ends (R153, R161) -/

@[simp] theorem deadlocked_tracker (s : State) (c : Concerned) (v : State) : (deadlocked s c v).tracker = v.tracker := by
  rw [deadlocked]; split <;> simp

/-- `q` is the pour `p` but for its reasons, its hold count and its union. -/
def SamePour (p q : CurrentPour) : Prop :=
  q = { p with reasons := q.reasons, holds := q.holds, union := q.union }

/-- An evaluation of a held pour leaves it current. -/
theorem evaluate_held {s : State} {p : CurrentPour} (hs : s.tracker.state = .held) (hp : s.tracker.cur = some p) :
    ∃ q, (evaluate s).tracker.cur = some q ∧ SamePour p q := by
  have hconcerned : concerned s = some (judgedOf p) := by
    rw [concerned_current (.inr (.inr (.inr hs))), hp]; rfl
  rw [evaluate_concerned hconcerned, deadlocked_tracker]
  generalize reasonSet s (judgedOf p) = r
  have hs' : (noted s r).tracker.state = .held := hs
  have hp' : (noted s r).tracker.cur = some p := hp
  simp only [actOn, hs', hp']
  split
  · exact ⟨{ p with reasons := 0#13 }, by simp [sendResume], rfl⟩
  · split
    · exact ⟨{ p with reasons := 0#13 }, by simp [sendPermit], rfl⟩
    · exact ⟨{ p with reasons := r, union := p.union ||| r }, by simp [followReasons], rfl⟩

theorem riseJudged_current {u : State} (p : CurrentPour) (pour tally : Nat) :
    ∃ q, (riseJudged p pour tally u).tracker.cur = some q ∧
      SamePour { p with revised := p.revised || decide (tally < p.tally) } q := by
  rw [riseJudged]
  split
  · next h =>
    rw [setLatch_eq]
    exact evaluate_held (by rw [raise_tracker]; exact h.1) (by rw [raise_tracker]; rfl)
  · exact ⟨_, rfl, rfl⟩

/-- What a pour that ends keeps of `p` in its record (R166). -/
structure EndsAs (p : CurrentPour) (tally : Nat) (q : CurrentPour) : Prop where
  origin : q.origin = p.origin
  entry : q.entry = p.entry
  startStamp : q.startStamp = p.startStamp
  stage : q.stageAtStart = p.stageAtStart
  tally : q.tally = tally

theorem endsAs_addOverpour {p q : CurrentPour} {tally : Nat} (h : EndsAs p tally q) : EndsAs p tally (addOverpour q) := by
  obtain ⟨h1, h2, h3, h4, h5⟩ := h
  rw [addOverpour]
  split <;> exact ⟨h1, h2, h3, h4, h5⟩

theorem addOverpour_eq {p q : CurrentPour} {tally : Nat} (h : EndsAs p tally q) : addOverpour q =
    if p.origin ≠ .unexpected ∧ p.entry.planned + p.entry.overTol < tally then
      { q with union := q.union ||| Reason.overpour.bit } else q := by
  rw [addOverpour, h.origin, h.entry, h.tally]

/-! ## The pour record (R161, R165, R166) -/

theorem writeRecord_eq (q : CurrentPour) (s : State) : writeRecord q s = { s with tracker := { s.tracker with
    history := if s.tracker.history.length < 128 then s.tracker.history ++ [pourRecord s q] else s.tracker.history
    corrections := if s.tracker.history.length < 128 then s.tracker.corrections.set (q.entry.hold - 1) 0
      else s.tracker.corrections
    ended := if s.tracker.ended < 65535 then s.tracker.ended + 1 else s.tracker.ended } } := by
  by_cases h : s.tracker.history.length < 128
  · simp only [writeRecord, historyOpen, historyMax, h, decide_true, if_true]; rfl
  · simp only [writeRecord, historyOpen, historyMax, h, decide_false, Bool.false_eq_true, if_false]; rfl

theorem closePour_eq (q : CurrentPour) (s : State) : closePour q s = { s with tracker := { s.tracker with
    cur := none, standing := none, ack := none, lag := 0
    prevRob := if q.origin ≠ .unexpected then some q.entry.rob else s.tracker.prevRob
    pos := if q.origin ≠ .unexpected then s.tracker.pos + 1 else s.tracker.pos } } := by
  rw [closePour]
  cases q.origin <;> rfl

/-- The record of a pour that ends, in the figures of the pour as it was (R166). -/
theorem pourRecord_eq {p q : CurrentPour} {tally : Nat} (h : EndsAs p tally q) (s : State) : pourRecord s q =
    { place := s.tracker.history.length + 1, pour := p.entry.pour, hold := p.entry.hold, origin := p.origin
      planned := p.entry.planned, tally := tally, revised := q.revised, startStamp := p.startStamp
      endStamp := s.time.port, holds := q.holds, union := q.union, stage := p.stageAtStart
      cond := s.engine.published.map Published.atEnd
      lag := match s.engine.published with | some c => lagDuring s.tracker c.cond.rob tally | none => 0
      correction := if s.tracker.corrections.get (p.entry.hold - 1) = 0 then none
        else some (s.tracker.corrections.get (p.entry.hold - 1)) } := by
  simp only [pourRecord, lagAtEnd, correctionOf, h.origin, h.entry, h.startStamp, h.stage, h.tally] <;> rfl

/-! ## LPND (R161) -/

theorem rule_lpnd : ShoreRuleOf .lpnd lpndMsg := ⟨rfl, fun _ _ => rfl⟩

section
variable {args : List Byte} {u : State} {pour tally : Nat}

theorem lpndMsg_length (h : args.length ≠ 6) : lpndMsg args u = refuse .length u := by
  simp only [lpndMsg, readArgs_none [2, 4] args h]

theorem lpndMsg_range (h : readArgs [2, 4] args = some [pour, tally]) (ht : 4000000 < tally) :
    lpndMsg args u = refuse .range u := by
  simp only [lpndMsg, h, if_pos (show massMax < tally from ht)]

theorem lpndMsg_state (h : readArgs [2, 4] args = some [pour, tally]) (ht : tally ≤ 4000000) (hp : pourOf u pour = none) :
    lpndMsg args u = refuseLoader .lpnd u := by
  simp only [lpndMsg, h, if_neg (show ¬ massMax < tally from not_lt.2 ht), hp]

theorem lpndMsg_ends {p : CurrentPour} (h : readArgs [2, 4] args = some [pour, tally]) (ht : tally ≤ 4000000)
    (hp : pourOf u pour = some p) : lpndMsg args u = done (judgeGrant (endPour p tally u)) [] := by
  simp only [lpndMsg, h, if_neg (show ¬ massMax < tally from not_lt.2 ht), hp]

end

/-- The tracker after steps 1 and 2 of R161, with the pour that ends as `q`. -/
def endingTracker (p q : CurrentPour) (tally : Nat) (t : Tracker) : Tracker :=
  { t with cur := some q, holds := t.holds.set (p.entry.hold - 1) (min 4000000 (p.holdAtStart + tally)), ack := none }

/-- The part after steps 1 to 6 of R161 and the state between pours, with the pour that ends as `q`. -/
def closed (p q : CurrentPour) (tally : Nat) (v : State) : State :=
  nextState (closePour q (hearRecord (writeRecord q { v with tracker := endingTracker p q tally v.tracker })))

theorem closed_state (p q : CurrentPour) (tally : Nat) (v : State) :
    (closed p q tally v).tracker.state = .evaluating ∨ (closed p q tally v).tracker.state = .planDone := by
  simp only [closed, nextState, State.setTracker_tracker]
  split <;> simp

/-- The end of a pour after its tally is taken (R161). -/
theorem endPour_eq {u v : State} {p q : CurrentPour} {tally : Nat} (hp : u.tracker.cur = some p)
    (hv : riseJudged p p.entry.pour tally u = v) (hq : addOverpour { v.tracker.cur.getD p with tally := tally } = q) :
    endPour p tally u = evaluate (setRefreshMark (announcePlanDone (nextState (applyPending
      (raisePour (.ended (decide (v.tracker.history.length < 128))) (some (q.entry.pour, q.entry.hold)) q.reasons
        (closed p q tally v)))))) := by
  obtain ⟨x, hx, -⟩ := riseJudged_current (u := u) p p.entry.pour tally
  rw [hv] at hx
  rw [hx] at hq
  have htallied : changePour addOverpour (takeTally p tally u) =
      { v with tracker := { v.tracker with
        cur := some q, holds := v.tracker.holds.set (p.entry.hold - 1) (min 4000000 (p.holdAtStart + tally)) } } := by
    rw [takeTally_eq tally hp, hv, ← hq]
    simp only [storeTally, changePour, hx]
    rfl
  simp only [endPour, htallied]
  rfl

theorem riseJudged_endsAs {u v : State} {p : CurrentPour} {pour tally : Nat} (hv : riseJudged p pour tally u = v) :
    EndsAs p tally { v.tracker.cur.getD p with tally := tally } := by
  obtain ⟨q, hq, hsame⟩ := riseJudged_current (u := u) p pour tally
  rw [hv] at hq
  rw [hq, Option.getD_some, hsame]
  exact ⟨rfl, rfl, rfl, rfl, rfl⟩

@[simp] theorem riseJudged_frame (p : CurrentPour) (pour tally : Nat) (u : State) :
    (riseJudged p pour tally u).engine = u.engine ∧ (riseJudged p pour tally u).time = u.time := by
  rw [riseJudged]; split <;> simp [revised]

theorem announcePlanDone_eq (s : State) : announcePlanDone s =
    if s.tracker.state = .planDone then raise (.pour .planDone .planDone none 0#13) s else s := by
  rw [announcePlanDone]
  split
  · next h => rw [raisePour, h]
  · rfl

/-- A pending exchange is applied between two pours, where no permit stands (R152, R161 step 7). -/
theorem applyPending_eq {s : State} (h : s.tracker.state ≠ .permitted) : applyPending s =
    if s.tracker.exchange = true then
      evaluate (raise (.pour .exchange (swapPlans s).tracker.state (concernedPair (swapPlans s)) 0#13) (swapPlans s))
    else s := by
  rw [applyPending, applyExchange_eq (voidPermit_keeps h)]

/-! ## The end of a pour where the evaluations of the act are quiet (R142, R156) -/

/-- No block but the tracker, the engine and the notices differs from `s`. -/
def KeepsRest (s t : State) : Prop :=
  t.limits = s.limits ∧ t.xfer = s.xfer ∧ t.seq = s.seq ∧ t.console = s.console ∧ t.records = s.records ∧
    t.store = s.store ∧ t.gauge = s.gauge ∧ t.meter = s.meter ∧ t.links.queue = s.links.queue ∧ t.time = s.time ∧
    t.inputs = s.inputs

theorem KeepsRest.trans {s t v : State} (h : KeepsRest s t) (h' : KeepsRest t v) : KeepsRest s v := by
  obtain ⟨h1, h2, h3, h4, h5, h6, h7, h8, h9, h10, h11⟩ := h
  obtain ⟨g1, g2, g3, g4, g5, g6, g7, g8, g9, g10, g11⟩ := h'
  exact ⟨g1.trans h1, g2.trans h2, g3.trans h3, g4.trans h4, g5.trans h5, g6.trans h6, g7.trans h7, g8.trans h8,
    g9.trans h9, g10.trans h10, g11.trans h11⟩

section
variable {s : State}

theorem keepsRest_setTracker (t : Tracker) : KeepsRest s { s with tracker := t } :=
  ⟨rfl, rfl, rfl, rfl, rfl, rfl, rfl, rfl, rfl, rfl, rfl⟩

theorem keepsRest_raise (d : Detail) : KeepsRest s (raise d s) := by simp [KeepsRest]

theorem keepsRest_setRefreshMark : KeepsRest s (setRefreshMark s) := by simp [KeepsRest]

theorem keepsRest_taken (m : Mnem) (args : List Byte) : KeepsRest s (taken .shore m args s) := by simp [KeepsRest]

/-- With no check standing, the evaluation of a next pour stores its reason set and checks for a deadlock. -/
theorem evaluate_waits {c : Concerned} (hs : s.tracker.state = .evaluating) (hst : s.tracker.standing = none)
    (hc : concerned s = some c) : evaluate s = deadlocked s c (noted s (reasonSet s c)) := by
  rw [evaluate_concerned hc]
  refine congrArg (deadlocked s c) (actOn_waits hs ?_)
  rintro ⟨-, hpassed⟩
  obtain ⟨st, hst', -⟩ := (standingPassed_iff _ c).1 hpassed
  simp [noted, hst] at hst'

/-- Between pours, with no check standing and no step walking, an evaluation stores a reason set and does nothing else. -/
theorem evaluate_quiet (hs : s.tracker.state = .evaluating ∨ s.tracker.state = .planDone)
    (hst : s.tracker.standing = none) (hseq : s.seq.core.state ≠ .running) : ∃ r, evaluate s = noted s r := by
  cases hc : concerned s with
  | none => exact ⟨s.tracker.lastReasons, evaluate_none hc⟩
  | some c =>
    have hev : s.tracker.state = .evaluating := hs.resolve_right fun hd => by simp [concerned_resting (.inr hd)] at hc
    refine ⟨reasonSet s c, ?_⟩
    rw [evaluate_waits hev hst hc, deadlocked, if_neg fun ⟨_, _, _, hr, _⟩ => hseq hr]

/-- The tracker between pours (R161, step 8). -/
def betweenPours (t : Tracker) : Tracker :=
  { t with state := if t.pos < planLength t.active then .evaluating else .planDone, lastReasons := 0#13 }

/-- The tracker with the plans exchanged (R152). -/
def exchanged (t : Tracker) : Tracker :=
  { t with
    active := t.standby, standby := t.active, gen := (t.gen + 1) % 65536, pos := 0, exchange := false
    cur := none, ack := none, standing := none, lastReasons := 0#13, state := .evaluating }

theorem betweenPours_state (t : Tracker) :
    (betweenPours t).state = .evaluating ∨ (betweenPours t).state = .planDone := by
  simp only [betweenPours]; split <;> simp

/-- An exchange applied between two pours stores a reason set, which the state between pours drops again. -/
theorem applyPending_quiet (hop : s.tracker.op = .loading) (hs : s.tracker.state ≠ .permitted)
    (hseq : s.seq.core.state ≠ .running) :
    KeepsRest s (applyPending s) ∧ betweenPours (applyPending s).tracker =
      betweenPours (if s.tracker.exchange = true then exchanged s.tracker else s.tracker) := by
  rw [applyPending_eq hs]
  split
  · have hswap : swapPlans s = { s with tracker := exchanged s.tracker } := by
      have hstate : exchangedState s.tracker = .evaluating := if_pos hop
      simp only [swapPlans, hstate]; rfl
    rw [hswap]
    generalize hd : Detail.pour .exchange _ _ _ = d
    obtain ⟨r, hr⟩ := evaluate_quiet (s := raise d { s with tracker := exchanged s.tracker })
      (.inl (by rw [raise_tracker]; rfl)) (by rw [raise_tracker]; rfl) (by simpa using hseq)
    rw [hr]
    refine ⟨(keepsRest_setTracker _).trans ((keepsRest_raise d).trans (keepsRest_setTracker _)), ?_⟩
    simp only [noted, raise_tracker]
    rfl
  · exact ⟨keepsRest_setTracker s.tracker, rfl⟩

/-- The tail of R161 from the state between pours on: but for a reason set it leaves the tracker between pours. -/
theorem betweenPours_evaluated {x : State} (hx : x.tracker.standing = none) (hseq : x.seq.core.state ≠ .running) :
    ∃ r, (evaluate (setRefreshMark (announcePlanDone (nextState x)))).tracker = { betweenPours x.tracker with lastReasons := r } ∧
      KeepsRest x (evaluate (setRefreshMark (announcePlanDone (nextState x)))) := by
  have hnext : nextState x = { x with tracker := betweenPours x.tracker } := rfl
  have htold : KeepsRest x (announcePlanDone (nextState x)) ∧
      (announcePlanDone (nextState x)).tracker = betweenPours x.tracker := by
    rw [announcePlanDone_eq, hnext]
    split
    · exact ⟨(keepsRest_setTracker _).trans (keepsRest_raise _), raise_tracker ..⟩
    · exact ⟨keepsRest_setTracker _, rfl⟩
  obtain ⟨hkept, htracker⟩ := htold
  generalize announcePlanDone (nextState x) = y at hkept htracker
  obtain ⟨-, -, hy, -⟩ := id hkept
  obtain ⟨r, hr⟩ := evaluate_quiet (s := setRefreshMark y) (by simpa [htracker] using betweenPours_state x.tracker)
    (by simpa [htracker, betweenPours] using hx) (by simpa [hy] using hseq)
  rw [hr]
  refine ⟨r, ?_, hkept.trans (keepsRest_setRefreshMark.trans (keepsRest_setTracker _))⟩
  simp [noted, htracker]

end

/-- The tracker after steps 1 to 6 of R161, with `r` the record of the pour that ends. -/
def closedTracker (p : CurrentPour) (tally : Nat) (r : PourRec) (t : Tracker) : Tracker :=
  { t with
    cur := none, standing := none, ack := none, lag := 0
    prevRob := if p.origin ≠ .unexpected then some p.entry.rob else t.prevRob
    pos := if p.origin ≠ .unexpected then t.pos + 1 else t.pos
    holds := t.holds.set (p.entry.hold - 1) (min 4000000 (p.holdAtStart + tally))
    corrections := if t.history.length < 128 then t.corrections.set (p.entry.hold - 1) 0 else t.corrections
    history := if t.history.length < 128 then t.history ++ [r] else t.history
    ended := if t.ended < 65535 then t.ended + 1 else t.ended }

section
variable {p q : CurrentPour} {tally : Nat} {u v : State}

/-- The record of a pour that ends with no rise while HELD. -/
theorem quietRecord (hp : u.tracker.cur = some p) (tally : Nat) :
    pourRecord { u with tracker := endingTracker p (addOverpour { p with
        revised := p.revised || decide (tally < p.tally), tally := tally }) tally u.tracker }
      (addOverpour { p with revised := p.revised || decide (tally < p.tally), tally := tally }) =
    { place := u.tracker.history.length + 1, pour := p.entry.pour, hold := p.entry.hold, origin := p.origin
      planned := p.entry.planned, tally := tally, revised := p.revised || decide (tally < p.tally)
      startStamp := p.startStamp, endStamp := u.time.port, holds := p.holds
      union := if p.origin ≠ .unexpected ∧ p.entry.planned + p.entry.overTol < tally then
        p.union ||| Reason.overpour.bit else p.union
      stage := p.stageAtStart, cond := u.engine.published.map Published.atEnd
      lag := match u.engine.published with | some x => lagDuring u.tracker x.cond.rob tally | none => 0
      correction := if u.tracker.corrections.get (p.entry.hold - 1) = 0 then none
        else some (u.tracker.corrections.get (p.entry.hold - 1)) } := by
  have hlag (x : Reasons) (rob : Nat) : lagDuring (endingTracker p { p with
      revised := p.revised || decide (tally < p.tally), tally := tally, union := x } tally u.tracker) rob tally =
        lagDuring u.tracker rob tally := by
    cases hrob : u.tracker.prevRob <;> simp only [lagDuring, endingTracker, hrob, hp, expectedRob]
  have hx : EndsAs p tally { p with revised := p.revised || decide (tally < p.tally), tally := tally } :=
    ⟨rfl, rfl, rfl, rfl, rfl⟩
  rw [pourRecord_eq (endsAs_addOverpour hx), addOverpour_eq hx]
  by_cases ho : p.origin ≠ .unexpected ∧ p.entry.planned + p.entry.overTol < tally
  · simp only [if_pos ho, hlag]; rfl
  · simp only [if_neg ho, hlag]; rfl

theorem closed_quiet (h : EndsAs p tally q) (hseq : v.seq.core.state ≠ .running) : closed p q tally v =
    { v with tracker := betweenPours (closedTracker p tally
        (pourRecord { v with tracker := endingTracker p q tally v.tracker } q) v.tracker) } := by
  rw [closed, hearRecord_elsewhere (.inl (by rw [writeRecord_eq]; exact hseq)), writeRecord_eq, closePour_eq, h.origin,
    h.entry]
  rfl

/-- Steps 7 to 9 of R161, from the state between pours on. -/
theorem endPour_tail {k : Tracker} (hop : k.op = .loading) (hst : k.standing = none) (hseq : u.seq.core.state ≠ .running)
    (d : Detail) : ∃ set t,
      evaluate (setRefreshMark (announcePlanDone (nextState (applyPending (raise d { u with tracker := betweenPours k }))))) =
        t ∧
      t.tracker = { betweenPours (if k.exchange = true then exchanged k else k) with lastReasons := set } ∧ KeepsRest u t := by
  have hbegun : KeepsRest u (raise d { u with tracker := betweenPours k }) :=
    (keepsRest_setTracker _).trans (keepsRest_raise d)
  have htracker : (raise d { u with tracker := betweenPours k }).tracker = betweenPours k := raise_tracker ..
  generalize raise d { u with tracker := betweenPours k } = x at hbegun htracker
  obtain ⟨-, -, hx, -⟩ := id hbegun
  obtain ⟨hpending, hbetween⟩ := applyPending_quiet (s := x) (by rw [htracker]; exact hop)
    (by rw [htracker]; rcases betweenPours_state k with h | h <;> simp [h]) (by rw [hx]; exact hseq)
  have hlast : betweenPours (applyPending x).tracker = betweenPours (if k.exchange = true then exchanged k else k) := by
    rw [hbetween, htracker]
    change betweenPours (if k.exchange = true then _ else _) = _
    split <;> rfl
  have hstanding : (applyPending x).tracker.standing = none := by
    refine (congrArg Tracker.standing hlast).trans ?_
    split
    · rfl
    · exact hst
  obtain ⟨-, -, hy, -⟩ := id hpending
  obtain ⟨set, hset, hrest⟩ := betweenPours_evaluated hstanding (by rw [hy, hx]; exact hseq)
  exact ⟨set, _, rfl, by rw [hset, hlast], hbegun.trans (hpending.trans hrest)⟩

/-- The end of a pour with no rise while HELD, where no step of the sequence walks: the evaluations of the act leave but a
reason set (R142, R156, R161). -/
theorem endPour_quiet (hp : u.tracker.cur = some p) (hrise : ¬ (u.tracker.state = .held ∧ p.tally < tally))
    (hop : u.tracker.op = .loading) (hseq : u.seq.core.state ≠ .running)
    (hq : addOverpour { p with revised := p.revised || decide (tally < p.tally), tally := tally } = q) {r : PourRec}
    (hr : pourRecord { u with tracker := endingTracker p q tally u.tracker } q = r) {k : Tracker}
    (hk : closedTracker p tally r u.tracker = k) : ∃ set t, endPour p tally u = t ∧
      t.tracker = { betweenPours (if k.exchange = true then exchanged k else k) with lastReasons := set } ∧ KeepsRest u t := by
  have hends : EndsAs p tally q := hq ▸ endsAs_addOverpour ⟨rfl, rfl, rfl, rfl, rfl⟩
  have hv : riseJudged p p.entry.pour tally u = revised p tally u := if_neg hrise
  have hclosed : closed p q tally (revised p tally u) = { u with tracker := betweenPours k } := by
    rw [← hk, ← hr]
    exact closed_quiet hends hseq
  have hkop : k.op = .loading := by rw [← hk]; exact hop
  have hkst : k.standing = none := by rw [← hk]; rfl
  have hend := endPour_eq hp hv hq
  rw [hclosed] at hend
  obtain ⟨set, t, ht, hrest⟩ := endPour_tail (u := u) hkop hkst hseq
    (.pour (.ended (decide ((revised p tally u).tracker.history.length < 128))) (betweenPours k).state
      (some (q.entry.pour, q.entry.hold)) q.reasons)
  exact ⟨set, t, hend.trans ht, hrest⟩

end

/-- Settles O48: the chain of R161 rewritten step by step with `endPour_eq`, and `endPour_quiet` where the evaluations of the
act store a reason set and no more. -/
theorem lpndEndsThePour : Obligations.LpndEndsThePour := by
  refine ⟨fun s pour tally hr hpour htally => ?_, rule_lpnd.otherForms fun args u h => lpndMsg_length h, unknownOnShip _ rfl⟩
  intro args pair
  have hlen : args.length ≤ maxArgs := by simp [args, maxArgs]
  have hargs : readArgs [2, 4] args = some [pour, tally] := readArgs_tally hpour htally
  refine ⟨fun ht => rule_lpnd.answers hr hlen (lpndMsg_range hargs ht),
    fun ht hp => rule_lpnd.answers hr hlen (lpndMsg_state hargs ht (pourOf_none (u := taken .shore .lpnd args s) hp)), ?_, ?_⟩
  · intro p ht hp hst hn u h planned revised' v x q k room r w between closed' ended swapped pair' next told
    have hmsg := lpndMsg_ends hargs ht (pourOf_some (u := u) hp hst hn)
    have hv : riseJudged p p.entry.pour tally u = v := by rw [hn]; rfl
    have hx : EndsAs p tally x := riseJudged_endsAs hv
    have hq : addOverpour x = q := addOverpour_eq hx
    have hends : EndsAs p tally q := hq ▸ endsAs_addOverpour hx
    have hengine : v.engine = s.engine := by rw [← hv]; simp [u]
    have htime : v.time = s.time := by rw [← hv]; simp [u]
    have hrecord : pourRecord { v with tracker := k } q = r := by
      rw [pourRecord_eq hends, hengine, htime, hn] <;> rfl
    have hw : hearRecord (writeRecord q { v with tracker := k }) = w := by
      rw [writeRecord_eq, hrecord, hends.entry]
    have hclosed : closed p q tally v = closed' := by
      change nextState (closePour q (hearRecord (writeRecord q { v with tracker := k }))) = _
      rw [hw, closePour_eq, hends.origin, hends.entry]
      rfl
    have hstate := closed_state p q tally v
    rw [hclosed] at hstate
    have hended : raisePour (.ended (decide (v.tracker.history.length < 128))) (some (q.entry.pour, q.entry.hold)) q.reasons
        (closed p q tally v) = ended := by
      rw [hclosed, hends.entry, hn]; rfl
    have hnext : nextState (applyPending ended) = next := by
      rw [applyPending_eq]
      · rfl
      · simp only [ended, raise_tracker]; rcases hstate with hs | hs <;> simp [hs]
    have htold : announcePlanDone next = told := announcePlanDone_eq next
    rw [endPour_eq (u := u) hp hv hq, hended, hnext, htold] at hmsg
    clear_value told
    exact rule_lpnd.answers hr hlen hmsg
  · intro p ht hp hst hn hrise hop hquiet old h over' r room planned bank pos
    obtain ⟨hconsole, hseq⟩ := hquiet
    have hmsg := lpndMsg_ends hargs ht (pourOf_some (u := taken .shore .lpnd args s) hp hst hn)
    have hrecord := quietRecord (u := taken .shore .lpnd args s) hp tally
    have hr' := hrecord.trans (c := r) (by rw [hn]; rfl)
    obtain ⟨set, t, ht, htracker, hrest⟩ := endPour_quiet (u := taken .shore .lpnd args s) hp hrise hop
      (by rw [taken_seq]; rcases hseq with h | h | h | h <;> simp [h]) rfl hr' rfl
    have hkept := (keepsRest_taken .lpnd args).trans hrest
    obtain ⟨-, -, -, hcons, -⟩ := id hkept
    rw [ht, judgeGrant_quiet _ (by rw [hcons]; rcases hconsole with h | h <;> simp [h])] at hmsg
    refine ⟨t, set, rule_lpnd.answers hr hlen hmsg, ?_, hkept⟩
    rw [htracker, taken_tracker]
    clear_value r
    by_cases hx : s.tracker.exchange = true
    · simp only [betweenPours, exchanged, closedTracker, old, h, room, planned, bank, pos, hx, if_true]
    · simp only [betweenPours, exchanged, closedTracker, old, h, room, planned, bank, pos, hx, Bool.false_eq_true, if_false]

/-! ## OPBG: the arguments and the refusals (R148) -/

theorem rule_opbg : RuleOf .opbg opbgMsg := ⟨rfl, fun _ _ => rfl⟩

/-- The seven arguments of R148 as bytes. -/
def opbgArgs (p : OpParams) : List Byte :=
  toBE p.density 2 ++ toBE p.maxDraft 4 ++ toBE p.boom 4 ++ toBE p.minClear 4 ++ toBE p.ackTime 1 ++ toBE p.paceGain 1 ++
    toBEInt p.tide 4

theorem opbgArgs_length (p : OpParams) : (opbgArgs p).length = 20 := by simp [opbgArgs, toBEInt]

/-- The arguments fit their fields. -/
structure ArgsFit (p : OpParams) : Prop where
  density : p.density < 65536
  draft : p.maxDraft < 4294967296
  boom : p.boom < 4294967296
  clear : p.minClear < 4294967296
  ack : p.ackTime < 256
  gain : p.paceGain < 256
  tideLow : -2147483648 ≤ p.tide
  tideHigh : p.tide < 2147483648

theorem opbgArgs_read {p : OpParams} (h : ArgsFit p) :
    (readArgs [2, 4, 4, 4, 1, 1, 4] (opbgArgs p)).bind OpParams.ofArgs = some p := by
  obtain ⟨hρ, hdraft, hboom, hclear, hack, hgain, hlow, hhigh⟩ := h
  rw [readArgs_eq _ _ (opbgArgs_length p)]
  simp only [opbgArgs, toBEInt, List.append_assoc]
  rw [cutFields_append 2 _ _ _ hρ, cutFields_append 4 _ _ _ hdraft, cutFields_append 4 _ _ _ hboom,
    cutFields_append 4 _ _ _ hclear, cutFields_append 1 _ _ _ hack, cutFields_append 1 _ _ _ hgain,
    cutFields_one 4 _ (by omega)]
  simp only [Option.bind_some, OpParams.ofArgs, signed32_toBEInt _ hlow hhigh]

section
variable {p : OpParams} {u : State}

theorem opbgMsg_length {args : List Byte} (h : args.length ≠ 20) : opbgMsg args u = refuse .length u := by
  simp only [opbgMsg, readArgs_none [2, 4, 4, 4, 1, 1, 4] args h, Option.bind_none]

theorem opbgMsg_state (hp : ArgsFit p) (h : u.tracker.op = .loading) : opbgMsg (opbgArgs p) u = refuse .state u := by
  simp only [opbgMsg, opbgArgs_read hp, if_pos h]

theorem opbgMsg_data (hp : ArgsFit p) (h : u.tracker.op ≠ .loading) (hd : u.store.dataState ≠ .valid) :
    opbgMsg (opbgArgs p) u = refuseData u := by
  simp only [opbgMsg, opbgArgs_read hp, if_neg h, dataValid_eq_false_iff.2 hd, if_true]

theorem opbgMsg_range {n : Nat} (hp : ArgsFit p) (h : u.tracker.op ≠ .loading) (hd : u.store.dataState = .valid)
    (hn : p.badPosition = some n) : opbgMsg (opbgArgs p) u = refuse .range u [natItem n] := by
  simp only [opbgMsg, opbgArgs_read hp, if_neg h, dataValid_iff.2 hd, Bool.true_eq_false, if_false, hn]

theorem opbgMsg_begins (hp : ArgsFit p) (h : u.tracker.op ≠ .loading) (hd : u.store.dataState = .valid)
    (hn : p.badPosition = none) : opbgMsg (opbgArgs p) u =
      done (beginOperation p u) [.trackerState (beginOperation p u).tracker.state] := by
  simp only [opbgMsg, opbgArgs_read hp, if_neg h, dataValid_iff.2 hd, Bool.true_eq_false, if_false, hn]

end

/-- The checks of R148, one per argument. -/
theorem checks_eq (p : OpParams) : p.checks =
    [decide (990 ≤ p.density ∧ p.density ≤ 1050), decide (1 ≤ p.maxDraft ∧ p.maxDraft ≤ 40000),
      decide (1 ≤ p.boom ∧ p.boom ≤ 60000), decide (p.minClear ≤ 20000), decide (5 ≤ p.ackTime ∧ p.ackTime ≤ 120),
      decide (p.paceGain ≤ 100), decide (-5000 ≤ p.tide ∧ p.tide ≤ 20000)] := by
  simp [OpParams.checks, densityOk, inRange, tideOk]

theorem badPosition_some {p : OpParams} {i : Nat} (hlow : ∀ j < i, p.checks[j]? = some true)
    (hi : p.checks[i]? = some false) : p.badPosition = some (i + 1) := by
  obtain ⟨hlt, hget⟩ := List.getElem?_eq_some_iff.1 hi
  have hfind : p.checks.findIdx? (fun ok => !ok) = some i := by
    refine List.findIdx?_eq_some_iff_getElem.2 ⟨hlt, by simp [hget], fun j hj => ?_⟩
    obtain ⟨_, hj'⟩ := List.getElem?_eq_some_iff.1 (hlow j hj)
    simp [hj']
  rw [OpParams.badPosition, hfind]; rfl

theorem badPosition_none {p : OpParams} (h : ∀ x ∈ p.checks, x = true) : p.badPosition = none := by
  have hfind : p.checks.findIdx? (fun ok => !ok) = none := List.findIdx?_eq_none_iff.2 fun x hx => by simp [h x hx]
  rw [OpParams.badPosition, hfind]; rfl

/-! ## A refresh trigger reads five blocks (R54 to R58) -/

/-- The engine reads the same in both parts. -/
structure FeedsAlike (a b : State) : Prop where
  store : a.store = b.store
  gauge : a.gauge = b.gauge
  engine : a.engine = b.engine
  xfer : a.xfer = b.xfer
  holds : a.tracker.holds = b.tracker.holds

/-- The engine after `takeMark`, with what it reads of the other blocks. -/
def markTaken (e : Engine) (may : Bool) (job : Task → Job) : Engine :=
  let refreshed : Engine := { e with refreshMark := false }
  let refresh : Engine := if may then { refreshed with job := some (job .refresh) } else refreshed
  let projected : Engine := { e with projMark := none }
  let projection (req : ProjReq) : Engine :=
    if e.published.isSome then { projected with job := some (job (.projection req false)) } else projected
  match e.job, e.refreshMark, e.projMark with
  | some _, _, _ => e
  | none, false, none => e
  | none, true, none => refresh
  | none, false, some req => projection req
  | none, true, some req => if e.lastKind = some .refresh then projection req else refresh

section
variable {a b : State}

theorem takeMark_eq (s : State) : takeMark s = { s with engine := markTaken s.engine (refreshMay s) (jobOn s) } := by
  have hrefresh : takeRefresh s = { s with engine := if refreshMay s then
      { s.engine with refreshMark := false, job := some (jobOn s .refresh) } else { s.engine with refreshMark := false } } := by
    by_cases h : refreshMay s = true
    · rw [takeRefresh_begins h, if_pos h]; rfl
    · rw [takeRefresh_declines h, if_neg h]; rfl
  have hprojection (req : ProjReq) : takeProjection req s = { s with engine := if s.engine.published.isSome then
      { s.engine with projMark := none, job := some (jobOn s (.projection req false)) }
      else { s.engine with projMark := none } } := by
    by_cases h : s.engine.published.isSome = true
    · rw [takeProjection_begins req h, if_pos h]; rfl
    · rw [takeProjection_declines req (by simpa using h), if_neg h]; rfl
  simp only [takeMark, markTaken, hrefresh, hprojection]
  match s.engine.job, s.engine.refreshMark, s.engine.projMark with
  | some _, _, _ | none, false, none | none, true, none | none, false, some _ => rfl
  | none, true, some req => dsimp only; split <;> rfl

theorem FeedsAlike.jobOn (h : FeedsAlike a b) : jobOn a = jobOn b := by
  obtain ⟨hstore, hgauge, hengine, hxfer, hholds⟩ := h
  have hcomp : snapComp a = snapComp b := by
    funext c; simp only [snapComp, State.gaugeRec, hstore, hgauge, hengine, hholds]
  have htargets : snapTargets a = snapTargets b := by
    have htransfer (d : Driver) : a.transfer d = b.transfer d := State.transfer_congr (by rw [hxfer]) d
    simp only [snapTargets, htransfer]
  funext task
  simp only [ConditionEngine.jobOn, takeSnapshot, hcomp, htargets, publishedSeq, hstore, hengine]

theorem FeedsAlike.refreshMay (h : FeedsAlike a b) : refreshMay a = refreshMay b := by
  simp only [Machine.refreshMay, unreadEnabled, State.gaugeRec, h.store, h.gauge]

theorem FeedsAlike.takeMark (h : FeedsAlike a b) : FeedsAlike (takeMark a) (takeMark b) := by
  rw [takeMark_eq, takeMark_eq, h.jobOn, h.refreshMay, h.engine]
  exact ⟨h.store, h.gauge, rfl, h.xfer, h.holds⟩

theorem FeedsAlike.setRefreshMark (h : FeedsAlike a b) : (setRefreshMark a).engine = (setRefreshMark b).engine := by
  have hmarked : FeedsAlike { a with engine := { a.engine with refreshMark := true } }
      { b with engine := { b.engine with refreshMark := true } } :=
    ⟨h.store, h.gauge, by rw [h.engine], h.xfer, h.holds⟩
  have hvalid : dataValid a = dataValid b := by rw [dataValid, dataValid, h.store]
  rw [Machine.setRefreshMark, Machine.setRefreshMark, hvalid]
  split
  · exact hmarked.takeMark.takeMark.engine
  · exact h.engine

end

/-! ## The Limits Unit at OPBG (R94) -/

open Sys2Proof.LimitsUnit

/-- The Limits Unit with the parameters of an OPBG, the latch following the watch, before the rejudging. -/
def loadedLimits (p : OpParams) (l : Limits) : Limits :=
  let breach := l.watch == .breach
  { l with
    maxDraft := some p.maxDraft, boom := some p.boom, minClear := some p.minClear, ackTime := p.ackTime, tide := p.tide
    latch := breach, causes := ⟨breach, false, false⟩, settings := 0, lastSetting := none, pourEnable := !breach }

/-- The part with those limits and the clearances and AIR_DRAFT flags judged again. -/
def rejudged (p : OpParams) (s : State) : State := tideJudged p.tide { s with limits := loadedLimits p s.limits }

/-- The limits of an OPBG: where a condition is judged, the clearances and the flags but TRIM are judged again. -/
def begunLimits (p : OpParams) (s : State) : Limits :=
  if s.limits.judgedSeq ≠ 0 then
    { (rejudged p s).limits with flags := { (rejudged p s).limits.flags with
      draft := match s.limits.deepest with | some d => decide (p.maxDraft < d.1) | none => s.limits.flags.draft } }
  else loadedLimits p s.limits

theorem airFlag_set (m : Nat) (clearance : Option Int) : airFlag (some m) clearance =
    match clearance with | some v => decide (v < m) | none => false := by
  cases clearance <;> rfl

section
variable {p : OpParams} {s : State}

theorem limitsBegin_eq (hop : s.tracker.op = .loading) : limitsBegin p s =
    raiseLimit s.limits.flags s.limits.watch.cautionFlag { s with limits := begunLimits p s } := by
  have hloaded : settleLine (s.setLimits { s.limits with
      maxDraft := some p.maxDraft, boom := some p.boom, minClear := some p.minClear, ackTime := p.ackTime, tide := p.tide
      latch := s.limits.watch == .breach
      causes := { LatchCauses.none with breach := s.limits.watch == .breach }, settings := 0, lastSetting := none }) =
      { s with limits := loadedLimits p s.limits } := by
    simp only [settleLine, State.setLimits, hop]; rfl
  have hdraft : judgeDraft (rejudged p s) = { s with limits := { (rejudged p s).limits with
      flags := { (rejudged p s).limits.flags with
        draft := match s.limits.deepest with | some d => decide (p.maxDraft < d.1) | none => s.limits.flags.draft } } } := by
    have hdeepest : (rejudged p s).limits.deepest = s.limits.deepest := rfl
    rw [judgeDraft, hdeepest]
    cases s.limits.deepest <;> rfl
  simp only [limitsBegin, hloaded, begunLimits]
  split
  · exact congrArg _ hdraft
  · exact (if_pos ⟨rfl, rfl⟩).symm

theorem begunLimits_fields (p : OpParams) (s : State) :
    (begunLimits p s).maxDraft = some p.maxDraft ∧ (begunLimits p s).boom = some p.boom ∧
      (begunLimits p s).minClear = some p.minClear ∧ (begunLimits p s).ackTime = p.ackTime ∧
      (begunLimits p s).tide = p.tide ∧ (begunLimits p s).latch = (s.limits.watch == .breach) ∧
      (begunLimits p s).causes = ⟨s.limits.watch == .breach, false, false⟩ ∧ (begunLimits p s).settings = 0 ∧
      (begunLimits p s).lastSetting = none ∧ (begunLimits p s).pourEnable = !(s.limits.watch == .breach) ∧
      (begunLimits p s).watch = s.limits.watch ∧ (begunLimits p s).judgedSeq = s.limits.judgedSeq ∧
      (begunLimits p s).deepest = s.limits.deepest ∧ (begunLimits p s).trim = s.limits.trim ∧
      (begunLimits p s).m = s.limits.m ∧ (begunLimits p s).mSource = s.limits.mSource ∧
      (begunLimits p s).flags.trim = s.limits.flags.trim := by
  rw [begunLimits]
  split <;> exact ⟨rfl, rfl, rfl, rfl, rfl, rfl, rfl, rfl, rfl, rfl, rfl, rfl, rfl, rfl, rfl, rfl, rfl⟩

theorem begunLimits_unjudged (hj : s.limits.judgedSeq = 0) : (begunLimits p s).flags = s.limits.flags ∧
    (begunLimits p s).clearances = s.limits.clearances := by
  rw [begunLimits, if_neg (not_not.2 hj)]
  exact ⟨rfl, rfl⟩

/-- The clearances, the AIR_DRAFT flags and DRAFT, judged again (R94). -/
theorem begunLimits_judged (hj : s.limits.judgedSeq ≠ 0) :
    (∀ k, 1 ≤ k → k ≤ 12 → (begunLimits p s).clearances.get (k - 1) =
      match s.engine.published, s.store.tables.rowOfHold k with
      | some r, some row => some (clearanceAt s.store.tables p.boom p.tide row r.cond)
      | _, _ => none) ∧
    (∀ i < 12, (begunLimits p s).flags.air.get i =
      match (begunLimits p s).clearances.get i with | some v => decide (v < p.minClear) | none => false) ∧
    (begunLimits p s).flags.draft =
      match s.limits.deepest with | some d => decide (p.maxDraft < d.1) | none => s.limits.flags.draft := by
  rw [begunLimits, if_pos hj]
  refine ⟨fun k h1 h12 => ?_, fun i hi => ?_, rfl⟩
  · exact tideJudged_clearance { s with limits := loadedLimits p s.limits } rfl hj h1 h12
  · exact (tideJudged_air { s with limits := loadedLimits p s.limits } hi).trans (airFlag_set _ _)

end

/-! ## The notices of an act -/

/-- The links of `t` are those of `s` but for the notices pending. -/
def OnlyNotices (s t : State) : Prop := t.links = { s.links with notices := t.links.notices }

theorem OnlyNotices.trans {s t v : State} (h : OnlyNotices s t) (h' : OnlyNotices t v) : OnlyNotices s v := by
  rw [OnlyNotices] at *
  rw [h', h]

theorem onlyNotices_raise (d : Detail) (s : State) : OnlyNotices s (raise d s) := raise_links d s

/-- A change of the flags alone raises the LIMIT notice (R85, R94). -/
theorem raiseLimit_flags (old : LimitFlags) (s : State) : raiseLimit old s.limits.watch.cautionFlag s =
    if old = s.limits.flags then s else raise (limitDetail old s.limits.watch.cautionFlag s) s :=
  if_congr (and_iff_left rfl) rfl rfl

theorem raiseLimit_notices (old : LimitFlags) (s : State) (k : NoticeKind) :
    (raiseLimit old s.limits.watch.cautionFlag s).links.notices.get k.place =
      if old ≠ s.limits.flags ∧ k = .limit ∧ k.enabled s.links.enables = true then
        some (limitDetail old s.limits.watch.cautionFlag s)
      else s.links.notices.get k.place := by
  rw [raiseLimit_flags]
  by_cases h : old = s.limits.flags
  · rw [if_pos h, if_neg fun hn => hn.1 h]
  · rw [if_neg h, raise_notices]
    exact if_congr ⟨fun hk => ⟨h, hk⟩, fun hk => hk.2⟩ rfl rfl

theorem onlyNotices_raiseLimit (old : LimitFlags) (s : State) :
    OnlyNotices s (raiseLimit old s.limits.watch.cautionFlag s) := by
  rw [raiseLimit_flags]
  split
  · rfl
  · exact onlyNotices_raise _ _

theorem announcePlanDone_notices (s : State) (k : NoticeKind) : (announcePlanDone s).links.notices.get k.place =
    if s.tracker.state = .planDone ∧ k = .pour ∧ k.enabled s.links.enables = true then
      some (.pour .planDone .planDone none 0#13) else s.links.notices.get k.place := by
  rw [announcePlanDone_eq]
  by_cases h : s.tracker.state = .planDone
  · rw [if_pos h, raise_notices]
    exact if_congr ⟨fun hk => ⟨h, hk⟩, fun hk => hk.2⟩ rfl rfl
  · rw [if_neg h, if_neg fun hn => h hn.1]

theorem onlyNotices_announcePlanDone (s : State) : OnlyNotices s (announcePlanDone s) := by
  rw [announcePlanDone_eq]
  split
  · exact onlyNotices_raise _ _
  · rfl

/-! ## The blocks at OPBG (R148) -/

/-- The part with all that OPBG begins, before the POUR notice and the evaluation. -/
def begun (p : OpParams) (s : State) : State :=
  beginRecords (beginGainAndStage p (limitsBegin p (beginEngine (beginTracker p (clearUnattributed
    (beginGauges p.density s))))))

/-- The tracker of an OPBG before its evaluation. -/
def begunTracker (p : OpParams) (s : State) : Tracker :=
  { s.tracker with
    op := .loading, opbgStamp := some s.time.port, opndStamp := none, density := some p.density
    state := if planLength s.tracker.active = 0 then .planDone else .evaluating
    pos := 0, exchange := false, cur := none, prevRob := s.engine.published.map fun r => r.cond.rob
    lag := 0, lagBefore := 0, standing := none, lastReasons := 0#13, ack := none, corrections := Tab.replicate 12 0
    history := [], ended := 0 }

section
variable (p : OpParams) (s : State)

theorem beginOperation_eq : beginOperation p s = evaluate (announcePlanDone (begun p s)) := rfl

theorem beginTracker_tracker : (beginTracker p (clearUnattributed (beginGauges p.density s))).tracker = begunTracker p s := by
  simp only [beginTracker, State.setTracker, clearUnattributed_frame, beginGauges_frame]
  rfl

theorem begun_tracker : (begun p s).tracker = begunTracker p s := by
  simp only [begun, beginRecords_frame, beginGainAndStage_frame, limitsBegin_frame, beginEngine_frame, beginTracker_tracker]

theorem begun_gauge : (begun p s).gauge =
    { s.gauge with recs := s.gauge.recs.map (Option.map (GaugeRec.begin p.density)) } := by
  simp [begun, beginGauges]

theorem begun_gaugeRec {c : Nat} (hc : c < 48) : (begun p s).gaugeRec c = (s.gaugeRec c).map (GaugeRec.begin p.density) := by
  rw [State.gaugeRec, begun_gauge]
  exact Tab.get_map _ _ _ hc

theorem begun_pumpMeter (x : Pump) : (begun p s).pumpMeter x = { s.pumpMeter x with unattributed := 0 } := by
  have hmeter : (begun p s).meter = (clearUnattributed (beginGauges p.density s)).meter := by simp [begun]
  rw [State.pumpMeter_congr hmeter]
  cases x <;> rfl

theorem begun_g0 : (begun p s).meter.g0 = s.meter.g0 ∧ (begun p s).meter.g1 = s.meter.g1 := by
  have hmeter : (begun p s).meter = (clearUnattributed (beginGauges p.density s)).meter := by simp [begun]
  rw [hmeter]
  exact ⟨rfl, rfl⟩

theorem begun_engine : (begun p s).engine = (setRefreshMark { s with
    gauge := (begun p s).gauge
    engine := { s.engine with job := s.engine.job.map Job.voided, projMark := none, result := none } }).engine := by
  have hengine : (begun p s).engine =
      (beginEngine (beginTracker p (clearUnattributed (beginGauges p.density s)))).engine := by simp [begun]
  rw [hengine, beginEngine]
  exact FeedsAlike.setRefreshMark ⟨by simp, by simp [begun], by simp, by simp, by simp [beginTracker_tracker, begunTracker]⟩

theorem begun_console : (begun p s).console = { s.console with
    snapshot := s.console.snapshot.map fun snap =>
      snap.map (Option.map fun x => { x with mass := rdivN (x.volume * p.density) 1000 }) } := by
  simp [begun, beginGauges]

theorem begun_records : (begun p s).records = { s.records with
    log := [], nextNumber := 1, full := false, discharged := Tab.replicate 48 0#48, takenUp := Tab.replicate 48 0#48 } := by
  simp [begun, beginRecords]

theorem begun_xfer : (begun p s).xfer = { s.xfer with paceGain := p.paceGain } := by
  simp [begun, beginGainAndStage]

theorem begun_seq : (begun p s).seq = { s.seq with stage := 0 } := by
  simp [begun, beginGainAndStage]

/-- The limits of an OPBG read the limits, the published record and the tables alone. -/
theorem begunLimits_congr {a b : State} (hl : a.limits = b.limits) (he : a.engine.published = b.engine.published)
    (hs : a.store = b.store) : begunLimits p a = begunLimits p b := by
  simp only [begunLimits, rejudged, tideJudged, judgeAir, clearancesOf, clearanceOf, State.setLimits, hl, he, hs]

theorem begun_limitsBegin : ∃ x : State, begun p s = beginRecords (beginGainAndStage p (raiseLimit s.limits.flags
      s.limits.watch.cautionFlag { x with limits := begunLimits p s })) ∧ x.links = s.links := by
  have hop : (beginEngine (beginTracker p (clearUnattributed (beginGauges p.density s)))).tracker.op = .loading := by
    simp [beginTracker]
  have hlimits : (beginEngine (beginTracker p (clearUnattributed (beginGauges p.density s)))).limits = s.limits := by simp
  have hpublished : (beginEngine (beginTracker p (clearUnattributed (beginGauges p.density s)))).engine.published =
      s.engine.published := by
    rw [beginEngine, (setRefreshMark_fields _).1]
    simp
  refine ⟨beginEngine (beginTracker p (clearUnattributed (beginGauges p.density s))), ?_, by simp⟩
  rw [begun, limitsBegin_eq hop, begunLimits_congr p hlimits hpublished (by simp), hlimits]

theorem begun_limits : (begun p s).limits = begunLimits p s := by
  obtain ⟨x, hx, -⟩ := begun_limitsBegin p s
  simp [hx]

theorem begun_notices (k : NoticeKind) : (begun p s).links.notices.get k.place =
    if s.limits.flags ≠ (begunLimits p s).flags ∧ k = .limit ∧ k.enabled s.links.enables = true then
      some (limitDetail s.limits.flags s.limits.watch.cautionFlag (begun p s))
    else s.links.notices.get k.place := by
  obtain ⟨x, hx, hlinks⟩ := begun_limitsBegin p s
  have hwatch : s.limits.watch = (begunLimits p s).watch := by simp [begunLimits_fields]
  rw [limitDetail_congr _ _ (w := { x with limits := begunLimits p s }) (begun_limits p s), hx, hwatch, ← hlinks]
  exact raiseLimit_notices s.limits.flags { x with limits := begunLimits p s } k

theorem onlyNotices_begun : OnlyNotices s (begun p s) := by
  obtain ⟨x, hx, hlinks⟩ := begun_limitsBegin p s
  have hwatch : s.limits.watch = (begunLimits p s).watch := by simp [begunLimits_fields]
  rw [OnlyNotices, hx, hwatch, ← hlinks]
  exact onlyNotices_raiseLimit s.limits.flags { x with limits := begunLimits p s }

end

/-! ## The evaluation that ends an OPBG (R142, R148, R156) -/

/-- A RUNNING Sequencer waits for a pour of the plan, and the reason set holds STAGE (R142). -/
def Deadlocks (s : State) (r : Reasons) : Prop :=
  s.seq.core.state = .running ∧ s.seq.core.wait = .pour ∧ AwaitsPlanned s ∧ hasReason r .stage = true

/-- The Sequencer suspended with DEADLOCK (R142). -/
def deadlockedSeq (q : Sequencer) : Sequencer :=
  { q with core := { q.core with state := .suspended, wait := .nothing, suspend := .deadlock, detail := .nothing } }

/-- The SEQUENCE notice of a deadlock (R143). -/
def deadlockDetail (q : Sequencer) : Detail :=
  .sequence .suspended q.core.pointer (stepKind q.active q.core.pointer) .deadlock .nothing q.core.passes

section
variable {s : State}

theorem deadlocked_eq {c : Concerned} {r : Reasons} (hn : c.started = false) (hr : reasonSet s c = r) :
    (Deadlocks s r → deadlocked s c (noted s r) =
      raise (deadlockDetail s.seq) { noted s r with seq := deadlockedSeq s.seq }) ∧
    (¬ Deadlocks s r → deadlocked s c (noted s r) = noted s r) := by
  refine ⟨fun ⟨hs, hw, ha, hstage⟩ => ?_, fun h => ?_⟩
  · rw [deadlocked, if_pos ⟨hn, hr ▸ hstage, (awaitsPlanned_iff s).2 ha, hs, hw⟩]; rfl
  · rw [deadlocked, if_neg]
    rintro ⟨-, hstage, ha, hs, hw⟩
    exact h ⟨hs, hw, (awaitsPlanned_iff s).1 ha, hr ▸ hstage⟩

/-- The reason set of the pour concerned, with none the empty set. -/
def reasonsConcerned (s : State) : Reasons :=
  match concerned s with | some c => reasonSet s c | none => 0#13

theorem reasonsConcerned_noted (r : Reasons) : reasonsConcerned (noted s r) = reasonsConcerned s := rfl

theorem reasonsConcerned_deadlocked (d : Detail) : reasonsConcerned (raise d { s with seq := deadlockedSeq s.seq }) =
    reasonsConcerned s := by
  rw [raise]; split <;> rfl

/-- Between pours, with no check standing and no reason stored, an evaluation stores the reason set of the next pour, and
suspends a Sequencer that waits for a pour of the plan where that set holds STAGE. -/
theorem evaluate_next (hs : s.tracker.state = .evaluating ∨ s.tracker.state = .planDone)
    (hst : s.tracker.standing = none) (hl : s.tracker.lastReasons = 0#13) :
    ∃ r, r = reasonsConcerned (evaluate s) ∧
      (Deadlocks s r → evaluate s = raise (deadlockDetail s.seq) { noted s r with seq := deadlockedSeq s.seq }) ∧
      (¬ Deadlocks s r → evaluate s = noted s r) := by
  cases hc : concerned s with
  | none =>
    have hkept : evaluate s = noted s 0#13 := by rw [evaluate_none hc, noted, ← hl]
    refine ⟨0#13, ?_, fun ⟨_, _, _, hstage⟩ => ?_, fun _ => hkept⟩
    · rw [hkept, reasonsConcerned_noted, reasonsConcerned, hc]
    · simp [hasReason_empty] at hstage
  | some c =>
    have hev : s.tracker.state = .evaluating := hs.resolve_right fun hd => by simp [concerned_resting (.inr hd)] at hc
    have hn : c.started = false := by
      rw [concerned_evaluating hev, Option.map_eq_some_iff] at hc
      obtain ⟨e, -, he⟩ := hc
      rw [← he]
    obtain ⟨hdead, hquiet⟩ := deadlocked_eq (s := s) hn rfl
    rw [evaluate_waits hev hst hc]
    refine ⟨reasonSet s c, ?_, hdead, hquiet⟩
    have hr : reasonSet s c = reasonsConcerned s := by rw [reasonsConcerned, hc]
    by_cases hd : Deadlocks s (reasonSet s c)
    · rw [hdead hd, hr]
      exact (reasonsConcerned_deadlocked (s := noted s (reasonsConcerned s)) _).symm
    · rw [hquiet hd, hr]; rfl

end

/-! ## OPBG in every block (R148) -/

section
variable (p : OpParams) (u : State)

theorem announced_tracker : (announcePlanDone (begun p u)).tracker = begunTracker p u := by
  simp [begun_tracker]

theorem announced_seq : (announcePlanDone (begun p u)).seq = { u.seq with stage := 0 } := by
  simp [begun_seq]

theorem announced_enables : (announcePlanDone (begun p u)).links.enables = u.links.enables := by
  rw [(announcePlanDone_fields _).2.2.1, onlyNotices_begun p u]

theorem announced_deadlocks (r : Reasons) : Deadlocks (announcePlanDone (begun p u)) r ↔ Deadlocks u r := by
  simp only [Deadlocks, AwaitsPlanned, announced_seq, announced_tracker]
  rfl

theorem onlyNotices_noted (s : State) (r : Reasons) : OnlyNotices s (noted s r) := rfl

/-- What the evaluation that ends an OPBG makes of the tracker, the Sequencer and the links. -/
theorem beginOperation_ends : ∃ r, r = reasonsConcerned (beginOperation p u) ∧
    (beginOperation p u).tracker = { begunTracker p u with lastReasons := r } ∧
    (Deadlocks u r → (beginOperation p u).seq = deadlockedSeq { u.seq with stage := 0 }) ∧
    (¬ Deadlocks u r → (beginOperation p u).seq = { u.seq with stage := 0 }) ∧
    OnlyNotices u (beginOperation p u) ∧
    (Deadlocks u r → NoticeKind.sequence.enabled u.links.enables = true →
      (beginOperation p u).links.notices.get NoticeKind.sequence.place = some (deadlockDetail { u.seq with stage := 0 })) ∧
    ∀ k : NoticeKind, k ≠ .sequence ∨ ¬ Deadlocks u r ∨ k.enabled u.links.enables = false →
      (beginOperation p u).links.notices.get k.place = (announcePlanDone (begun p u)).links.notices.get k.place := by
  have htracker := announced_tracker p u
  have hseq := announced_seq p u
  have henables := announced_enables p u
  have hdeadlocks := announced_deadlocks p u
  have honly : OnlyNotices u (announcePlanDone (begun p u)) :=
    (onlyNotices_begun p u).trans (onlyNotices_announcePlanDone _)
  rw [beginOperation_eq]
  generalize announcePlanDone (begun p u) = b at htracker hseq henables hdeadlocks honly ⊢
  obtain ⟨r, hr, hdead, hquiet⟩ := evaluate_next (s := b)
    (by rw [htracker, begunTracker]; split <;> simp) (by rw [htracker]; rfl) (by rw [htracker]; rfl)
  rw [hdeadlocks, hseq] at hdead
  rw [hdeadlocks] at hquiet
  refine ⟨r, hr, ?_⟩
  by_cases hd : Deadlocks u r
  · rw [hdead hd, ← henables]
    refine ⟨by rw [raise_tracker, ← htracker]; rfl, fun _ => raise_seq .., fun h => absurd hd h,
      (honly.trans (onlyNotices_noted b r)).trans (onlyNotices_raise (deadlockDetail _) _), fun _ he => ?_, fun k hk => ?_⟩
    · rw [raise_notices]
      exact if_pos ⟨rfl, he⟩
    · rw [raise_notices]
      refine if_neg fun ⟨hks, he⟩ => ?_
      rcases hk with hk | hk | hk
      · exact hk hks
      · exact hk hd
      · exact absurd (hk.symm.trans he) (by decide)
  · rw [hquiet hd]
    exact ⟨by rw [← htracker]; rfl, fun h => absurd h hd, fun _ => hseq, honly.trans (onlyNotices_noted b r),
      fun h => absurd h hd, fun _ _ => rfl⟩

end

/-- The LIMIT notice of an OPBG shows a change of DRAFT and of the AIR_DRAFT flags alone (R94). -/
theorem limitDetail_begun {old : LimitFlags} {w : Watch} {t : State} (htrim : t.limits.flags.trim = old.trim)
    (hw : t.limits.watch = w) : limitDetail old w.cautionFlag t =
      .limit t.limits.judgedSeq t.limits.flags
        ⟨old.draft != t.limits.flags.draft, false, Tab.build 12 fun i => old.air.get i != t.limits.flags.air.get i⟩
        (w != .normal) false
        (((List.range 12).filter fun i => old.air.get i != t.limits.flags.air.get i).map fun i =>
          (i + 1, t.limits.clearances.get i)) := by
  have hair : ((List.range 12).filter fun i => (old.diff t.limits.flags).air.get i) =
      (List.range 12).filter fun i => old.air.get i != t.limits.flags.air.get i :=
    List.filter_congr fun i hi => Tab.get_build _ i (List.mem_range.1 hi)
  rw [limitDetail, hair]
  simp only [hw, LimitFlags.diff, htrim, bne_self_eq_false]
  rfl

theorem begin_eq (ρ : Nat) (g : GaugeRec) : g.begin ρ =
    let d : GaugeRec := if g.state = .good ∨ g.state = .held then
        { g with density := ρ, mass := rdivN (g.volume * ρ) 1000 } else { g with density := ρ }
    { d with refMass := d.mass, changed := false, unexplained := 0 } := by
  simp only [GaugeRec.begin, GaugeRec.withDensity]
  split <;> rfl

theorem voided_eq (j : Job) : j.voided =
    { j with task := match j.task with | .refresh => .refresh | .projection r _ => .projection r true } := by
  obtain ⟨task, snapshot, working, seq⟩ := j
  cases task <;> rfl

/-- The blocks of an OPBG that its evaluation leaves as they were begun. -/
theorem beginOperation_begun (p : OpParams) (u : State) :
    (beginOperation p u).gauge = (begun p u).gauge ∧ (beginOperation p u).meter = (begun p u).meter ∧
      (beginOperation p u).engine = (begun p u).engine ∧ (beginOperation p u).limits = begunLimits p u ∧
      (beginOperation p u).xfer = { u.xfer with paceGain := p.paceGain } ∧
      (beginOperation p u).records = (begun p u).records ∧ (beginOperation p u).console = (begun p u).console := by
  simp [beginOperation_eq, begun_limits, begun_xfer]

section
variable {p : OpParams} {u : State}

/-- The LIMIT notice of an OPBG (R94). -/
theorem announced_limit (hne : u.limits.flags ≠ (begunLimits p u).flags)
    (he : NoticeKind.limit.enabled u.links.enables = true) :
    (announcePlanDone (begun p u)).links.notices.get NoticeKind.limit.place =
      some (limitDetail u.limits.flags u.limits.watch.cautionFlag (begun p u)) := by
  rw [announcePlanDone_notices, if_neg (by simp), begun_notices, if_pos ⟨hne, rfl, he⟩]

/-- The POUR notice of an OPBG (R158). -/
theorem announced_pour (hn : planLength u.tracker.active = 0) (he : NoticeKind.pour.enabled u.links.enables = true) :
    (announcePlanDone (begun p u)).links.notices.get NoticeKind.pour.place =
      some (.pour .planDone .planDone none 0#13) := by
  rw [announcePlanDone_notices, if_pos]
  refine ⟨?_, rfl, ?_⟩
  · rw [begun_tracker, begunTracker, if_pos hn]
  · rw [onlyNotices_begun]; exact he

/-- A kind that OPBG does not raise stays as it is. -/
theorem announced_kept {k : NoticeKind}
    (hpour : k ≠ .pour ∨ planLength u.tracker.active ≠ 0 ∨ k.enabled u.links.enables = false)
    (hlimit : k ≠ .limit ∨ u.limits.flags = (begunLimits p u).flags ∨ k.enabled u.links.enables = false) :
    (announcePlanDone (begun p u)).links.notices.get k.place = u.links.notices.get k.place := by
  have henables : (begun p u).links.enables = u.links.enables := by rw [onlyNotices_begun]
  rw [announcePlanDone_notices, if_neg, begun_notices, if_neg]
  · rintro ⟨hne, hk, he⟩
    rcases hlimit with h | h | h
    · exact h hk
    · exact hne h
    · simp [h] at he
  · rintro ⟨hs, hk, he⟩
    rw [henables] at he
    rcases hpour with h | h | h
    · exact h hk
    · simp [begun_tracker, begunTracker, h] at hs
    · simp [h] at he

end

/-- Settles O42: OPBG is refused by the first check that fails; an accepted one is `beginOperation`, read block by block. -/
theorem opbgBeginsALoadingOperation : Obligations.OpbgBeginsALoadingOperation := by
  refine ⟨fun s ρ draft boom clear ack gain tide hr h1 h2 h3 h4 h5 h6 h7 h8 => ?_,
    rule_opbg.otherForms fun args u h => opbgMsg_length h, unknownOnShore _ rfl⟩
  intro args ok density breach
  let p : OpParams := ⟨ρ, draft, boom, clear, ack, gain, tide⟩
  have hfit : ArgsFit p := ⟨h1, h2, h3, h4, h5, h6, h7, h8⟩
  have hargs : args = opbgArgs p := rfl
  clear_value args
  subst hargs
  have hlen : (opbgArgs p).length ≤ maxArgs := by simp [opbgArgs_length, maxArgs]
  have hchecks : p.checks = ok := checks_eq p
  let u : State := taken .ship .opbg (opbgArgs p) s
  refine ⟨fun ho => rule_opbg.refuses hr hlen (opbgMsg_state (u := u) hfit ho),
    fun ho hd => rule_opbg.refusesData hr hlen (opbgMsg_data (u := u) hfit ho hd), fun ho hd => ⟨fun i hlow hi => ?_, fun hok => ?_⟩⟩
  · exact rule_opbg.answers hr hlen (opbgMsg_range (u := u) hfit ho hd (badPosition_some (by rwa [hchecks]) (by rwa [hchecks])))
  · refine ⟨beginOperation p u,
      rule_opbg.answers hr hlen (opbgMsg_begins (u := u) hfit ho hd (badPosition_none (by rwa [hchecks]))), ?_⟩
    obtain ⟨r, hr, htracker, hdead, halive, honly, hsuspended, hnotices⟩ := beginOperation_ends p u
    obtain ⟨hgauge, hmeter, hengine, hlimits, hxfer, hrecords, hconsole⟩ := beginOperation_begun p u
    obtain ⟨hstore, htime, hinputs, hpending⟩ := beginOperation_frame p u
    obtain ⟨f1, f2, f3, f4, f5, f6, f7, f8, f9, f10, f11, f12, f13, f14, f15, f16, f17⟩ := begunLimits_fields p u
    rw [← hlimits] at f1 f2 f3 f4 f5 f6 f7 f8 f9 f10 f11 f12 f13 f14 f15 f16 f17
    refine ⟨?_, ?_, ?_, ?_, ?_, ?_, ?_, f1, f2, f3, f4, f5, f6, f7, f8, f9, f10, f11, f12, f13, f14, f15, f16, f17,
      ?_, ?_, hxfer, ?_, ?_, ?_, ?_, ?_, ?_, ?_, honly, hstore, htime, hinputs, hpending⟩
    · rw [htracker, hr, reasonsConcerned]; rfl
    · intro c hc
      rw [State.gaugeRec, hgauge]
      refine (begun_gaugeRec p u hc).trans ?_
      exact congrArg (fun f => (s.gaugeRec c).map f) (funext (begin_eq ρ))
    · intro x
      exact (State.pumpMeter_congr hmeter x).trans (begun_pumpMeter p u x)
    · rw [hgauge, begun_gauge]; rfl
    · rw [hmeter]; exact (begun_g0 p u).1
    · rw [hmeter]; exact (begun_g0 p u).2
    · rw [hengine, hgauge, begun_engine, funext voided_eq]; rfl
    · intro hj
      rw [hlimits]; exact begunLimits_unjudged (s := u) hj
    · intro hj
      obtain ⟨hclear, hair, hdraft⟩ := begunLimits_judged (p := p) (s := u) hj
      rw [hlimits]
      refine ⟨fun k hk1 hk12 => (hclear k hk1 hk12).trans ?_, hair, hdraft⟩
      simp only [clearanceAt_eq]; rfl
    · have hlast : (beginOperation p u).tracker.lastReasons = r := by rw [htracker]
      rw [hlast]
      refine ⟨fun hd => ⟨hdead hd, hsuspended hd⟩, halive, fun hd => ?_⟩
      exact (hnotices .sequence (.inr hd)).trans (announced_kept (u := u) (.inl (by decide)) (.inl (by decide)))
    · rw [hlimits]
      refine ⟨fun hne he => ?_, fun hkept => ?_⟩
      · refine (hnotices .limit (.inl (by decide))).trans ((announced_limit (u := u) hne he).trans ?_)
        rw [limitDetail_begun (by rw [begun_limits, ← hlimits, f17]) (by rw [begun_limits, ← hlimits, f11]),
          begun_limits, ← hlimits, f12]
        rfl
      · exact (hnotices .limit (.inl (by decide))).trans (announced_kept (u := u) (.inl (by decide)) (.inr hkept))
    · intro hn he
      exact (hnotices .pour (.inl (by decide))).trans (announced_pour (u := u) hn he)
    · intro hkept
      exact (hnotices .pour (.inl (by decide))).trans (announced_kept (u := u) (.inr hkept) (.inl (by decide)))
    · intro k hk1 hk2 hk3
      exact (hnotices k (.inl hk3)).trans (announced_kept (u := u) (.inl hk1) (.inl hk2))
    · rw [hrecords]; exact begun_records p u
    · rw [hconsole]; exact begun_console p u

end Sys2Proof.LoadingOperation
end

section
/-! PROOF. The statements about the console handover (spec/09_console_handover.md): the grant, the take-back at a drop, the end
of RECONCILING, and what every step keeps of the grant line and the YIELDED Sequencer. -/

namespace Sys2Proof.ConsoleHandover

open Sys2Proof.Machine Sys2Proof.ShipData Sys2Proof.Survey Sys2Proof.LimitsUnit Sys2Proof.SequenceProgram

/-! ## The grant (R171, R172, R144) -/

@[simp] theorem sixOf_get_set {α : Type} (x : SixOf α) (d e : Driver) (a : α) :
    (x.set d a).get e = if e = d then a else x.get e := by
  cases d <;> cases e <;> rfl

/-- A transfer that the grant hands over: in PRIMING or RUNNING (R172, step 1). -/
abbrev Pumping (x : Transfer) : Prop := x.state = .priming ∨ x.state = .running

theorem grantCondition_iff (s : State) : grantCondition s = true ↔ NothingMoves s := by
  simp [grantCondition, assignedTravelling, NothingMoves, mem_drivers, channels]

/-- An act that, of what `g` reads, writes at `k` alone, made once for each of a list, has written it once if `k` is among
them. -/
theorem foldl_once {α β : Type} [DecidableEq α] {g upd : State → β} {f : State → α → State} {k : α}
    (hf : ∀ s a, g (f s a) = if a = k then upd s else g s) (hupd : ∀ s a, a ≠ k → upd (f s a) = upd s) {l : List α}
    (hl : l.Nodup) (s : State) : g (l.foldl f s) = if k ∈ l then upd s else g s := by
  induction l generalizing s with
  | nil => rfl
  | cons a l ih =>
    obtain ⟨ha, hl⟩ := List.nodup_cons.1 hl
    rw [List.foldl_cons, ih hl, hf]
    by_cases hk : a = k
    · subst hk; simp [ha]
    · simp [hk, Ne.symm hk, hupd s a hk]

theorem foldl_drivers_once {β : Type} {g upd : State → β} {f : State → Driver → State} {k : Driver}
    (hf : ∀ s d, g (f s d) = if d = k then upd s else g s) (hupd : ∀ s d, d ≠ k → upd (f s d) = upd s) (s : State) :
    g (drivers.foldl f s) = upd s :=
  (foldl_once hf hupd (by decide) s).trans (if_pos (mem_drivers k))

section
variable (s : State) (d e : Driver) (p : Pump)

theorem phaseOff_pumpMeter : (phaseOff d s).pumpMeter p =
    if d = p.driver then { s.pumpMeter p with phase := .off, countdown := 0 } else s.pumpMeter p := by
  cases d <;> cases p <;> rfl

theorem handOver_transfer : (handOver s d).transfer e =
    if d = e then (if Pumping (s.transfer e) then { s.transfer e with state := .handedOver } else s.transfer e)
    else s.transfer e := by
  have hphase (u : State) : (phaseOff d u).transfer e = u.transfer e := State.transfer_congr (by simp) e
  have hconsole (u : State) (c : Console) : (u.setConsole c).transfer e = u.transfer e := State.transfer_congr rfl e
  by_cases hd : d = e
  · subst hd
    by_cases h : Pumping (s.transfer d) <;> simp [handOver, h, hconsole, hphase]
  · by_cases h : Pumping (s.transfer d) <;> simp [handOver, h, hconsole, hphase, hd, Ne.symm hd]

theorem handOver_console : (handOver s d).console =
    if Pumping (s.transfer d) then
      { s.console with
        handed := s.console.handed.set d (some (s.transfer d).tank), reached := s.console.reached.set d false }
    else s.console := by
  simp only [handOver]; split <;> simp

theorem handOver_pumpMeter : (handOver s d).pumpMeter p =
    if d = p.driver then
      (if Pumping (s.transfer p.driver) then { s.pumpMeter p with phase := .off, countdown := 0 } else s.pumpMeter p)
    else s.pumpMeter p := by
  have hconsole (u : State) (c : Console) : (u.setConsole c).pumpMeter p = u.pumpMeter p := State.pumpMeter_congr rfl p
  by_cases hd : d = p.driver
  · subst hd
    by_cases h : Pumping (s.transfer p.driver) <;> simp [handOver, h, hconsole, phaseOff_pumpMeter]
  · by_cases h : Pumping (s.transfer d) <;> simp [handOver, h, hconsole, phaseOff_pumpMeter, hd]

theorem handOver_keeps : (handOver s d).pumpOut p = s.pumpOut p ∧ (handOver s d).xfer.valves = s.xfer.valves ∧
    (handOver s d).xfer.paceGain = s.xfer.paceGain ∧ (handOver s d).meter.g0 = s.meter.g0 ∧
    (handOver s d).meter.g1 = s.meter.g1 := by
  have hphase (u : State) : (phaseOff d u).meter.g0 = u.meter.g0 ∧ (phaseOff d u).meter.g1 = u.meter.g1 := by
    cases d <;> exact ⟨rfl, rfl⟩
  have hout : (handOver s d).pumpOut p = s.pumpOut p := by
    simp only [handOver]
    split
    · have hxfer (u : State) (c : Console) : ((phaseOff d u).setConsole c).xfer = u.xfer := by simp
      exact (State.pumpOut_congr (hxfer _ _) p).trans (State.setTransfer_pumpOut ..)
    · rfl
  refine ⟨hout, ?_⟩
  simp only [handOver]
  split <;> simp [hphase]

end

/-- What the grant's first step has done, from `s` to `t` (R172, step 1). -/
structure HandsOver (s t : State) : Prop where
  transfer (d : Driver) : t.transfer d =
    if Pumping (s.transfer d) then { s.transfer d with state := .handedOver } else s.transfer d
  handed (d : Driver) : t.console.handed.get d =
    if Pumping (s.transfer d) then some (s.transfer d).tank else s.console.handed.get d
  reached (d : Driver) : t.console.reached.get d =
    if Pumping (s.transfer d) then false else s.console.reached.get d
  meter (p : Pump) : t.pumpMeter p =
    if Pumping (s.transfer p.driver) then { s.pumpMeter p with phase := .off, countdown := 0 } else s.pumpMeter p
  out (p : Pump) : t.pumpOut p = s.pumpOut p
  console : t.console.releaseStamp = s.console.releaseStamp ∧ t.console.closing = s.console.closing
  xfer : t.xfer.valves = s.xfer.valves ∧ t.xfer.paceGain = s.xfer.paceGain
  gravity : t.meter.g0 = s.meter.g0 ∧ t.meter.g1 = s.meter.g1

theorem handOvers_handsOver (s : State) : HandsOver s (drivers.foldl handOver s) := by
  have hother (u : State) (d e : Driver) (h : d ≠ e) : (handOver u d).transfer e = u.transfer e := by
    rw [handOver_transfer, if_neg h]
  have keep {β : Type} (g : State → β) (h : ∀ u d, g (handOver u d) = g u) : g (drivers.foldl handOver s) = g s :=
    foldl_keep g _ h _ _
  constructor
  case transfer =>
    intro d
    refine foldl_drivers_once (k := d) (g := fun u => u.transfer d)
      (upd := fun u => if Pumping (u.transfer d) then { u.transfer d with state := .handedOver } else u.transfer d)
      (fun u a => handOver_transfer u a d) (fun u a h => ?_) s
    simp only [hother u a d h]
  case handed =>
    intro d
    refine foldl_drivers_once (k := d) (g := fun u => u.console.handed.get d)
      (upd := fun u => if Pumping (u.transfer d) then some (u.transfer d).tank else u.console.handed.get d)
      (fun u a => ?_) (fun u a h => ?_) s
    · by_cases ha : a = d
      · subst ha; by_cases hp : Pumping (u.transfer a) <;> simp [handOver_console, hp]
      · by_cases hp : Pumping (u.transfer a) <;> simp [handOver_console, hp, ha, Ne.symm ha]
    · by_cases hp : Pumping (u.transfer a) <;> simp [handOver_console, hother u a d h, hp, Ne.symm h]
  case reached =>
    intro d
    refine foldl_drivers_once (k := d) (g := fun u => u.console.reached.get d)
      (upd := fun u => if Pumping (u.transfer d) then false else u.console.reached.get d)
      (fun u a => ?_) (fun u a h => ?_) s
    · by_cases ha : a = d
      · subst ha; by_cases hp : Pumping (u.transfer a) <;> simp [handOver_console, hp]
      · by_cases hp : Pumping (u.transfer a) <;> simp [handOver_console, hp, ha, Ne.symm ha]
    · by_cases hp : Pumping (u.transfer a) <;> simp [handOver_console, hother u a d h, hp, Ne.symm h]
  case meter =>
    intro p
    refine foldl_drivers_once (k := p.driver) (g := fun u => u.pumpMeter p)
      (upd := fun u => if Pumping (u.transfer p.driver) then { u.pumpMeter p with phase := .off, countdown := 0 }
        else u.pumpMeter p)
      (fun u a => handOver_pumpMeter u a p) (fun u a h => ?_) s
    simp only [hother u a p.driver h, handOver_pumpMeter, if_neg h]
  case out => exact fun p => keep (fun u => u.pumpOut p) fun u d => (handOver_keeps u d p).1
  case console =>
    exact ⟨keep (fun u => u.console.releaseStamp) fun u d => by rw [handOver_console]; split <;> rfl,
      keep (fun u => u.console.closing) fun u d => by rw [handOver_console]; split <;> rfl⟩
  case xfer =>
    exact ⟨keep (fun u => u.xfer.valves) fun u d => (handOver_keeps u d .p0).2.1,
      keep (fun u => u.xfer.paceGain) fun u d => (handOver_keeps u d .p0).2.2.1⟩
  case gravity =>
    exact ⟨keep (fun u => u.meter.g0) fun u d => (handOver_keeps u d .p0).2.2.2.1,
      keep (fun u => u.meter.g1) fun u d => (handOver_keeps u d .p0).2.2.2.2⟩

/-- All that the grant does (R172, R144). -/
theorem grant_grants (s : State) : GrantsConsole s (grant s) := by
  have hover := handOvers_handsOver s
  have keep {β : Type} (g : State → β) (h : ∀ u d, g (handOver u d) = g u) : g (drivers.foldl handOver s) = g s :=
    foldl_keep g _ h _ _
  have hseq : (drivers.foldl handOver s).seq = s.seq := keep _ (by simp)
  have hgauge : (drivers.foldl handOver s).gauge = s.gauge := keep _ (by simp)
  have htime : (drivers.foldl handOver s).time = s.time := keep _ (by simp)
  have hframe := grant_frame s
  revert hframe
  unfold grant
  generalize drivers.foldl handOver s = u at *
  rintro ⟨hstore, hgauge', hengine, hlimits, htracker, hrecords, hlinks, htime', hinputs, hpending⟩
  refine ⟨rfl, rfl, congrArg some (congrArg _ htime), hover.console.1, hover.console.2, hover.transfer, hover.handed,
    hover.reached, fun p => ⟨hover.out p, hover.meter p⟩, ⟨_, rfl, fun c hc => ?_⟩, ?_, hover.xfer.1, hinputs, hstore, hgauge',
    hengine, hlimits, htracker, hrecords, hlinks, htime', hover.gravity.1, hover.gravity.2, hover.xfer.2, hpending⟩
  · have hsnap := Tab.get_build (fun c => ((yieldSeq u).gaugeRec c).map TankSnap.of) c hc
    refine hsnap.trans ?_
    rw [show (yieldSeq u).gaugeRec c = s.gaugeRec c from congrArg (fun g : Gauging => g.recs.get c) hgauge]
    rfl
  · simp [yieldSeq, hseq]

/-! ## A rise of the request (R171, R177) -/

theorem judgeGrant_moving {s : State} (h : ¬ NothingMoves s) : judgeGrant s = s :=
  if_neg fun hg => h ((grantCondition_iff s).1 hg.2)

theorem judgeGrant_grants {s : State} (hs : s.console.state = .requested) (h : NothingMoves s) :
    GrantsConsole s (judgeGrant s) := by
  rw [judgeGrant, if_pos ⟨hs, (grantCondition_iff s).2 h⟩]
  exact grant_grants s

theorem consoleRises_elsewhere {s : State} (h : s.console.state ≠ .auto ∨ s.inputs.reset = true) :
    consoleRises s = setRequest true s := by
  simp only [consoleRises]
  split
  · next hs =>
    have hr : s.inputs.reset = true := h.resolve_left (not_not.2 hs)
    exact unlessHeld_held _ _ hr
  all_goals rfl

theorem consoleRises_auto {s : State} (hs : s.console.state = .auto) (hr : s.inputs.reset = false) :
    consoleRises s = requestRises (setRequest true s) := by
  simp only [consoleRises, hs]
  exact unlessHeld_free _ _ hr

/-- Settles O52: a rise in AUTO judges the grant condition, and the grant is `grant_grants`. -/
theorem aConsoleRequestIsGrantedWhenNothingMoves : Obligations.AConsoleRequestIsGrantedWhenNothingMoves := by
  refine ⟨fun s => ?_, fun w => ⟨fun h => ?_, judgeGrant_grants⟩⟩
  · intro raised requested
    refine ⟨fun h => congrArg _ (consoleRises_elsewhere h), fun hs hr => ?_⟩
    have hrise : exec .consoleRequestRise s = .next (judgeGrant requested) := congrArg _ (consoleRises_auto hs hr)
    have hmoves : NothingMoves requested ↔ NothingMoves s := Iff.rfl
    exact ⟨hrise, fun h => hrise.trans (congrArg _ (judgeGrant_moving h)), fun h => ⟨_, hrise, judgeGrant_grants rfl h⟩⟩
  · exact h.elim (judgeGrant_quiet w) judgeGrant_moving

/-! ## The figures of the handover -/

/-- What R144 and R170 ask of the Sequencer: whether it is YIELDED, and the state that it has saved. -/
structure YieldFigures where
  yielded : Bool
  saved : Option SeqState

/-- The yield figures of a Sequencer (R122, R144). -/
def yieldOf (q : Sequencer) : YieldFigures := ⟨q.core.state == .yielded, q.saved.map SeqCore.state⟩

/-- `t` has the console state, the grant line and the yield figures of `s`. -/
def SameHandover (s t : State) : Prop :=
  t.console.state = s.console.state ∧ t.console.grantLine = s.console.grantLine ∧ yieldOf t.seq = yieldOf s.seq

@[simp] theorem sameHandover_iff {s t : State} :
    SameHandover s t ↔ t.console.state = s.console.state ∧ t.console.grantLine = s.console.grantLine ∧
      yieldOf t.seq = yieldOf s.seq := Iff.rfl

/-- The console and the Sequencer together, by the figures alone. -/
theorem consoleConsistent_iff {s : State} :
    ConsoleConsistent s ↔ s.console.grantLine = (s.console.state == .granted) ∧
      ((yieldOf s.seq).yielded = true ↔ s.console.state = .granted ∨ s.console.state = .reconciling) ∧
      ((yieldOf s.seq).saved.isSome ↔ (yieldOf s.seq).yielded = true) ∧ (yieldOf s.seq).saved ≠ some .yielded := by
  simp [ConsoleConsistent, yieldOf]

theorem consoleConsistent_of_same {s t : State} (hs : ConsoleConsistent s) (h : SameHandover s t) : ConsoleConsistent t := by
  obtain ⟨hstate, hline, hseq⟩ := h
  rw [consoleConsistent_iff, hstate, hline, hseq]
  exact consoleConsistent_iff.1 hs

/-- A part whose console is AUTO or REQUESTED has a Sequencer that is not YIELDED and has nothing saved. -/
theorem not_yielded_of_console {s : State} (hs : ConsoleConsistent s) (hg : s.console.state ≠ .granted)
    (hr : s.console.state ≠ .reconciling) : (yieldOf s.seq).yielded = false := by
  obtain ⟨-, hy, -, -⟩ := consoleConsistent_iff.1 hs
  exact Bool.eq_false_iff.2 fun h => (hy.1 h).elim hg hr

@[simp] theorem yieldOf_stage (q : Sequencer) (n : Nat) : yieldOf { q with stage := n } = yieldOf q := rfl

@[simp] theorem yieldOf_standby (q : Sequencer) (b : ProgramBank) : yieldOf { q with standby := b } = yieldOf q := rfl

@[simp] theorem yieldOf_core (q : Sequencer) {c : SeqCore} (h : c.state = q.core.state) :
    yieldOf { q with core := c } = yieldOf q := by simp [yieldOf, h]

/-- A Sequencer that leaves a state other than YIELDED for another such state keeps the figures. -/
theorem yieldOf_core_of_not {q : Sequencer} {c : SeqCore} (hc : c.state ≠ .yielded) (hq : (yieldOf q).yielded = false) :
    yieldOf { q with core := c } = yieldOf q := by
  simp_all [yieldOf]

theorem not_yielded {q : Sequencer} (h : q.core.state ≠ .yielded) : (yieldOf q).yielded = false := by
  simpa [yieldOf] using h

theorem yieldOf_setCore {s : State} {c : SeqCore} (h : c.state = s.seq.core.state) :
    yieldOf (s.setCore c).seq = yieldOf s.seq := yieldOf_core s.seq h

/-! ## Acts that keep the yield figures -/

section
variable (s : State)

@[simp] theorem yieldOf_notify (d : Driver) (f : Progress → Progress) : yieldOf (notify d f s).seq = yieldOf s.seq := by
  have hcore (c : SeqCore) : (c.hear d f).state = c.state := by
    unfold SeqCore.hear; (repeat' split) <;> rfl
  simp only [yieldOf, notify, hcore, Option.map_map]
  congr 2
  exact funext hcore

theorem yieldOf_suspendSeq (why : SuspendReason) (detail : SuspendDetail) (h : (yieldOf s.seq).yielded = false) :
    yieldOf (suspendSeq why detail s).seq = yieldOf s.seq := by
  unfold suspendSeq
  split <;> simpa using yieldOf_core_of_not (by simp) h

@[simp] theorem yieldOf_deadlockCheck : yieldOf (deadlockCheck s).seq = yieldOf s.seq := by
  unfold deadlockCheck
  split
  · next h => exact yieldOf_suspendSeq s _ _ (not_yielded (by simp [h.1]))
  · rfl

@[simp] theorem yieldOf_evaluate : yieldOf (evaluate s).seq = yieldOf s.seq := by
  simp only [evaluate]; (repeat' split) <;> simp

@[simp] theorem yieldOf_trackerPublish (rob : Nat) : yieldOf (trackerPublish rob s).seq = yieldOf s.seq := by
  simp only [trackerPublish]; split <;> simp

@[simp] theorem yieldOf_setLatch (cause : LatchCause) (n : Nat) : yieldOf (setLatch cause n s).seq = yieldOf s.seq := by
  simp [setLatch]

@[simp] theorem yieldOf_judgePublish (p : Published) : yieldOf (judgePublish p s).seq = yieldOf s.seq := by
  simp only [judgePublish, enterBreach]; split <;> simp

@[simp] theorem yieldOf_applyTide (height : Int) : yieldOf (applyTide height s).seq = yieldOf s.seq := by
  simp only [applyTide]; split <;> simp

@[simp] theorem yieldOf_releaseLatch : yieldOf (releaseLatch s).seq = yieldOf s.seq := by
  simp only [releaseLatch]; split <;> simp

/-! The acts of the transfers and valves write the step progress alone (R128). -/

@[simp] theorem yieldOf_goOn (d : Driver) : yieldOf (goOn d s).seq = yieldOf s.seq := by
  simp only [goOn]; (repeat' split) <;> simp

@[simp] theorem yieldOf_acceptStart (owner : Owner) (step : Option Nat) (r : Start) :
    yieldOf (acceptStart owner step r s).seq = yieldOf s.seq := by
  simp [acceptStart]

@[simp] theorem yieldOf_tryIdle (d : Driver) : yieldOf (tryIdle d s).seq = yieldOf s.seq := by
  simp only [tryIdle, returnToIdle]; split <;> simp

@[simp] theorem yieldOf_endTransfer (d : Driver) (r : EndReason) : yieldOf (endTransfer d r s).seq = yieldOf s.seq := by
  simp [endTransfer]

@[simp] theorem yieldOf_endEvent (d : Driver) (r : EndReason) : yieldOf (endEvent d r s).seq = yieldOf s.seq := by
  simp only [endEvent]; split <;> simp

@[simp] theorem yieldOf_endEvents (ds : List Driver) (r : EndReason) : yieldOf (endEvents ds r s).seq = yieldOf s.seq :=
  foldl_keep (fun u => yieldOf u.seq) _ (by simp) _ _

@[simp] theorem yieldOf_valveArrives (ch : Nat) : yieldOf (valveArrives ch s).seq = yieldOf s.seq := by
  simp only [valveArrives]; split <;> simp

@[simp] theorem yieldOf_valveFails (ch : Nat) (cause : ValveFault) : yieldOf (valveFails ch cause s).seq = yieldOf s.seq := by
  simp only [valveFails]; (repeat' split) <;> simp

@[simp] theorem yieldOf_settleAssignments (before : State) : yieldOf (settleAssignments before s).seq = yieldOf s.seq := by
  have hgain (u : State) (ch : Nat) : yieldOf (gainAssignment before u ch).seq = yieldOf u.seq := by
    simp only [gainAssignment]; split <;> simp
  refine (foldl_keep (fun u => yieldOf u.seq) _ hgain _ _).trans ?_
  simp

@[simp] theorem yieldOf_judgeLimits (before : State) (ch : Nat) : yieldOf (judgeLimits before s ch).seq = yieldOf s.seq := by
  simp only [judgeLimits]; (repeat' split) <;> simp

@[simp] theorem yieldOf_headChecks : yieldOf (headChecks s).seq = yieldOf s.seq := by
  refine foldl_keep (fun u => yieldOf u.seq) _ (fun u d => ?_) _ _
  simp only [headCheck]; split <;> simp

@[simp] theorem yieldOf_sweepChecks : yieldOf (sweepChecks s).seq = yieldOf s.seq := by
  refine foldl_keep (fun u => yieldOf u.seq) _ (fun u d => ?_) _ _
  simp only [sweepCheck]; (repeat' split) <;> simp

@[simp] theorem yieldOf_stopStep (code : Nat) : yieldOf (stopStep code s).seq = yieldOf s.seq := by
  simp only [stopStep]; split <;> simp

@[simp] theorem stopStep_hand (code : Nat) : (stopStep code s).console.state = s.console.state ∧
    (stopStep code s).console.grantLine = s.console.grantLine := by
  simp only [stopStep]; split <;> simp

@[simp] theorem yieldOf_waitFor (w : WaitReason) : yieldOf (waitFor w s).seq = yieldOf s.seq := by simp [waitFor]

@[simp] theorem yieldOf_setStage (v : Nat) : yieldOf (setStage v s).seq = yieldOf s.seq := by simp [setStage]

@[simp] theorem yieldOf_countPass : yieldOf (countPass s).seq = yieldOf s.seq := by simp [countPass]

@[simp] theorem yieldOf_firstPulse (d : Driver) : yieldOf (firstPulse d s).seq = yieldOf s.seq := by
  simp only [firstPulse]; split <;> simp

@[simp] theorem yieldOf_takePulse (p : Pump) : yieldOf (takePulse p s).seq = yieldOf s.seq := by
  simp only [takePulse]; split <;> simp

/-! A tick and the acts of the tracker and the data store. -/

@[simp] theorem yieldOf_applyExchange : yieldOf (applyExchange s).seq = yieldOf s.seq := by simp [applyExchange]

@[simp] theorem yieldOf_applyPending : yieldOf (applyPending s).seq = yieldOf s.seq := by
  simp only [applyPending]; split <;> simp

@[simp] theorem yieldOf_setHold (h m : Nat) : yieldOf (setHold h m s).seq = yieldOf s.seq := by simp [setHold]

@[simp] theorem yieldOf_takeTally (p : CurrentPour) (tally : Nat) : yieldOf (takeTally p tally s).seq = yieldOf s.seq := by
  simp only [takeTally, latchRise]; split <;> simp

@[simp] theorem yieldOf_applyTally (p : CurrentPour) (tally : Nat) : yieldOf (applyTally p tally s).seq = yieldOf s.seq := by
  simp [applyTally]

@[simp] theorem yieldOf_acknowledge (pour : Nat) : yieldOf (acknowledge pour s).seq = yieldOf s.seq := by
  simp only [acknowledge]; (repeat' split) <;> simp

@[simp] theorem yieldOf_ackExpires (p : CurrentPour) : yieldOf (ackExpires p s).seq = yieldOf s.seq := by simp [ackExpires]

@[simp] theorem yieldOf_beginOperation (p : OpParams) : yieldOf (beginOperation p s).seq = yieldOf s.seq := by
  simp [beginOperation, beginGainAndStage]

@[simp] theorem yieldOf_withdrawData (before : State) : yieldOf (withdrawData before s).seq = yieldOf s.seq := by
  simp [withdrawData]

@[simp] theorem yieldOf_uncommit (before : State) : yieldOf (uncommit before s).seq = yieldOf s.seq := by
  simp only [uncommit]; split <;> simp

@[simp] theorem yieldOf_enforceTables (before : State) : yieldOf (enforceTables before s).seq = yieldOf s.seq := by
  simp [enforceTables]

@[simp] theorem data_hand (before : State) :
    ((withdrawData before s).console.state = s.console.state ∧
      (withdrawData before s).console.grantLine = s.console.grantLine) ∧
    ((uncommit before s).console.state = s.console.state ∧ (uncommit before s).console.grantLine = s.console.grantLine) ∧
    ((enforceTables before s).console.state = s.console.state ∧
      (enforceTables before s).console.grantLine = s.console.grantLine) := by
  refine ⟨by simp [withdrawData], ?_, by simp [enforceTables]⟩
  simp only [uncommit]; split <;> simp [withdrawData]

@[simp] theorem beginOperation_hand (p : OpParams) : (beginOperation p s).console.state = s.console.state ∧
    (beginOperation p s).console.grantLine = s.console.grantLine := by
  simp [beginOperation, beginGauges]

theorem sameHandover_tick : SameHandover s (tick s) := by
  have hcore (c : SeqCore) : c.tick.state = c.state := by
    unfold SeqCore.tick; split <;> rfl
  simp [tick, pumps, hcore]

end

/-! ## The walk of a Sequencer that is not YIELDED (R126) -/

section
variable {s : State}

theorem sameHandover_trans {a b c : State} (h : SameHandover a b) (k : SameHandover b c) : SameHandover a c :=
  ⟨k.1.trans h.1, k.2.1.trans h.2.1, k.2.2.trans h.2.2⟩

theorem yieldOf_completeSeq (h : (yieldOf s.seq).yielded = false) : yieldOf (completeSeq s).seq = yieldOf s.seq := by
  simpa [completeSeq] using yieldOf_core_of_not (by simp) h

theorem yieldOf_nextStep (h : (yieldOf s.seq).yielded = false) : yieldOf (nextStep s).1.seq = yieldOf s.seq := by
  simp only [nextStep, endPass]
  split
  · simp
  · split
    · exact (yieldOf_completeSeq (by rwa [yieldOf_countPass])).trans (yieldOf_countPass s)
    · exact (yieldOf_setCore rfl).trans (yieldOf_countPass s)

theorem yieldOf_judgeLeaving (await : Bool) (p : Progress) (h : (yieldOf s.seq).yielded = false) :
    yieldOf (judgeLeaving await p s).1.seq = yieldOf s.seq := by
  simp only [judgeLeaving]
  split
  · exact yieldOf_suspendSeq _ _ _ h
  · split
    · simp
    · split
      · simp
      · split
        · simp
        · exact yieldOf_nextStep h

theorem yieldOf_judgeLeaving_of {u : State} (await : Bool) (p : Progress) (hu : yieldOf u.seq = yieldOf s.seq)
    (h : (yieldOf s.seq).yielded = false) : yieldOf (judgeLeaving await p u).1.seq = yieldOf s.seq :=
  (yieldOf_judgeLeaving await p (by rwa [hu])).trans hu

theorem yieldOf_present (r : StartReq) (await : Bool) (h : (yieldOf s.seq).yielded = false) :
    yieldOf (present r await s).1.seq = yieldOf s.seq := by
  simp only [present]
  split
  · next st _ =>
    have hset : yieldOf (acceptStart .program (some s.seq.core.pointer) st s).seq = yieldOf s.seq := yieldOf_acceptStart ..
    exact yieldOf_judgeLeaving_of _ _ (Eq.trans (yieldOf_setCore rfl) hset) h
  · simp
  · simp
  · exact yieldOf_suspendSeq _ _ _ h

theorem sameHandover_takeStep (h : (yieldOf s.seq).yielded = false) : SameHandover s (takeStep s).1 := by
  simp only [takeStep]
  split
  · split
    · simp [yieldOf_judgeLeaving _ _ h]
    · simp [yieldOf_present _ _ h]
  · next d _ =>
    have hstop : (yieldOf (stopStep d s).seq).yielded = false := by rwa [yieldOf_stopStep]
    simp [yieldOf_nextStep hstop]
  · split
    · simp [yieldOf_nextStep h]
    · simp
  · split
    · simp [yieldOf_nextStep h]
    · simp
  · simp
  · next v _ =>
    have hstage : (yieldOf (setStage v s).seq).yielded = false := by rwa [yieldOf_setStage]
    simp [yieldOf_nextStep hstage]
  · have hpass : (yieldOf (countPass s).seq).yielded = false := by rwa [yieldOf_countPass]
    simp [endStep, yieldOf_completeSeq hpass]
  · simp

theorem sameHandover_walkSteps (n : Nat) (h : (yieldOf s.seq).yielded = false) : SameHandover s (walkSteps n s) := by
  induction n generalizing s with
  | zero => exact ⟨rfl, rfl, rfl⟩
  | succ n ih =>
    have hstep := sameHandover_takeStep h
    rw [walkSteps]
    split
    · next u hu =>
      rw [hu] at hstep
      exact sameHandover_trans hstep (ih (by rw [hstep.2.2]; exact h))
    · next u hu =>
      rw [hu] at hstep
      exact hstep

theorem sameHandover_walk (h : (yieldOf s.seq).yielded = false) : SameHandover s (walk s) := by
  have hwait : SameHandover s (waitFor .nothing s) := by simp
  exact sameHandover_trans hwait (sameHandover_walkSteps _ (by rwa [yieldOf_waitFor]))

theorem sameHandover_goOn {w : Walked} (h : SameHandover s w.1) (hn : (yieldOf s.seq).yielded = false) :
    SameHandover s w.goOn := by
  rw [Walked.goOn]
  split
  · exact sameHandover_trans h (sameHandover_walk (by rw [h.2.2]; exact hn))
  · exact h

theorem sameHandover_moveOn (h : (yieldOf s.seq).yielded = false) : SameHandover s (moveOn s) := by
  have hwait : (yieldOf (waitFor .nothing s).seq).yielded = false := by rwa [yieldOf_waitFor]
  exact sameHandover_goOn (by simp [yieldOf_nextStep hwait]) h

theorem sameHandover_resumeStep (h : (yieldOf s.seq).yielded = false) : SameHandover s (resumeStep s) := by
  simp only [resumeStep]
  split
  · split
    · exact sameHandover_moveOn h
    · simp
  · exact sameHandover_walk h

end

/-! ## What an act hands on (R125, R172, R176) -/

section
variable {s : State}

/-- What the Sequencer hears it acts on as RUNNING, SUSPENDING or SUSPENDED alone, and so never as YIELDED. -/
theorem sameHandover_sequencerHears (before : State) : SameHandover s (sequencerHears before s) := by
  simp only [sequencerHears]
  split
  · next hrun =>
    have hn : (yieldOf s.seq).yielded = false := not_yielded (by simp [hrun])
    split
    · split
      · exact sameHandover_walk hn
      · simp
    · split
      · exact sameHandover_walk hn
      · simp
    · exact sameHandover_walk hn
    · exact sameHandover_walk hn
    · exact sameHandover_walk hn
    · simp
    · simp
    · simp
  · next hsus =>
    have hn : (yieldOf s.seq).yielded = false := not_yielded (by simp [hsus])
    simp only [finishSuspending]
    (repeat' split) <;> simp [yieldOf_suspendSeq _ _ _ hn]
  · next hsus =>
    have hn : (yieldOf s.seq).yielded = false := not_yielded (by simp [hsus])
    simp only [hostToFault]
    (repeat' split) <;> simp [yieldOf_suspendSeq _ _ _ hn]
  all_goals simp

theorem sameHandover_hearRecord : SameHandover s (hearRecord s) := by
  simp only [hearRecord]
  split
  · split
    · next h => exact sameHandover_walk (not_yielded (by simp [h.1]))
    · simp
  · simp

/-- The grant asserts the line, saves a Sequencer that is not YIELDED and makes it YIELDED, in one act (R172, R144). -/
theorem consoleConsistent_grant (h : (yieldOf s.seq).yielded = false) : ConsoleConsistent (grant s) := by
  have hseq : (drivers.foldl handOver s).seq = s.seq := foldl_keep State.seq _ (by simp) _ _
  have hn : s.seq.core.state ≠ .yielded := by simpa [yieldOf] using h
  simpa [ConsoleConsistent, grant, yieldSeq, hseq] using hn

theorem consoleConsistent_judgeGrant (h : ConsoleConsistent s) : ConsoleConsistent (judgeGrant s) := by
  unfold judgeGrant
  split
  · next hreq => exact consoleConsistent_grant (not_yielded_of_console h (by simp [hreq.1]) (by simp [hreq.1]))
  · exact h

/-- AUTO and REQUESTED take each other's place (R171). -/
theorem consoleConsistent_setState {c : ConsoleState} (h : ConsoleConsistent s)
    (hs : s.console.state = .auto ∨ s.console.state = .requested) (hc : c = .auto ∨ c = .requested) :
    ConsoleConsistent (s.setConsole { s.console with state := c }) := by
  have hn := not_yielded_of_console h (by rcases hs with hs | hs <;> simp [hs]) (by rcases hs with hs | hs <;> simp [hs])
  obtain ⟨hline, -, hsaved, hfresh⟩ := consoleConsistent_iff.1 h
  refine consoleConsistent_iff.2 ⟨?_, ?_, hsaved, hfresh⟩
  · rcases hs with hs | hs <;> rcases hc with rfl | rfl <;> exact hline.trans (by rw [hs]; rfl)
  · rcases hc with rfl | rfl <;> simp [hn]

theorem consoleConsistent_requestRises (h : ConsoleConsistent s) (hs : s.console.state = .auto) :
    ConsoleConsistent (requestRises s) :=
  consoleConsistent_judgeGrant (consoleConsistent_setState h (.inl hs) (.inr rfl))

/-- In AUTO the return of the Sequencer leaves it in its saved state, which is not YIELDED, with nothing saved (R144). -/
theorem consoleConsistent_returnSeq {c : SeqCore} (hsaved : s.seq.saved = some c) (hc : c.state ≠ .yielded)
    (hs : s.console.state = .auto) (hline : s.console.grantLine = false) :
    ConsoleConsistent (returnSeq s) ∧ (returnSeq s).console.state = .auto := by
  have hback : ConsoleConsistent { s with seq := { s.seq with core := c, saved := none } } := by
    simp [ConsoleConsistent, hs, hline, hc]
  simp only [returnSeq, hsaved]
  split
  · have hwalk := sameHandover_resumeStep (s := { s with seq := { s.seq with core := c, saved := none } }) (not_yielded hc)
    exact ⟨consoleConsistent_of_same hback hwalk, hwalk.1.trans hs⟩
  · exact ⟨hback, hs⟩

theorem consoleConsistent_endReconciling (h : ConsoleConsistent s) : ConsoleConsistent (endReconciling s) := by
  unfold endReconciling
  split
  · next hrec =>
    obtain ⟨hline, hy, hsaved, hfresh⟩ := h
    obtain ⟨c, hc⟩ := Option.isSome_iff_exists.1 (hsaved.2 (hy.2 (.inr hrec.1)))
    have hback := consoleConsistent_returnSeq
      (s := s.setConsole
        { s.console with
          state := .auto, snapshot := none, handed := SixOf.all none, reached := SixOf.all false
          closing := SixOf.all false })
      hc (hfresh c hc) rfl (hline.trans (by rw [hrec.1]; rfl))
    simp only
    split
    · exact consoleConsistent_requestRises hback.1 hback.2
    · exact hback.1
  · exact h

theorem consoleConsistent_settle (before : State) (h : ConsoleConsistent s) : ConsoleConsistent (settle before s) :=
  consoleConsistent_judgeGrant
    (consoleConsistent_endReconciling (consoleConsistent_of_same h (sameHandover_sequencerHears before)))

theorem consoleConsistent_settle_of_same {u : State} (before : State) (h : ConsoleConsistent s) (hu : SameHandover s u) :
    ConsoleConsistent (settle before u) :=
  consoleConsistent_settle before (consoleConsistent_of_same h hu)

theorem sameHandover_carryOut (j : Driver × Option EndReason) : SameHandover s (carryOut s j) := by
  simp only [carryOut, endHanded, resumeTransfer]; (repeat' split) <;> simp

/-- The release de-energises the line and leaves the Sequencer YIELDED to the end of RECONCILING (R174, R176). -/
theorem consoleConsistent_releaseConsole (h : ConsoleConsistent s) (hs : s.console.state = .granted) :
    ConsoleConsistent (releaseConsole s) := by
  obtain ⟨-, hy, hsaved, hfresh⟩ := h
  have hreleased : ConsoleConsistent (s.setConsole
      { s.console with grantLine := false, releaseStamp := some s.time.port, state := .reconciling }) :=
    ⟨rfl, by simp [hy, hs], hsaved, hfresh⟩
  have hcarried (l : List (Driver × Option EndReason)) (u : State) : SameHandover u (l.foldl carryOut u) :=
    ⟨foldl_keep (fun u => u.console.state) _ (fun _ j => (sameHandover_carryOut j).1) _ _,
      foldl_keep (fun u => u.console.grantLine) _ (fun _ j => (sameHandover_carryOut j).2.1) _ _,
      foldl_keep (fun u => yieldOf u.seq) _ (fun _ j => (sameHandover_carryOut j).2.2) _ _⟩
  refine consoleConsistent_endReconciling (consoleConsistent_of_same hreleased ?_)
  simp [sameHandover_iff.1 (hcarried _ _)]

end

/-! ## Requests -/

section
variable (args : List Byte) (s : State)

theorem sameHandover_wselMsg : SameHandover s (wselMsg args s).state := by
  simp only [wselMsg]; (repeat' split) <;> simp

theorem sameHandover_storeRows (w : Window) (k : Nat) : SameHandover s (storeRows w k args s) := by
  rw [storeRows, writeRows_only]
  simp only
  split <;> simp [withRows]

theorem sameHandover_wputMsg : SameHandover s (wputMsg args s).state := by
  simp only [wputMsg]
  (repeat' split) <;> simp [sameHandover_iff.1 (sameHandover_storeRows ..)]

theorem sameHandover_wgetMsg : SameHandover s (wgetMsg args s).state := by
  simp only [wgetMsg]; (repeat' split) <;> simp

theorem sameHandover_smskMsg : SameHandover s (smskMsg args s).state := by
  simp only [smskMsg]; (repeat' split) <;> simp

theorem sameHandover_tdenMsg : SameHandover s (tdenMsg args s).state := by
  simp only [tdenMsg]; (repeat' split) <;> simp [setDensity, resnapTank_eq]

theorem sameHandover_fixmMsg : SameHandover s (fixmMsg args s).state := by
  simp only [fixmMsg]; (repeat' split) <;> simp [setFixed]

theorem sameHandover_tideMsg : SameHandover s (tideMsg args s).state := by
  simp only [tideMsg]; (repeat' split) <;> simp

theorem sameHandover_stprMsg : SameHandover s (stprMsg args s).state := by
  simp only [stprMsg]; (repeat' split) <;> simp

theorem sameHandover_xstaMsg : SameHandover s (xstaMsg args s).state := by
  simp only [xstaMsg]; (repeat' split) <;> simp

theorem sameHandover_valvMsg : SameHandover s (valvMsg args s).state := by
  simp only [valvMsg, closeValve, queryValve]; (repeat' split) <;> simp

theorem sameHandover_vclrMsg : SameHandover s (vclrMsg args s).state := by
  simp only [vclrMsg, clearValve]; (repeat' split) <;> simp

theorem sameHandover_plxcMsg : SameHandover s (plxcMsg args s).state := by
  simp only [plxcMsg]; (repeat' split) <;> simp

theorem sameHandover_hsetMsg : SameHandover s (hsetMsg args s).state := by
  simp only [hsetMsg]; (repeat' split) <;> simp

theorem sameHandover_opbgMsg : SameHandover s (opbgMsg args s).state := by
  simp only [opbgMsg]; (repeat' split) <;> simp

theorem sameHandover_opndMsg : SameHandover s (opndMsg args s).state := by
  simp only [opndMsg]; (repeat' split) <;> simp

theorem sameHandover_lpstMsg : SameHandover s (lpstMsg args s).state := by
  simp only [lpstMsg, startReported, refuseLoader]; (repeat' split) <;> simp

theorem sameHandover_ltalMsg : SameHandover s (ltalMsg args s).state := by
  simp only [ltalMsg, refuseLoader]; (repeat' split) <;> simp

theorem sameHandover_lhakMsg : SameHandover s (lhakMsg args s).state := by
  simp only [lhakMsg]; (repeat' split) <;> simp

theorem sameHandover_rptbMsg : SameHandover s (rptbMsg args s).state := by
  simp only [rptbMsg, buildReport]; (repeat' split) <;> simp

theorem sameHandover_storeEnables (e : BitVec 8) : SameHandover s (storeEnables e s) :=
  ⟨foldl_keep (fun u => u.console.state) _ (by simp) _ _, foldl_keep (fun u => u.console.grantLine) _ (by simp) _ _,
    foldl_keep (fun u => yieldOf u.seq) _ (by simp) _ _⟩

theorem sameHandover_ntenMsg : SameHandover s (ntenMsg args s).state := by
  simp only [ntenMsg]; (repeat' split) <;> simp [sameHandover_iff.1 (sameHandover_storeEnables ..)]

theorem sameHandover_clksMsg : SameHandover s (clksMsg args s).state := by
  simp only [clksMsg]; (repeat' split) <;> simp [setClock]

end

/-! The requests of the Sequencer, and those that settle what their act hands on. -/

section
variable (args : List Byte) {s : State}

/-- The Sequencer takes a core of its own state rules: neither it nor the one before is YIELDED. -/
theorem sameHandover_setCore {c : SeqCore} (hc : c.state ≠ .yielded) (h : s.seq.core.state ≠ .yielded) :
    SameHandover s (s.setCore c) :=
  ⟨rfl, rfl, yieldOf_core_of_not hc (not_yielded h)⟩

theorem consoleConsistent_answer {l : Link} {m : Mnem} {a : Answer} (h : ConsoleConsistent a.state) :
    ConsoleConsistent (answer l m a) := consoleConsistent_of_same h (by simp [answer_eq_replied])

theorem consoleConsistent_xstpMsg (h : ConsoleConsistent s) : ConsoleConsistent (xstpMsg args s).state := by
  simp only [xstpMsg]
  split
  · exact h
  · split
    · exact h
    · split
      · exact h
      · split
        · exact consoleConsistent_settle_of_same _ h (by simp)
        · exact h

theorem sameHandover_sqxcMsg (s : State) : SameHandover s (sqxcMsg args s).state := by
  simp only [sqxcMsg]
  split
  · simp
  · split
    · simp
    · next hex =>
      have hn : s.seq.core.state ≠ .yielded := fun hy => hex (by rw [hy]; rfl)
      split
      · simp
      · exact ⟨rfl, rfl, by simp [swapPrograms, yieldOf, hn, SeqCore.fresh]⟩

theorem consoleConsistent_sqgoMsg (h : ConsoleConsistent s) : ConsoleConsistent (sqgoMsg args s).state := by
  simp only [sqgoMsg]
  split
  · exact h
  · split
    · exact h
    · next hready =>
      have hn : s.seq.core.state ≠ .yielded := fun hy => hready (by simp [hy])
      split
      · exact h
      · have hfresh := sameHandover_setCore (c := SeqCore.fresh .running) (by simp [SeqCore.fresh]) hn
        have hwalk : SameHandover s (runFromStart s) :=
          sameHandover_trans hfresh (sameHandover_walk (not_yielded (by simp [SeqCore.fresh])))
        exact consoleConsistent_judgeGrant (consoleConsistent_of_same h hwalk)

theorem sameHandover_sqpsMsg (s : State) : SameHandover s (sqpsMsg args s).state := by
  simp only [sqpsMsg]
  split
  · simp
  · split
    · next hrun =>
      have hn : s.seq.core.state ≠ .yielded := by simp [hrun]
      simp only [done_state, suspendHost]
      split
      · exact sameHandover_setCore (by simp) hn
      · simp [yieldOf_suspendSeq _ _ _ (not_yielded hn)]
    all_goals simp

theorem sameHandover_resumeBy (why : SuspendReason) (h : (yieldOf s.seq).yielded = false) :
    SameHandover s (resumeBy why s) := by
  have hhost : SameHandover s (resumeHost s) := by
    simp only [resumeHost]
    split
    · have hset : SameHandover s (s.setCore { s.seq.core with interval := ticks (headInterval s.seq.active) }) := by simp
      exact sameHandover_trans hset (sameHandover_walk (by rwa [hset.2.2]))
    · exact sameHandover_resumeStep h
  cases why with
  | host | nothing => exact hhost
  | stepRefused | deadlock => exact sameHandover_walk h
  | transferFault => exact sameHandover_moveOn h

theorem consoleConsistent_sqrsMsg (h : ConsoleConsistent s) : ConsoleConsistent (sqrsMsg args s).state := by
  have hrun (w : WaitReason) (hn : s.seq.core.state ≠ .yielded) : SameHandover s (unsuspend w s) :=
    sameHandover_setCore (by simp) hn
  simp only [sqrsMsg]
  split
  · exact h
  · split
    · next hs => exact consoleConsistent_of_same h (hrun .opening (by simp [hs]))
    · next hs =>
      have hresumed := sameHandover_resumeBy s.seq.core.suspend (s := unsuspend .nothing s) (not_yielded (by simp [unsuspend]))
      exact consoleConsistent_judgeGrant
        (consoleConsistent_of_same h (sameHandover_trans (hrun .nothing (by simp [hs])) hresumed))
    all_goals exact h

theorem consoleConsistent_sqabMsg (h : ConsoleConsistent s) : ConsoleConsistent (sqabMsg args s).state := by
  simp only [sqabMsg]
  split
  · exact h
  · split
    · exact h
    · next hauto =>
      have hs : s.console.state = .auto := not_not.1 hauto
      have hn : s.seq.core.state ≠ .yielded := by
        simpa [yieldOf] using not_yielded_of_console h (by simp [hs]) (by simp [hs])
      have hready : SameHandover s (readySeq s) := sameHandover_setCore (by simp [SeqCore.fresh]) hn
      split
      · exact h
      · exact consoleConsistent_settle_of_same _ h (sameHandover_trans hready (by simp))

theorem sameHandover_endPour (p : CurrentPour) (tally : Nat) (s : State) : SameHandover s (endPour p tally s) := by
  have hrecord (q : CurrentPour) (u : State) : SameHandover u (recordPour q u) :=
    have hwrite : SameHandover u (writeRecord q (u.setTracker { u.tracker with ack := none })) := by simp
    sameHandover_trans hwrite sameHandover_hearRecord
  simp [endPour, sameHandover_iff.1 (hrecord _ _)]

theorem consoleConsistent_lpndMsg (h : ConsoleConsistent s) : ConsoleConsistent (lpndMsg args s).state := by
  simp only [lpndMsg]
  split
  · split
    · exact h
    · split
      · next p _ =>
        rw [done_state]
        exact consoleConsistent_judgeGrant (consoleConsistent_of_same h (sameHandover_endPour p _ s))
      · exact consoleConsistent_of_same h (by simp [refuseLoader])
  · exact h

/-- While YIELDED the restart keeps the state YIELDED and saves a state that is not (R146; log entry 47). -/
theorem consoleConsistent_restartSeq (h : ConsoleConsistent s) : ConsoleConsistent (restartSeq s) := by
  obtain ⟨hline, hy, -, -⟩ := h
  have hfresh : restartSeqState s.seq.active ≠ .yielded := by unfold restartSeqState; split <;> simp
  unfold restartSeq
  split
  · next hs =>
    exact ⟨hline, by simpa [hs, SeqCore.fresh] using hy, by simp [SeqCore.fresh], by simpa [SeqCore.fresh] using hfresh⟩
  · next hs => exact ⟨hline, by simpa [hs, hfresh, SeqCore.fresh] using hy, by simp [hfresh, SeqCore.fresh], by simp⟩

theorem consoleConsistent_restart (h : ConsoleConsistent s) : ConsoleConsistent (restart s) := by
  have hbefore : SameHandover s (restartSweep (restartEngine (emptyNotices (restartLink .shore (restartLink .ship s))))) := by
    simp [restartSweep, restartEngine, emptyNotices, restartLink]
  have hseq := consoleConsistent_restartSeq (consoleConsistent_of_same h hbefore)
  exact consoleConsistent_settle_of_same _ hseq (by simp [restartTransfers])

theorem consoleConsistent_rstrAct (l : Link) (h : ConsoleConsistent s) : ConsoleConsistent (rstrAct l args s) := by
  simp only [rstrAct]
  split
  · exact consoleConsistent_answer h
  · exact consoleConsistent_restart (consoleConsistent_answer h)

theorem consoleConsistent_sdcmAct (l : Link) (h : ConsoleConsistent s) : ConsoleConsistent (sdcmAct l args s) := by
  simp only [sdcmAct]
  split
  · exact consoleConsistent_answer h
  · exact consoleConsistent_of_same h (by simp)

/-- A request carried out keeps the console and the Sequencer together (R198). -/
theorem consoleConsistent_perform (m : Mnem) (l : Link) (h : ConsoleConsistent s) :
    ConsoleConsistent (perform m l args s) := by
  have ofSame {a : Answer} (ha : SameHandover s a.state) : ConsoleConsistent (answer l m a) :=
    consoleConsistent_answer (consoleConsistent_of_same h ha)
  cases m with
  | tank | metr | cond | proj | lims | xfer | seqq | pour | phis | rptg | dlog | stat => exact ofSame (by simp [queries_state])
  | wsel => exact ofSame (sameHandover_wselMsg args s)
  | wput => exact ofSame (sameHandover_wputMsg args s)
  | wget => exact ofSame (sameHandover_wgetMsg args s)
  | sdcm => exact consoleConsistent_sdcmAct args l h
  | smsk => exact ofSame (sameHandover_smskMsg args s)
  | tden => exact ofSame (sameHandover_tdenMsg args s)
  | fixm => exact ofSame (sameHandover_fixmMsg args s)
  | tide => exact ofSame (sameHandover_tideMsg args s)
  | stpr => exact ofSame (sameHandover_stprMsg args s)
  | xsta => exact ofSame (sameHandover_xstaMsg args s)
  | xstp => exact consoleConsistent_answer (consoleConsistent_xstpMsg args h)
  | valv => exact ofSame (sameHandover_valvMsg args s)
  | vclr => exact ofSame (sameHandover_vclrMsg args s)
  | sqxc => exact ofSame (sameHandover_sqxcMsg args s)
  | sqgo => exact consoleConsistent_answer (consoleConsistent_sqgoMsg args h)
  | sqps => exact ofSame (sameHandover_sqpsMsg args s)
  | sqrs => exact consoleConsistent_answer (consoleConsistent_sqrsMsg args h)
  | sqab => exact consoleConsistent_answer (consoleConsistent_sqabMsg args h)
  | opbg => exact ofSame (sameHandover_opbgMsg args s)
  | opnd => exact ofSame (sameHandover_opndMsg args s)
  | plxc => exact ofSame (sameHandover_plxcMsg args s)
  | hset => exact ofSame (sameHandover_hsetMsg args s)
  | lpst => exact ofSame (sameHandover_lpstMsg args s)
  | ltal => exact ofSame (sameHandover_ltalMsg args s)
  | lpnd => exact consoleConsistent_answer (consoleConsistent_lpndMsg args h)
  | lhak => exact ofSame (sameHandover_lhakMsg args s)
  | rptb => exact ofSame (sameHandover_rptbMsg args s)
  | nten => exact ofSame (sameHandover_ntenMsg args s)
  | clks => exact ofSame (sameHandover_clksMsg args s)
  | rstr => exact consoleConsistent_rstrAct args l h

end

/-! ## The links -/

section
variable {s : State} (l : Link)

theorem consoleConsistent_setLink (x : LinkState) (h : ConsoleConsistent s) : ConsoleConsistent (s.setLink l x) :=
  consoleConsistent_of_same h (by simp)

theorem consoleConsistent_serve (h : ConsoleConsistent s) : ConsoleConsistent (serve l s) := by
  have hjudged (payload : List Byte) {u : State} (hu : ConsoleConsistent u) : ConsoleConsistent (judgeRequest l payload u) := by
    simp only [judgeRequest]
    split
    · exact consoleConsistent_setLink l _ hu
    · split
      · exact consoleConsistent_perform _ _ l hu
      · exact consoleConsistent_setLink l _ hu
  simp only [serve]
  split
  · split
    · exact hjudged _ (consoleConsistent_setLink l _ h)
    · exact h
  · exact h

theorem consoleConsistent_requestArrives (payload : List Byte) (h : ConsoleConsistent s) :
    ConsoleConsistent (requestArrives l payload s) := by
  simp only [requestArrives]
  split
  · exact consoleConsistent_serve l (consoleConsistent_setLink l _ h)
  · exact consoleConsistent_setLink l _ h

theorem consoleConsistent_unlessHeld {f : State → State} (h : ConsoleConsistent s) (hf : ConsoleConsistent (f s)) :
    ConsoleConsistent (unlessHeld f s) := by
  simp only [unlessHeld]
  split
  · exact h
  · exact hf

theorem consoleConsistent_presentRequest (m : Mnem) (args : List Byte) (h : ConsoleConsistent s) :
    ConsoleConsistent (presentRequest l m args s) := by
  simp only [presentRequest]
  split
  · exact consoleConsistent_unlessHeld h (consoleConsistent_requestArrives l _ h)
  · exact h

theorem consoleConsistent_takeByte (b : Byte) (h : ConsoleConsistent s) : ConsoleConsistent (takeByte l b s) := by
  have hset (r : Receiver) : ConsoleConsistent (s.setReceiver l r) := consoleConsistent_setLink l _ h
  have hframe (got : List Byte) : ConsoleConsistent (frameByte l got s) := by
    simp only [frameByte]
    split
    · exact hset _
    · split
      · split
        · exact consoleConsistent_requestArrives l _ (hset _)
        · exact hset _
      · exact hset _
  simp only [takeByte]
  split
  · exact hset _
  · split
    · exact hset _
    · exact hframe _

theorem consoleConsistent_abandonFrame (h : ConsoleConsistent s) : ConsoleConsistent (abandonFrame l s) := by
  simp only [abandonFrame]
  split
  · exact consoleConsistent_setLink l _ h
  · exact h

theorem consoleConsistent_frameSent (h : ConsoleConsistent s) : ConsoleConsistent (frameSent l s) := by
  simp only [frameSent]
  split
  · exact consoleConsistent_serve l (consoleConsistent_setLink l _ h)
  · exact h

theorem sameHandover_sendShipNotice (s : State) : SameHandover s (sendShipNotice s) := by
  simp only [sendShipNotice]; (repeat' split) <;> simp

theorem sameHandover_sendShoreNotice (s : State) : SameHandover s (sendShoreNotice s) := by
  simp only [sendShoreNotice]; (repeat' split) <;> simp

end

/-! ## The events of the part -/

section
variable (s : State)

/-- A hardware reset brings the console and the Sequencer of the state after reset, and a request that stands is then taken
(R179, R207). -/
theorem consoleConsistent_resetPart (held strapA strapB : Bool) : ConsoleConsistent (resetPart held strapA strapB s) := by
  have hblocks : ConsoleConsistent (resetBlocks (setResetInputs held strapA strapB s)) :=
    consoleConsistent_of_same consoleConsistent_reset ⟨rfl, rfl, rfl⟩
  simp only [resetPart]
  split
  · exact hblocks
  · simp only [endReset]
    split
    · exact consoleConsistent_requestRises (consoleConsistent_of_same hblocks ⟨rfl, rfl, rfl⟩) rfl
    · exact consoleConsistent_of_same hblocks ⟨rfl, rfl, rfl⟩

variable {s}

theorem consoleConsistent_endVerification (h : ConsoleConsistent s) : ConsoleConsistent (endVerification s) := by
  simp only [endVerification]
  split
  · exact consoleConsistent_of_same h (by simp)
  · exact consoleConsistent_settle_of_same _ h (by simp)

theorem consoleConsistent_commitEnds (h : ConsoleConsistent s) : ConsoleConsistent (commitEnds s) := by
  have hended : ConsoleConsistent (endCommit s) := consoleConsistent_of_same h (by simp)
  have hpasses : ConsoleConsistent (commitPasses (endCommit s)) := by
    refine consoleConsistent_settle_of_same _ hended ?_
    simp only [resetForCommit]; split <;> simp
  have hfails (f : FaultRecord) : ConsoleConsistent (commitFails f (endCommit s)) := by
    simp only [commitFails]
    split
    · exact consoleConsistent_settle_of_same _ hended (by simp)
    · exact consoleConsistent_of_same hended (by simp)
  simp only [commitEnds]
  split
  · refine consoleConsistent_serve .shore ?_
    simp only [completeCommit]
    split
    · exact consoleConsistent_answer hpasses
    · exact consoleConsistent_answer (hfails _)
  · exact h

theorem consoleConsistent_finishSweep (h : ConsoleConsistent s) : ConsoleConsistent (finishSweep s) := by
  have hend : ConsoleConsistent (sweepEnd s) := consoleConsistent_settle_of_same _ h (by simp)
  exact consoleConsistent_of_same hend (by simp [finishSweep])

theorem consoleConsistent_takeReading (r : Reading) (h : ConsoleConsistent s) : ConsoleConsistent (takeReading r s) := by
  simp only [takeReading]
  split
  · exact consoleConsistent_of_same h (by simp)
  · exact consoleConsistent_finishSweep (consoleConsistent_of_same h (by simp))

theorem consoleConsistent_acceptAnswer (a : SensorAnswer) (h : ConsoleConsistent s) :
    ConsoleConsistent (acceptAnswer a s) := by
  simp only [acceptAnswer]
  split
  · split
    · exact consoleConsistent_takeReading _ h
    · exact h
  · exact h

theorem consoleConsistent_primingExpires (p : Pump) (h : ConsoleConsistent s) : ConsoleConsistent (primingExpires p s) := by
  simp only [primingExpires]
  split
  · exact consoleConsistent_settle_of_same _ h (by simp)
  · exact h

theorem consoleConsistent_flowExpires (p : Pump) (h : ConsoleConsistent s) : ConsoleConsistent (flowExpires p s) := by
  simp only [flowExpires]
  split
  · exact consoleConsistent_settle_of_same _ h (by simp)
  · exact h

theorem consoleConsistent_feedbackFalls (p : Pump) (h : ConsoleConsistent s) : ConsoleConsistent (feedbackFalls p s) := by
  simp only [feedbackFalls]
  split
  · exact consoleConsistent_settle_of_same _ h (by simp [setFeedback])
  · exact h

theorem consoleConsistent_limitsChange (ch : Nat) (openMade closedMade : Bool) (h : ConsoleConsistent s) :
    ConsoleConsistent (limitsChange ch openMade closedMade s) := by
  simp only [limitsChange]
  split
  · exact consoleConsistent_settle_of_same _ h (by simp)
  · exact consoleConsistent_of_same h (by simp)

theorem consoleConsistent_travelExpires (ch : Nat) (h : ConsoleConsistent s) : ConsoleConsistent (travelExpires ch s) := by
  simp only [travelExpires]
  split
  · exact consoleConsistent_settle_of_same _ h (by simp)
  · exact h

theorem consoleConsistent_intervalExpires (h : ConsoleConsistent s) : ConsoleConsistent (intervalExpires s) := by
  have hzero : SameHandover s (s.setCore { s.seq.core with interval := 0 }) := by simp
  simp only [intervalExpires]
  split
  · next hrun _ =>
    have hn : (yieldOf s.seq).yielded = false := not_yielded (by simp [hrun])
    exact consoleConsistent_judgeGrant
      (consoleConsistent_of_same h (sameHandover_trans hzero (sameHandover_walk (by rwa [hzero.2.2]))))
  · exact consoleConsistent_of_same h hzero
  · exact h

theorem consoleConsistent_dwellExpires (h : ConsoleConsistent s) : ConsoleConsistent (dwellExpires s) := by
  have hzero : SameHandover s (s.setCore { s.seq.core with dwell := 0 }) := by simp
  simp only [dwellExpires]
  split
  · next hrun =>
    have hn : (yieldOf s.seq).yielded = false := not_yielded (by simp [hrun.1])
    exact consoleConsistent_judgeGrant
      (consoleConsistent_of_same h (sameHandover_trans hzero (sameHandover_moveOn (by rwa [hzero.2.2]))))
  · exact h

theorem consoleConsistent_refreshEnds (h : ConsoleConsistent s) : ConsoleConsistent (refreshEnds s) := by
  simp only [refreshEnds]
  split
  · split
    · next c _ _ _ =>
      have hpublish : SameHandover s (handPublish (publishedOf s c) (publish (publishedOf s c) s)) := by
        simp [handPublish, transferPublish, publish]
      exact consoleConsistent_of_same (consoleConsistent_settle_of_same s h hpublish)
        (by simp [completeRefresh, freeEngine])
    · exact h
  · exact h

theorem sameHandover_projectionEnds (s : State) : SameHandover s (projectionEnds s) := by
  simp only [projectionEnds, completeProjection, freeEngine, acceptResult]
  (repeat' split) <;> simp

theorem consoleConsistent_consoleRises (h : ConsoleConsistent s) : ConsoleConsistent (consoleRises s) := by
  have hset : ConsoleConsistent (setRequest true s) := consoleConsistent_of_same h ⟨rfl, rfl, rfl⟩
  simp only [consoleRises]
  split
  · next hs => exact consoleConsistent_unlessHeld hset (consoleConsistent_requestRises hset hs)
  all_goals exact hset

theorem consoleConsistent_consoleDrops (h : ConsoleConsistent s) : ConsoleConsistent (consoleDrops s) := by
  have hset : ConsoleConsistent (setRequest false s) := consoleConsistent_of_same h ⟨rfl, rfl, rfl⟩
  simp only [consoleDrops]
  split
  · next hs => exact consoleConsistent_setState hset (.inr hs) (.inl rfl)
  · next hs => exact consoleConsistent_releaseConsole hset hs
  all_goals exact hset

theorem sameHandover_ackRunsOut (s : State) : SameHandover s (ackRunsOut s) := by
  simp only [ackRunsOut]; split <;> simp

theorem sameHandover_passMillisecond (s : State) : SameHandover s (passMillisecond s) := by
  simp only [passMillisecond, unlessHeld, countTime]
  (repeat' split) <;> simp [sameHandover_iff.1 (sameHandover_tick _), passWindows, countMs]

end

/-! ## Every command and every step -/

/-- Every command keeps the console and the Sequencer together. -/
theorem consoleConsistent_exec (i : Instr) {s : State} (h : ConsoleConsistent s) :
    ∃ t, exec i s = .next t ∧ ConsoleConsistent t := by
  cases hq : i.request? with
  | some r =>
    obtain ⟨m, l, args⟩ := r
    rw [eq_command_of_request? hq, exec_command]
    exact ⟨_, rfl, consoleConsistent_presentRequest l m args h⟩
  | none =>
    have ofSame {t : State} (ht : SameHandover s t) :
        ∃ t', (.next t : Host.Outcome State Fault Refusal) = .next t' ∧ ConsoleConsistent t' :=
      ⟨t, rfl, consoleConsistent_of_same h ht⟩
    cases i
    case hardwareReset held straps => exact ⟨_, rfl, consoleConsistent_resetPart s held straps.a straps.b⟩
    case verificationEnd =>
      refine ⟨_, rfl, consoleConsistent_unlessHeld h ?_⟩
      split
      · exact consoleConsistent_endVerification h
      · exact h
    case frameByteReceived l b => exact ⟨_, rfl, consoleConsistent_unlessHeld h (consoleConsistent_takeByte l b h)⟩
    case byteGapExpiry l => exact ⟨_, rfl, consoleConsistent_abandonFrame l h⟩
    case transmitFrameEnd l => exact ⟨_, rfl, consoleConsistent_frameSent l h⟩
    case shipNoticeSend => exact ofSame (sameHandover_sendShipNotice s)
    case shoreNoticeSend => exact ofSame (sameHandover_sendShoreNotice s)
    case commitComplete => exact ⟨_, rfl, consoleConsistent_commitEnds h⟩
    case sensorAnswer a => exact ⟨_, rfl, consoleConsistent_acceptAnswer a h⟩
    case replyWindowExpiry =>
      refine ⟨_, rfl, ?_⟩
      split
      · exact consoleConsistent_takeReading _ h
      · exact h
    case sweepCountdownExpiry =>
      refine ⟨_, rfl, ?_⟩
      split
      · exact consoleConsistent_finishSweep h
      · exact h
    case meterPulse p => exact ⟨_, rfl, consoleConsistent_unlessHeld h (consoleConsistent_settle_of_same s h (by simp))⟩
    case secondBoundary => exact ⟨_, rfl, consoleConsistent_unlessHeld h (consoleConsistent_of_same h (by simp))⟩
    case primingExpiry p => exact ⟨_, rfl, consoleConsistent_primingExpires p h⟩
    case noFlowExpiry p => exact ⟨_, rfl, consoleConsistent_flowExpires p h⟩
    case runningFeedbackFall p => exact ⟨_, rfl, consoleConsistent_feedbackFalls p h⟩
    case limitInputChange ch a b => exact ⟨_, rfl, consoleConsistent_limitsChange ch a b h⟩
    case valveTravelExpiry ch => exact ⟨_, rfl, consoleConsistent_travelExpires ch h⟩
    case intervalExpiry => exact ⟨_, rfl, consoleConsistent_intervalExpires h⟩
    case dwellExpiry => exact ⟨_, rfl, consoleConsistent_dwellExpires h⟩
    case ackExpiry => exact ofSame (sameHandover_ackRunsOut s)
    case refreshComplete => exact ⟨_, rfl, consoleConsistent_refreshEnds h⟩
    case projectionComplete => exact ofSame (sameHandover_projectionEnds s)
    case consoleRequestRise => exact ⟨_, rfl, consoleConsistent_consoleRises h⟩
    case consoleRequestDrop => exact ⟨_, rfl, consoleConsistent_consoleDrops h⟩
    case runningFeedbackRise p => exact ofSame ⟨rfl, rfl, rfl⟩
    -- every other command is a request
    all_goals cases hq

/-- What falls due is a command, and a millisecond that passes moves no figure of the handover. -/
theorem consoleConsistent_step {s : State} (h : ConsoleConsistent s) : ∃ t, step s = .next t ∧ ConsoleConsistent t := by
  unfold step
  split
  · next c rest _ => exact consoleConsistent_exec c (s := { s with pending := rest }) h
  · unfold idle
    split
    · exact consoleConsistent_exec _ h
    · exact ⟨_, rfl, consoleConsistent_of_same h (sameHandover_passMillisecond s)⟩

/-- Settles O58: an act keeps the console state, the grant line and the yield figures (`SameHandover`), or is one of the
console's own or a restart, each of which leaves the two together (`consoleConsistent_exec`). -/
theorem everyStepKeepsTheConsoleAndTheSequencerTogether :
    Obligations.EveryStepKeepsTheConsoleAndTheSequencerTogether := by
  intro s t h hstep
  obtain ⟨t', ht, hkept⟩ := consoleConsistent_step h
  obtain rfl : t' = t := by simpa using ht.symm.trans hstep
  exact hkept

/-! ## The valves at the take-back (R174) -/

/-- A valve that the release adopts from its feedback: assigned and not FAULT (R174). -/
abbrev Adoptable (s : State) (ch : Nat) : Prop := assigned s ch = true ∧ (s.valve ch).state ≠ .fault

/-- The record that the release leaves of a valve. -/
def takenBack (s : State) (ch : Nat) : Valve :=
  if Adoptable s ch then (s.valve ch).takeBack (feedback s ch) else s.valve ch

/-- The VALVE notice that the take-back of a valve raises. -/
def takeBackNotice (s : State) (ch : Nat) : Option Detail :=
  if Adoptable s ch then (feedback s ch).adopted.2.2.map fun why => .valve ch why (feedback s ch) (holderOf s ch) else none

/-- `t` is `s` but for the valve records and the notices pending. -/
def OnlyValvesAndNotices (s t : State) : Prop :=
  t = { s with xfer := { s.xfer with valves := t.xfer.valves }, links := { s.links with notices := t.links.notices } }

theorem OnlyValvesAndNotices.trans {s t v : State} (h : OnlyValvesAndNotices s t) (h' : OnlyValvesAndNotices t v) :
    OnlyValvesAndNotices s v := by
  rw [OnlyValvesAndNotices] at *
  rw [h', h]

theorem OnlyValvesAndNotices.keeps {s t : State} (h : OnlyValvesAndNotices s t) :
    t.store = s.store ∧ t.console = s.console := by
  rw [h]
  exact ⟨rfl, rfl⟩

theorem onlyValvesAndNotices_setValve (ch : Nat) (v : Valve) (s : State) : OnlyValvesAndNotices s (s.setValve ch v) := rfl

theorem onlyValvesAndNotices_raise (d : Detail) (s : State) : OnlyValvesAndNotices s (raise d s) := by
  unfold raise; split <;> rfl

section
variable (s : State) (ch : Nat)

theorem takeBackValve_adopts {s : State} {ch : Nat} (h : Adoptable s ch) : takeBackValve s ch =
    match takeBackNotice s ch with
    | some d => raise d (s.setValve ch (takenBack s ch))
    | none => s.setValve ch (takenBack s ch) := by
  have hc : ((s.valve ch).takeBack (feedback s ch)).cause = (feedback s ch).adopted.2.2 := rfl
  simp only [takeBackValve, takeBackNotice, takenBack, if_pos h, hc]
  cases (feedback s ch).adopted.2.2 <;> rfl

theorem takeBackValve_leaves {s : State} {ch : Nat} (h : ¬ Adoptable s ch) : takeBackValve s ch = s := if_neg h

theorem takeBackValve_only : OnlyValvesAndNotices s (takeBackValve s ch) := by
  by_cases h : Adoptable s ch
  · rw [takeBackValve_adopts h]
    have hset := onlyValvesAndNotices_setValve ch (takenBack s ch) s
    cases takeBackNotice s ch with
    | some d => exact hset.trans (onlyValvesAndNotices_raise d _)
    | none => exact hset
  · rw [takeBackValve_leaves h]; rfl

theorem takeBackValves_only : ∀ (l : List Nat) (s : State), OnlyValvesAndNotices s (l.foldl takeBackValve s)
  | [], _ => rfl
  | a :: l, s => (takeBackValve_only s a).trans (takeBackValves_only l _)

theorem takeBackValve_valve (k : Nat) :
    (takeBackValve s ch).valve k = if ch = k ∧ k < 38 then takenBack s k else s.valve k := by
  by_cases h : Adoptable s ch
  · have hset : (s.setValve ch (takenBack s ch)).valve k = if ch = k ∧ k < 38 then takenBack s k else s.valve k := by
      refine (Tab.get_set ..).trans (ite_congr rfl (fun hc => ?_) fun _ => rfl)
      rw [hc.1]
    rw [takeBackValve_adopts h, ← hset]
    cases takeBackNotice s ch with
    | some d => exact congrArg (fun x : TransferUnit => x.valves.get k) (by simp)
    | none => rfl
  · rw [takeBackValve_leaves h]
    split
    · next hc => rw [takenBack, ← hc.1, if_neg h]
    · rfl

theorem takeBackValve_links : (takeBackValve s ch).links =
    match takeBackNotice s ch with
    | some d => (raise d s).links
    | none => s.links := by
  by_cases h : Adoptable s ch
  · rw [takeBackValve_adopts h]
    cases takeBackNotice s ch with
    | some d => exact raise_links_congr d rfl
    | none => rfl
  · rw [takeBackValve_leaves h, takeBackNotice, if_neg h]

variable {s ch} {k : Nat}

/-- The take-back of a valve leaves all that the take-back of another reads. -/
theorem takeBackValve_reads (h : ch ≠ k) : (takeBackValve s ch).valve k = s.valve k ∧
    (Adoptable (takeBackValve s ch) k ↔ Adoptable s k) ∧ feedback (takeBackValve s ch) k = feedback s k ∧
    holderOf (takeBackValve s ch) k = holderOf s k := by
  have hv : (takeBackValve s ch).valve k = s.valve k := by rw [takeBackValve_valve, if_neg fun hc => h hc.1]
  have hx (d : Driver) : (takeBackValve s ch).transfer d = s.transfer d :=
    State.transfer_congr (by rw [takeBackValve_only s ch]) d
  refine ⟨hv, ?_, ?_, ?_⟩
  · simp [Adoptable, hv, assigned, dataValid]
  · simp [feedback]
  · simp [holderOf, hx, tankValve]

theorem takenBack_other (h : ch ≠ k) : takenBack (takeBackValve s ch) k = takenBack s k := by
  obtain ⟨hv, ha, hf, -⟩ := takeBackValve_reads (s := s) h
  simp only [takenBack, hv, ha, hf]

theorem takeBackNotice_other (h : ch ≠ k) : takeBackNotice (takeBackValve s ch) k = takeBackNotice s k := by
  obtain ⟨-, ha, hf, hh⟩ := takeBackValve_reads (s := s) h
  simp only [takeBackNotice, ha, hf, hh]

end

/-- The release leaves each valve as `takenBack` says. -/
theorem takeBackValves_valve (s : State) {k : Nat} (hk : k < 38) : (channels.foldl takeBackValve s).valve k = takenBack s k :=
  (foldl_once (g := fun u => u.valve k) (upd := fun u => takenBack u k)
    (fun u a => by simp only [takeBackValve_valve, hk, and_true]) (fun _ _ h => takenBack_other h) List.nodup_range s).trans
    (if_pos (List.mem_range.2 hk))

/-! The notices of the take-back: the last valve that becomes FAULT is the one whose detail VALVE keeps. -/

theorem takeBackValves_quiet : ∀ {l : List Nat} {s : State}, l.Nodup → (∀ c ∈ l, takeBackNotice s c = none) →
    (l.foldl takeBackValve s).links = s.links
  | [], _, _, _ => rfl
  | a :: l, s, hl, h => by
    obtain ⟨ha, hl⟩ := List.nodup_cons.1 hl
    rw [List.foldl_cons, takeBackValves_quiet hl, takeBackValve_links, h a List.mem_cons_self]
    exact fun c hc => (takeBackNotice_other (by rintro rfl; exact ha hc)).trans (h c (List.mem_cons_of_mem a hc))

theorem takeBackNotice_foldl {k : Nat} : ∀ {l : List Nat} {s : State}, k ∉ l →
    takeBackNotice (l.foldl takeBackValve s) k = takeBackNotice s k
  | [], _, _ => rfl
  | a :: l, s, h => by
    rw [List.mem_cons, not_or] at h
    rw [List.foldl_cons, takeBackNotice_foldl h.2, takeBackNotice_other (Ne.symm h.1)]

theorem takeBackNotice_kind {s : State} {ch : Nat} {d : Detail} (h : takeBackNotice s ch = some d) : d.kind = .valve := by
  rw [takeBackNotice, Option.ite_none_right_eq_some] at h
  obtain ⟨-, h⟩ := h
  obtain ⟨why, -, rfl⟩ := Option.map_eq_some_iff.1 h
  rfl

theorem takeBackValve_notices_other {k : NoticeKind} (hk : k ≠ .valve) (s : State) (ch : Nat) :
    (takeBackValve s ch).links.notices.get k.place = s.links.notices.get k.place := by
  rw [takeBackValve_links]
  cases h : takeBackNotice s ch with
  | none => rfl
  | some d =>
    refine (raise_notices d s k).trans (if_neg fun hd => hk ?_)
    rw [hd.1, takeBackNotice_kind h]

theorem takeBackValve_notices_disabled {s : State} {ch : Nat} (he : s.links.enables.getLsbD 0 = false) :
    (takeBackValve s ch).links.notices.get 2 = s.links.notices.get 2 := by
  rw [takeBackValve_links]
  cases h : takeBackNotice s ch with
  | none => rfl
  | some d =>
    refine (raise_notices d s .valve).trans (if_neg fun hd => ?_)
    exact absurd (he.symm.trans hd.2) (by decide)

theorem takeBackValves_notices_disabled : ∀ {l : List Nat} {s : State}, s.links.enables.getLsbD 0 = false →
    (l.foldl takeBackValve s).links.notices.get 2 = s.links.notices.get 2
  | [], _, _ => rfl
  | a :: l, s, he => by
    rw [List.foldl_cons, takeBackValves_notices_disabled (by simpa using he), takeBackValve_notices_disabled he]

theorem takeBackValves_notices {s : State} {ch : Nat} {d : Detail} {before after : List Nat}
    (hl : (before ++ ch :: after).Nodup) (he : s.links.enables.getLsbD 0 = true) (h : takeBackNotice s ch = some d)
    (hafter : ∀ k ∈ after, takeBackNotice s k = none) :
    ((before ++ ch :: after).foldl takeBackValve s).links.notices.get 2 = some d := by
  obtain ⟨-, hca, hdisj⟩ := List.nodup_append.1 hl
  obtain ⟨hch, hafterNodup⟩ := List.nodup_cons.1 hca
  have hmem (k : Nat) (hk : k ∈ ch :: after) : k ∉ before := fun hb => hdisj k hb k hk rfl
  set u := before.foldl takeBackValve s
  have hu (k : Nat) (hk : k ∈ ch :: after) : takeBackNotice u k = takeBackNotice s k := takeBackNotice_foldl (hmem k hk)
  have hue : u.links.enables = s.links.enables := foldl_keep (fun v => v.links.enables) takeBackValve (by simp) _ _
  have hquiet : ∀ k ∈ after, takeBackNotice (takeBackValve u ch) k = none := fun k hk => by
    have hne : ch ≠ k := fun hck => hch (hck ▸ hk)
    rw [takeBackNotice_other hne, hu k (List.mem_cons_of_mem ch hk), hafter k hk]
  have hud : takeBackNotice u ch = some d := (hu ch List.mem_cons_self).trans h
  rw [List.foldl_append, List.foldl_cons, takeBackValves_quiet hafterNodup hquiet, takeBackValve_links, hud]
  refine (raise_notices d u .valve).trans (if_pos ⟨(takeBackNotice_kind h).symm, ?_⟩)
  rw [hue]
  exact he

/-- The take-back makes a valve FAULT, with a cause. -/
def BecomesFault (s : State) (ch : Nat) (why : ValveFault) : Prop :=
  ch < 38 ∧ assigned s ch = true ∧ (s.valve ch).state ≠ .fault ∧
    ((feedback s ch = .neither ∧ why = .stuck) ∨ (feedback s ch = .both ∧ why = .switchDisagree))

section
variable {s : State} {ch : Nat}

theorem takeBackNotice_fault {why : ValveFault} (h : BecomesFault s ch why) :
    takeBackNotice s ch = some (.valve ch why (feedback s ch) (holderOf s ch)) := by
  obtain ⟨-, ha, hv, ⟨hfb, rfl⟩ | ⟨hfb, rfl⟩⟩ := h <;> rw [takeBackNotice, if_pos ⟨ha, hv⟩, hfb] <;> rfl

theorem takeBackNotice_none (hch : ch < 38) (h : ∀ why, ¬ BecomesFault s ch why) : takeBackNotice s ch = none := by
  unfold takeBackNotice
  split
  · next ha =>
    cases hfb : feedback s ch with
    | opened | closed => rfl
    | neither => exact absurd ⟨hch, ha.1, ha.2, .inl ⟨hfb, rfl⟩⟩ (h .stuck)
    | both => exact absurd ⟨hch, ha.1, ha.2, .inr ⟨hfb, rfl⟩⟩ (h .switchDisagree)
  · rfl

theorem channels_split (hch : ch < 38) :
    ∃ before after, channels = before ++ ch :: after ∧ ∀ k ∈ after, ch < k ∧ k < 38 := by
  obtain ⟨before, after, hl⟩ := List.append_of_mem (List.mem_range.2 hch)
  have hrise : (before ++ ch :: after).Pairwise (· < ·) := hl ▸ List.pairwise_lt_range
  exact ⟨before, after, hl, fun k hk => ⟨List.rel_of_pairwise_cons (List.pairwise_append.1 hrise).2.1 hk,
    List.mem_range.1 (hl ▸ by simp [hk])⟩⟩

/-- VALVE keeps the detail of the highest channel that becomes FAULT. -/
theorem takeBackValves_notice {why : ValveFault} (he : s.links.enables.getLsbD 0 = true) (h : BecomesFault s ch why)
    (hlast : ∀ n x, ch < n → ¬ BecomesFault s n x) :
    (channels.foldl takeBackValve s).links.notices.get 2 = some (.valve ch why (feedback s ch) (holderOf s ch)) := by
  obtain ⟨before, after, hl, hafter⟩ := channels_split h.1
  rw [hl]
  refine takeBackValves_notices (hl ▸ List.nodup_range) he (takeBackNotice_fault h) fun k hk => ?_
  obtain ⟨hlt, hk⟩ := hafter k hk
  exact takeBackNotice_none hk fun x => hlast k x hlt

theorem takeBackValves_no_notice (h : s.links.enables.getLsbD 0 = false ∨ ∀ n x, ¬ BecomesFault s n x) :
    (channels.foldl takeBackValve s).links.notices.get 2 = s.links.notices.get 2 := by
  rcases h with he | h
  · exact takeBackValves_notices_disabled he
  · have hquiet : ∀ c ∈ List.range 38, takeBackNotice s c = none := fun c hc =>
      takeBackNotice_none (List.mem_range.1 hc) (h c)
    rw [channels, takeBackValves_quiet List.nodup_range hquiet]

end

/-! ## The handed-over transfers at the take-back (R174) -/

/-- A handed-over transfer is resumed by what its valves and its pump show (R174, first). -/
def ShowsOpen (s : State) (d : Driver) : Prop :=
  (feedback s (tankValve s d) = .opened ∧ (s.valve (tankValve s d)).state ≠ .fault) ∧
    (feedback s d.lineValve = .opened ∧ (s.valve d.lineValve).state ≠ .fault) ∧
    ∀ p, d.pump? = some p → s.inputs.running p = true

section
variable {s : State} {d : Driver}

theorem runningShown_iff : runningShown s d = true ↔ ∀ p, d.pump? = some p → s.inputs.running p = true := by
  unfold runningShown
  cases d.pump? <;> simp

theorem shownOpen_iff {ch : Nat} : shownOpen s ch = true ↔ feedback s ch = .opened ∧ (s.valve ch).state ≠ .fault := by
  simp [shownOpen]

theorem judgeHanded_open (h : ShowsOpen s d) : judgeHanded s d =
    if d.gravity = true ∧ estimated s (s.transfer d).tank = true then some .noMeasure else none := by
  obtain ⟨htank, hline, hpump⟩ := h
  exact if_pos ⟨shownOpen_iff.2 htank, shownOpen_iff.2 hline, runningShown_iff.2 hpump⟩

theorem judgeHanded_not_open (h : ¬ ShowsOpen s d) : judgeHanded s d = some .changedByHand :=
  if_neg fun ⟨htank, hline, hpump⟩ => h ⟨shownOpen_iff.1 htank, shownOpen_iff.1 hline, runningShown_iff.1 hpump⟩

end

/-- The part with the judgement of `d`'s transfer, made on the part `s`, carried out where it is handed over. -/
def carried (s w : State) (d : Driver) : State :=
  if (s.console.handed.get d).isSome = true then carryOut w (d, judgeHanded s d) else w

section
variable {s : State} {d : Driver} (w : State) (hh : (s.console.handed.get d).isSome = true)
include hh

theorem carried_resumes (ho : ShowsOpen s d) (hdry : ¬ (d.gravity = true ∧ estimated s (s.transfer d).tank = true)) :
    carried s w d = resumeTransfer d w := by
  rw [carried, if_pos hh, judgeHanded_open ho, if_neg hdry, carryOut]

theorem carried_noMeasure (ho : ShowsOpen s d) (hdry : d.gravity = true ∧ estimated s (s.transfer d).tank = true) :
    carried s w d = endHanded d .noMeasure w := by
  rw [carried, if_pos hh, judgeHanded_open ho, if_pos hdry, carryOut]

theorem carried_changedByHand (ho : ¬ ShowsOpen s d) : carried s w d = endHanded d .changedByHand w := by
  rw [carried, if_pos hh, judgeHanded_not_open ho, carryOut]

end

/-- The part after the first `i` of the six transfers, from `w`. -/
def carriedUpTo (s w : State) (i : Nat) : State := (drivers.take i).foldl (carried s) w

section
variable (s w : State)

theorem judged_foldl : ((handedDrivers s).map fun d => (d, judgeHanded s d)).foldl carryOut w = carriedUpTo s w 6 := by
  rw [List.foldl_map, handedDrivers, List.foldl_filter]
  rfl

theorem carriedUpTo_succ {i : Nat} {d : Driver} (h : drivers[i]? = some d) :
    carriedUpTo s w (i + 1) = carried s (carriedUpTo s w i) d := by
  rw [carriedUpTo, List.take_add_one, h, List.foldl_append]
  rfl

/-- What carrying out a judgement leaves of the console, for the account of the water moved by hand. -/
theorem carryOut_console (j : Driver × Option EndReason) : (carryOut w j).console.snapshot = w.console.snapshot ∧
    (carryOut w j).console.handed = w.console.handed ∧ (carryOut w j).console.grantStamp = w.console.grantStamp ∧
    (carryOut w j).console.releaseStamp = w.console.releaseStamp := by
  obtain ⟨d, _ | reason⟩ := j
  · simp only [carryOut, resumeTransfer]; split <;> simp
  · simp only [carryOut, endHanded]; split <;> simp

theorem carriedUpTo_keeps {β : Type} (g : State → β) (h : ∀ u j, g (carryOut u j) = g u) (i : Nat) :
    g (carriedUpTo s w i) = g w := by
  refine foldl_keep g _ (fun u d => ?_) _ _
  unfold carried
  split
  · exact h u _
  · rfl

theorem carriedUpTo_store (i : Nat) : (carriedUpTo s w i).store = w.store :=
  carriedUpTo_keeps s w (fun u => u.store) (by simp) i

theorem carriedUpTo_console (i : Nat) : (carriedUpTo s w i).console.snapshot = w.console.snapshot ∧
    (carriedUpTo s w i).console.handed = w.console.handed ∧ (carriedUpTo s w i).console.grantStamp = w.console.grantStamp ∧
    (carriedUpTo s w i).console.releaseStamp = w.console.releaseStamp :=
  ⟨carriedUpTo_keeps s w (fun u => u.console.snapshot) (fun u j => (carryOut_console u j).1) i,
    carriedUpTo_keeps s w (fun u => u.console.handed) (fun u j => (carryOut_console u j).2.1) i,
    carriedUpTo_keeps s w (fun u => u.console.grantStamp) (fun u j => (carryOut_console u j).2.2.1) i,
    carriedUpTo_keeps s w (fun u => u.console.releaseStamp) (fun u j => (carryOut_console u j).2.2.2) i⟩

end

/-! ## Water moved by hand (R175) -/

/-- The Record Keeper, at `k`, after the HAND entry of one tank of the part `s`, where it is made. -/
def handRecord (snap : Tab 48 (Option TankSnap)) (s : State) (k : Records) (c : Nat) : Records :=
  (handEntry snap { s with records := k } c).records

theorem handEntry_records (snap : Tab 48 (Option TankSnap)) (s : State) (k : Records) (c : Nat) :
    handEntry snap { s with records := k } c = { s with records := handRecord snap s k c } := by
  unfold handRecord handEntry
  split
  · dsimp only; split <;> rfl
  · rfl

theorem handEntries_records (snap : Tab 48 (Option TankSnap)) (s : State) : ∀ (l : List Nat) (k : Records),
    l.foldl (handEntry snap) { s with records := k } = { s with records := l.foldl (handRecord snap s) k }
  | [], _ => rfl
  | c :: l, k => by rw [List.foldl_cons, handEntry_records, handEntries_records snap s l]; rfl

theorem handedTank_iff {s : State} {c : Nat} :
    handedTank s c = false ↔ ∀ d ∈ drivers, s.console.handed.get d ≠ some c := by
  simp [handedTank]

theorem handRecord_eq (snap : Tab 48 (Option TankSnap)) (s : State) (k : Records) (c : Nat) : handRecord snap s k c =
    match snap.get c, s.gaugeRec c with
    | some x, some g =>
      let Δ : Int := (g.mass : Int) - x.mass
      if (∀ d ∈ drivers, s.console.handed.get d ≠ some c) ∧ x.usable = true ∧ (g.state = .good ∨ g.state = .held) ∧
          s.store.tables.drift < Δ.natAbs then
        k.enter (handCandidate c Δ (s.console.grantStamp.getD 0) (s.console.releaseStamp.getD 0) g.density)
      else k
    | _, _ => k := by
  have hg : State.gaugeRec { s with records := k } c = s.gaugeRec c := rfl
  have ht : handedTank { s with records := k } c = handedTank s c := rfl
  unfold handRecord handEntry
  rw [hg]
  cases snap.get c with
  | none => rfl
  | some x =>
    cases s.gaugeRec c with
    | none => rfl
    | some g =>
      simp only [ht, handedTank_iff]
      split <;> rfl

theorem accountHand_eq (s : State) : accountHand s = { s with
    gauge := { s.gauge with recs := s.gauge.recs.map (Option.map fun g => { g with refMass := g.mass }) }
    records := match s.console.snapshot with
      | some snap => compartments.foldl (handRecord snap s) s.records
      | none => s.records } := by
  unfold accountHand
  cases hs : s.console.snapshot with
  | none => rfl
  | some snap =>
    have h := handEntries_records snap s compartments s.records
    exact (congrArg referAll h).trans rfl

/-! ## The end of RECONCILING (R176, R144) -/

theorem closingEmpty_iff {s : State} : closingEmpty s = true ↔ ¬ ∃ d, s.console.closing.get d = true := by
  simp [closingEmpty, mem_drivers]

/-- The part with the console back in AUTO, its sets emptied and its snapshot void (R176). -/
def backInAuto (s : State) : State := s.setConsole { s.console with
  state := .auto, snapshot := none, handed := SixOf.all none, reached := SixOf.all false, closing := SixOf.all false }

/-- A request that stands is taken as a rise (R177). -/
def takeStanding (s : State) : State := if s.inputs.consoleRequest = true then requestRises s else s

section
variable {s : State}

theorem endReconciling_closing (h : ∃ d, s.console.closing.get d = true) : endReconciling s = s :=
  if_neg fun hc => closingEmpty_iff.1 hc.2 h

theorem endReconciling_ends (hs : s.console.state = .reconciling) (h : ¬ ∃ d, s.console.closing.get d = true) :
    endReconciling s = takeStanding (returnSeq (backInAuto s)) :=
  if_pos ⟨hs, closingEmpty_iff.2 h⟩

theorem returnSeq_none (h : s.seq.saved = none) : returnSeq s = s := by
  simp only [returnSeq, h]

theorem returnSeq_some {c : SeqCore} (h : s.seq.saved = some c) : returnSeq s =
    if c.state = .running then resumeStep { s with seq := { s.seq with core := c, saved := none } }
    else { s with seq := { s.seq with core := c, saved := none } } := by
  simp only [returnSeq, h]

theorem resumeStep_dwell {t : Nat} (h : currentStep s = .dwell t) :
    resumeStep s = if s.seq.core.dwell = 0 then moveOn s else waitFor .dwell s := by
  simp only [resumeStep, h]

theorem resumeStep_other (h : ∀ t, currentStep s ≠ .dwell t) : resumeStep s = walk s := by
  unfold resumeStep
  split
  · next t ht => exact absurd ht (h t)
  · rfl

/-- A return to IDLE leaves the Sequencer in its state. -/
theorem returnsToIdle_seqState {d : Driver} {t : State} (h : ReturnsToIdle d s t) : t.seq.core.state = s.seq.core.state := by
  obtain ⟨-, -, -, -, -, -, -, -, hseq, -⟩ := h
  rw [hseq]
  rfl

/-- While YIELDED an act hands nothing on to the Sequencer: it ends with the end of RECONCILING and the grant condition. -/
theorem settle_yielded {before : State} (h : s.seq.core.state = .yielded) :
    settle before s = judgeGrant (endReconciling s) := by
  rw [settle, hears_at_rest (.inr (.inr (.inl h)))]

end

/-- The arrival of a closing valve, its CLOSED limit alone made, at the transfer whose other valve is done (R97, R115). -/
theorem closingValve_arrives {s : State} {ch : Fin 38} {d : Driver} (hclosing : (s.valve ch.val).state = .closing)
    (hcommanded : (s.valve ch.val).commanded = .closed) (hholder : holderOf s ch.val = some d)
    (htransfer : (s.transfer d).state = .closing)
    (hdone : ValvesDone ((s.setLimitInputs ch.val false true).setValve ch.val
      { s.valve ch.val with state := .closed, countdown := 0, drive := none }) d) :
    ReturnsToIdle d ((s.setLimitInputs ch.val false true).setValve ch.val
        { s.valve ch.val with state := .closed, countdown := 0, drive := none })
      (judgeLimits s (s.setLimitInputs ch.val false true) ch.val) := by
  have hfb : feedback (s.setLimitInputs ch.val false true) ch.val = .closed :=
    TransferUnit.feedback_setLimitInputs s ch false true
  have hmoving : ((s.setLimitInputs ch.val false true).valve ch.val).state.moving = true :=
    TransferUnit.moving_iff.2 (.inr hclosing)
  have hc : ((s.setLimitInputs ch.val false true).valve ch.val).commanded = .closed := hcommanded
  have hend : Feedback.closed = ValveEnd.closed.feedback := rfl
  rw [TransferUnit.judgeLimits_moving hmoving, hfb, hc, if_neg (by decide), if_pos hend]
  have harrives := valveArrives_arrives ch.val (s.setLimitInputs ch.val false true)
  unfold ArrivesValve at harrives
  rw [hc] at harrives
  exact ((harrives.2 d hholder).2.1 htransfer) hdone

/-! ## A drop of the request (R171, R174 to R176) -/

/-- The part at the release, before its take-back: the grant line dropped, the release stamped, the state RECONCILING (R174). -/
def released (s : State) : State :=
  s.setConsole { s.console with grantLine := false, releaseStamp := some s.time.port, state := .reconciling }

section
variable (s : State)

/-- What the take-back and its judgements read stands as before the drop of the request and the release. -/
theorem released_reads (ch : Nat) : assigned (released (setRequest false s)) ch = assigned s ch ∧
    (released (setRequest false s)).valve ch = s.valve ch ∧ feedback (released (setRequest false s)) ch = feedback s ch ∧
    holderOf (released (setRequest false s)) ch = holderOf s ch := ⟨rfl, rfl, rfl, rfl⟩

theorem takenBack_released (ch : Nat) : takenBack (released (setRequest false s)) ch = takenBack s ch := by
  have ha : Adoptable (released (setRequest false s)) ch ↔ Adoptable s ch := Iff.rfl
  obtain ⟨-, hv, hf, -⟩ := released_reads s ch
  simp only [takenBack, ha, hv, hf]

theorem becomesFault_released (ch : Nat) (why : ValveFault) :
    BecomesFault (released (setRequest false s)) ch why ↔ BecomesFault s ch why := by
  obtain ⟨ha, hv, hf, -⟩ := released_reads s ch
  simp only [BecomesFault, ha, hv, hf]

end

/-- What the release has made of the part `s`, its request dropped, when its valves are taken back: the part `u` (R174). -/
structure TakesBackValves (s u : State) : Prop where
  valve (ch : Nat) : ch < 38 → u.valve ch = takenBack s ch
  notice (ch : Nat) (why : ValveFault) : s.links.enables.getLsbD 0 = true → BecomesFault s ch why →
    (∀ n x, ch < n → ¬ BecomesFault s n x) → u.links.notices.get 2 = some (.valve ch why (feedback s ch) (holderOf s ch))
  noNotice : (s.links.enables.getLsbD 0 = false ∨ ∀ n x, ¬ BecomesFault s n x) →
    u.links.notices.get 2 = s.links.notices.get 2
  otherNotice (k : NoticeKind) : k ≠ .valve → u.links.notices.get k.place = s.links.notices.get k.place
  only : OnlyValvesAndNotices (released (setRequest false s)) u

theorem takesBackValves (s : State) : TakesBackValves s (channels.foldl takeBackValve (released (setRequest false s))) where
  valve ch h := (takeBackValves_valve _ h).trans (takenBack_released s ch)
  notice ch why he h hlast := by
    simp only [← becomesFault_released s] at h hlast
    rw [takeBackValves_notice (s := released (setRequest false s)) he h hlast]
    rfl
  noNotice h := by
    simp only [← becomesFault_released s] at h
    rw [takeBackValves_no_notice (s := released (setRequest false s)) h]
    rfl
  otherNotice k hk := foldl_keep (fun u => u.links.notices.get k.place) takeBackValve (takeBackValve_notices_other hk) channels
    (released (setRequest false s))
  only := takeBackValves_only channels (released (setRequest false s))

theorem releaseConsole_takesBack (s : State) : ∃ u, TakesBackValves s u ∧ releaseConsole (setRequest false s) =
    endReconciling (accountHand (carriedUpTo (released (setRequest false s)) u 6)) := by
  refine ⟨_, takesBackValves s, ?_⟩
  rw [← judged_foldl]
  rfl

/-- The record taken back, with what R101 makes of each feedback written out. -/
theorem takenBack_eq (s : State) (ch : Nat) : takenBack s ch =
    if assigned s ch = true ∧ (s.valve ch).state ≠ .fault then
      let (e, st, why) : ValveEnd × ValveState × Option ValveFault := match feedback s ch with
        | .opened => (.opened, .opened, none)
        | .closed => (.closed, .closed, none)
        | .neither => (.closed, .fault, some .stuck)
        | .both => (.closed, .fault, some .switchDisagree)
      { s.valve ch with
        commanded := e, state := st, cause := why, countdown := 0, drive := none
        handSet := (s.valve ch).handSet || (s.valve ch).commanded != e }
    else s.valve ch := by
  unfold takenBack Valve.takeBack Valve.adopt
  have hne (a b : ValveEnd) : (a != b) = (b != a) := by cases a <;> cases b <;> rfl
  cases feedback s ch <;> simp only [hne] <;> rfl

section
variable {s : State}

theorem consoleDrops_requested (hs : s.console.state = .requested) :
    consoleDrops s = (setRequest false s).setConsole { s.console with state := .auto } := by
  unfold consoleDrops; rw [hs]; rfl

theorem consoleDrops_granted (hs : s.console.state = .granted) : consoleDrops s = releaseConsole (setRequest false s) := by
  unfold consoleDrops; rw [hs]

theorem consoleDrops_elsewhere (hs : s.console.state = .auto ∨ s.console.state = .reconciling) :
    consoleDrops s = setRequest false s := by
  unfold consoleDrops; rcases hs with hs | hs <;> rw [hs]

end

/-- Settles O53: a drop in GRANTED takes the valves back (`takesBackValves`), carries out the judgement of each driver in turn
(`carriedUpTo_succ`) and accounts for the water moved by hand (`accountHand_eq`, `handRecord_eq`); the end of RECONCILING, the step judged
afresh and the arrival of a closing valve follow `endReconciling_ends`, `resumeStep_dwell` and `closingValve_arrives`. -/
theorem aConsoleDropTakesBackThePart : Obligations.AConsoleDropTakesBackThePart := by
  refine ⟨fun s => ?_, fun w => ?_, fun w => ?_, fun s ch d ha hclosing hcommanded hholder htransfer hyield => ?_⟩
  · intro dropped T handed shown open' dry fresh resumed ends account
    refine ⟨fun hs => congrArg _ (consoleDrops_requested hs), fun hs => congrArg _ (consoleDrops_elsewhere hs), fun hs => ?_⟩
    obtain ⟨u, htaken, hrelease⟩ := releaseConsole_takesBack s
    have hstore (i : Nat) : (carriedUpTo (released dropped) u i).store = s.store :=
      (carriedUpTo_store _ u i).trans htaken.only.keeps.1
    refine ⟨u.xfer.valves, u.links.notices, carriedUpTo (released dropped) u,
      fun ch hch => (htaken.valve ch hch).trans (takenBack_eq s ch), htaken.otherNotice, htaken.notice, htaken.noNotice,
      htaken.only, fun i d hd => ?_, ?_⟩
    · rw [carriedUpTo_succ _ _ hd]
      have hT : (carriedUpTo (released dropped) u i).store.tables = T := congrArg _ (hstore i)
      generalize carriedUpTo (released dropped) u i = w at hT ⊢
      refine ⟨fun hh => if_neg hh, fun hh ho hdry => ?_, fun hh ho hdry => ?_, fun hh ho => ?_⟩
      · refine (carried_resumes (s := released dropped) w hh ho hdry).trans ?_
        simp only [resumeTransfer, resumed, ticks, ← hT]
        cases d <;> rfl
      · rw [carried_noMeasure (s := released dropped) w hh ho hdry]
        exact ⟨_, endTransfer_closes d .noMeasure w, rfl⟩
      · rw [carried_changedByHand (s := released dropped) w hh ho]
        exact ⟨_, endTransfer_closes d .changedByHand w, rfl⟩
    · have hdrop := (consoleDrops_granted hs).trans hrelease
      have haccount : accountHand (carriedUpTo (released dropped) u 6) = account (carriedUpTo (released dropped) u 6) := by
        obtain ⟨hsnap, hhanded, hgrant, hstamp⟩ := carriedUpTo_console (released dropped) u 6
        rw [htaken.only.keeps.2] at hsnap hhanded hgrant hstamp
        have hv := hstore 6
        generalize carriedUpTo (released dropped) u 6 = v at *
        rw [accountHand_eq, show v.console.snapshot = s.console.snapshot from hsnap]
        simp only [account]
        cases s.console.snapshot with
        | none => rfl
        | some snap =>
          have hrecord := funext₂ (handRecord_eq snap v)
          rw [hhanded, hgrant, hstamp, hv] at hrecord
          simp only [hrecord]
          rfl
      exact congrArg Host.Outcome.next (hdrop.trans (congrArg endReconciling haccount))
  · intro closes auto requested back
    refine ⟨fun h => h.elim (endReconciling_quiet w) endReconciling_closing, fun hs hc => ⟨fun hq => ?_, fun c hq => ?_⟩⟩
    · exact (endReconciling_ends hs hc).trans (congrArg takeStanding (returnSeq_none (s := backInAuto w) hq))
    · have hend := (endReconciling_ends hs hc).trans (congrArg takeStanding (returnSeq_some (s := backInAuto w) hq))
      exact ⟨fun hr => hend.trans (congrArg takeStanding (if_neg hr)),
        fun hr => hend.trans (congrArg takeStanding (if_pos hr))⟩
  · intro core next
    refine ⟨fun t ht => ⟨fun h0 => ?_, fun h0 => ?_⟩, resumeStep_other⟩
    · exact (resumeStep_dwell ht).trans (if_pos h0)
    · exact (resumeStep_dwell ht).trans (if_neg h0)
  · intro a hdone
    have hreturns := closingValve_arrives hclosing hcommanded hholder htransfer hdone
    refine ⟨_, hreturns, (TransferUnit.exec_limitInputChange_assigned false true ha).trans (congrArg _ (settle_yielded ?_))⟩
    exact (returnsToIdle_seqState hreturns).trans hyield

end Sys2Proof.ConsoleHandover
end

section
/-! PROOF. The statements about the port records and reports (spec/10_port_records_and_reports.md): the entering of a candidate,
the reports and their pages, and what every step keeps of the account and of the sizes that the spec bounds. -/

namespace Sys2Proof.PortRecords

open Sys2Proof.Machine Sys2Proof.ShipData Sys2Proof.Survey Sys2Proof.ConditionEngine Sys2Proof.LimitsUnit

/-! ## The search of the log (R187, R188) -/

section
variable {p : LogEntry → Bool} {f : LogEntry → LogEntry}

theorem changeLast_none {l : List LogEntry} (h : ∀ x ∈ l, p x = false) : changeLast p f l = none := by
  induction l with
  | nil => rfl
  | cons x xs ih =>
    obtain ⟨hx, hxs⟩ := List.forall_mem_cons.1 h
    simp [changeLast, ih hxs, hx]

/-- The last entry that `p` holds of takes `f` where it stands. -/
theorem changeLast_at (l : List LogEntry) {e : LogEntry} {r : List LogEntry} (he : p e = true)
    (hr : ∀ x ∈ r, p x = false) : changeLast p f (l ++ e :: r) = some (l ++ f e :: r) := by
  induction l with
  | nil => simp [changeLast, changeLast_none hr, he]
  | cons x xs ih => simp [changeLast, ih]

theorem changeLast_some {l l' : List LogEntry} (h : changeLast p f l = some l') :
    ∃ a e b, l = a ++ e :: b ∧ p e = true ∧ l' = a ++ f e :: b := by
  induction l generalizing l' with
  | nil => simp [changeLast] at h
  | cons x xs ih =>
    rw [changeLast] at h
    split at h
    · next xs' hxs =>
      obtain ⟨a, e, b, rfl, he, rfl⟩ := ih hxs
      exact ⟨x :: a, e, b, rfl, he, (Option.some.inj h).symm⟩
    · split at h
      · next hx => exact ⟨[], x, xs, rfl, hx, (Option.some.inj h).symm⟩
      · simp at h

theorem changeFirst_none {l : List LogEntry} (h : ∀ x ∈ l, p x = false) : changeFirst p f l = none := by
  induction l with
  | nil => rfl
  | cons x xs ih =>
    obtain ⟨hx, hxs⟩ := List.forall_mem_cons.1 h
    simp [changeFirst, ih hxs, hx]

/-- The first entry that `p` holds of takes `f` where it stands. -/
theorem changeFirst_at {l : List LogEntry} {e : LogEntry} (r : List LogEntry) (hl : ∀ x ∈ l, p x = false)
    (he : p e = true) : changeFirst p f (l ++ e :: r) = some (l ++ f e :: r) := by
  induction l with
  | nil => simp [changeFirst, he]
  | cons x xs ih =>
    obtain ⟨hx, hxs⟩ := List.forall_mem_cons.1 hl
    simp [changeFirst, hx, ih hxs]

theorem changeFirst_some {l l' : List LogEntry} (h : changeFirst p f l = some l') :
    ∃ a e b, l = a ++ e :: b ∧ p e = true ∧ l' = a ++ f e :: b := by
  induction l generalizing l' with
  | nil => simp [changeFirst] at h
  | cons x xs ih =>
    rw [changeFirst] at h
    split at h
    · next hx => exact ⟨[], x, xs, rfl, hx, (Option.some.inj h).symm⟩
    · obtain ⟨xs', hxs, rfl⟩ := Option.map_eq_some_iff.1 h
      obtain ⟨a, e, b, rfl, he, rfl⟩ := ih hxs
      exact ⟨x :: a, e, b, rfl, he, rfl⟩

end

theorem same_iff {a b : LogEntry} : a.same b = true ↔ a.tank = b.tank ∧ a.out = b.out := by simp [LogEntry.same]

theorem same_eq_false_iff {a b : LogEntry} : a.same b = false ↔ ¬ (a.tank = b.tank ∧ a.out = b.out) := by
  rw [← Bool.not_eq_true, same_iff]

/-- Compaction merges the first entry that has a later one of its tank and direction into the earliest such (R188). -/
theorem compact_at {l : List LogEntry} {e : LogEntry} {m : List LogEntry} {f : LogEntry} {r : List LogEntry}
    (hsame : e.same f = true) (hm : ∀ x ∈ m, e.same x = false)
    (hfirst : ∀ i j a b, i < j → (l ++ e :: m ++ f :: r)[i]? = some a → (l ++ e :: m ++ f :: r)[j]? = some b →
      a.same b = true → l.length ≤ i) :
    compact (l ++ e :: m ++ f :: r) = l ++ m ++ e.absorb f :: r := by
  induction l with
  | nil => simp [compact, changeFirst_at r hm hsame]
  | cons x xs ih =>
    have hx : ∀ y ∈ xs ++ e :: m ++ f :: r, x.same y = false := by
      intro y hy
      obtain ⟨j, hj⟩ := List.mem_iff_getElem?.1 hy
      by_contra hsame
      have := hfirst 0 (j + 1) x y (by omega) rfl hj (Bool.not_eq_false _ ▸ hsame)
      simp at this
    have htail := ih fun i j a b hij ha hb hab => by
      have := hfirst (i + 1) (j + 1) a b (by omega) ha hb hab
      simpa using this
    simp only [List.cons_append, compact] at hx htail ⊢
    rw [changeFirst_none hx, htail]

/-! ## The sums of the log (R180, R189) -/

/-- What an entry adds to the sum of a tank's volumes in one direction. -/
def share (e : LogEntry) (tank : Nat) (out : Bool) : Nat := if e.tank = tank ∧ e.out = out then e.volume else 0

/-- The sum of the volumes of a tank's entries in one direction. -/
def logSum (l : List LogEntry) (tank : Nat) (out : Bool) : Nat := (l.map (share · tank out)).sum

section
variable (tank : Nat) (out : Bool)

theorem logged_eq_logSum (s : State) : logged s tank out = logSum s.records.log tank out := by
  rw [logged, logSum]
  induction s.records.log with
  | nil => rfl
  | cons e l ih =>
    by_cases he : e.tank = tank ∧ e.out = out
    · simp [he, share, ih]
    · rw [List.filter_cons_of_neg (by simpa using he), ih, List.map_cons, List.sum_cons, share, if_neg he, Nat.zero_add]

@[simp] theorem logSum_nil : logSum [] tank out = 0 := rfl

@[simp] theorem logSum_cons (e : LogEntry) (l : List LogEntry) :
    logSum (e :: l) tank out = share e tank out + logSum l tank out := by simp [logSum]

@[simp] theorem logSum_append (l r : List LogEntry) :
    logSum (l ++ r) tank out = logSum l tank out + logSum r tank out := by simp [logSum]

@[simp] theorem share_number (c : LogEntry) (n : Nat) : share { c with number := n } tank out = share c tank out := rfl

theorem share_empty {c : LogEntry} (h : c.volume = 0) : share c tank out = 0 := by simp [share, h]

/-- A merged candidate adds its share to the entry's (R187). -/
theorem share_mergeIn {c e : LogEntry} (mix : Bool) (h : e.same c = true) :
    share (LogEntry.mergeIn mix c e) tank out = share e tank out + share c tank out := by
  obtain ⟨ht, ho⟩ := same_iff.1 h
  by_cases hc : c.tank = tank ∧ c.out = out <;> simp [share, LogEntry.mergeIn, LogEntry.take, ht, ho, hc, Nat.add_comm]

/-- A compacted entry has the shares of the two (R188). -/
theorem share_absorb {a b : LogEntry} (h : a.same b = true) :
    share (a.absorb b) tank out = share a tank out + share b tank out := by
  obtain ⟨ht, ho⟩ := same_iff.1 h
  by_cases hb : b.tank = tank ∧ b.out = out <;> simp [share, LogEntry.absorb, LogEntry.take, ht, ho, hb, Nat.add_comm]

theorem logSum_changeLast {p : LogEntry → Bool} {c : LogEntry} {mix : Bool} {l l' : List LogEntry}
    (h : changeLast p (LogEntry.mergeIn mix c) l = some l') (hp : ∀ e, p e = true → e.same c = true) :
    logSum l' tank out = logSum l tank out + share c tank out := by
  obtain ⟨a, e, b, rfl, he, rfl⟩ := changeLast_some h
  have := share_mergeIn tank out mix (hp e he)
  simp only [logSum_append, logSum_cons]
  omega

theorem logSum_compact (l : List LogEntry) : logSum (compact l) tank out = logSum l tank out := by
  induction l with
  | nil => rfl
  | cons e es ih =>
    rw [compact]
    split
    · next es' hes =>
      obtain ⟨a, f, b, rfl, hf, rfl⟩ := changeFirst_some hes
      have := share_absorb tank out hf
      simp only [logSum_append, logSum_cons]
      omega
    · simp [ih]

end

/-! ## Entering a candidate (R185 to R187) -/

theorem total_addTotal {tank : Nat} (r : Records) (c : LogEntry) (out : Bool) (ht : tank < 48) :
    total (r.addTotal c) tank out =
      if c.tank = tank ∧ c.out = out then addVolume (total r tank out) c.volume else total r tank out := by
  by_cases hc : c.tank = tank
  · subst hc
    cases hcout : c.out <;> cases out <;> simp [total, Records.addTotal, hcout, ht]
  · cases hcout : c.out <;> cases out <;> simp [total, Records.addTotal, hcout, hc]

@[simp] theorem addTotal_keeps (r : Records) (c : LogEntry) :
    (r.addTotal c).log = r.log ∧ (r.addTotal c).nextNumber = r.nextNumber ∧ (r.addTotal c).full = r.full ∧
      (r.addTotal c).report = r.report := by
  simp only [Records.addTotal]; split <;> simp

/-- A candidate's volume joins its tank's total of its direction, where the sum fits the 48 bits (R180, R186). -/
theorem toNat_total_addTotal {tank : Nat} (r : Records) (c : LogEntry) (out : Bool) (ht : tank < 48)
    (hfits : (total r tank out).toNat + share c tank out < 2 ^ 48) :
    (total (r.addTotal c) tank out).toNat = (total r tank out).toNat + share c tank out := by
  rw [total_addTotal r c out ht]
  by_cases hc : c.tank = tank ∧ c.out = out
  · rw [share, if_pos hc] at hfits ⊢
    rw [if_pos hc, addVolume, if_pos (by simpa [totalModulus] using hfits), BitVec.toNat_ofNat, Nat.mod_eq_of_lt hfits]
  · rw [if_neg hc, share, if_neg hc, Nat.add_zero]

/-- What the entering of a candidate does: it is dropped at volume 0, and else its shares join the log's sums, in an entry of
its own or in another, and its volume the totals (R185 to R188). -/
theorem enter_cases (r : Records) (c : LogEntry) :
    (c.volume = 0 ∧ r.enter c = r) ∨
      ∃ log n full, r.enter c = { r with log := log, nextNumber := n, full := full }.addTotal c ∧
        ∀ tank out, logSum log tank out = logSum r.log tank out + share c tank out := by
  rw [Records.enter]
  split
  · next h => exact .inl ⟨h, rfl⟩
  · refine .inr ?_
    split
    · exact ⟨_, _, _, rfl, by simp⟩
    · rw [Records.merge]
      split
      · next log hlog =>
        exact ⟨log, _, _, rfl, fun tank out => logSum_changeLast tank out hlog fun e he => (Bool.and_eq_true_iff.1 he).1⟩
      · split
        · next log hlog => exact ⟨log, _, _, rfl, fun tank out => logSum_changeLast tank out hlog fun e he => he⟩
        · exact ⟨_, _, _, rfl, fun tank out => by simp [logSum_compact]⟩

/-- Every tank's two totals equal the sums of the log's volumes, where the sums fit the 48 bits (R189). -/
def Balanced (r : Records) : Prop :=
  ∀ tank < 48, ∀ out, logSum r.log tank out < 2 ^ 48 → (total r tank out).toNat = logSum r.log tank out

theorem accountBalances_iff {s : State} : AccountBalances s ↔ Balanced s.records := by
  simp only [AccountBalances, Balanced, logged_eq_logSum]

/-- The entering of a candidate keeps the totals equal to the sums of the log (R186, R189). -/
theorem balanced_enter {r : Records} (c : LogEntry) (h : Balanced r) : Balanced (r.enter c) := by
  rcases enter_cases r c with ⟨-, henter⟩ | ⟨log, n, full, henter, hsum⟩
  · rwa [henter]
  · intro tank ht out hfits
    rw [henter, (addTotal_keeps ..).1] at hfits ⊢
    have hbefore := h tank ht out (by have := hsum tank out; simp only at hfits; omega)
    have hadd := toNat_total_addTotal { r with log := log, nextNumber := n, full := full } c out ht
    have hsame : total { r with log := log, nextNumber := n, full := full } tank out = total r tank out := rfl
    rw [hsame, hbefore, ← hsum] at hadd
    exact hadd hfits

theorem balanced_empty {r : Records} (hlog : r.log = []) (hd : r.discharged = Tab.replicate 48 0#48)
    (ht : r.takenUp = Tab.replicate 48 0#48) : Balanced r := by
  intro tank hk out _
  rw [hlog, logSum_nil, total, hd, ht, Tab.get_replicate _ _ hk]
  cases out <;> rfl

/-! ## How a candidate is appended or merged (R185 to R188) -/

section
variable {k : Records} {c : LogEntry}

theorem enter_room (hv : c.volume ≠ 0) (h : k.log.length < 128) : k.enter c = k.append c := by
  rw [Records.enter, if_neg hv, if_pos (show k.log.length < logMax from h)]

theorem enter_full (hv : c.volume ≠ 0) (h : 128 ≤ k.log.length) : k.enter c = k.merge c := by
  rw [Records.enter, if_neg hv, if_neg (show ¬ k.log.length < logMax from Nat.not_lt.2 h)]

/-- A candidate of the full log goes into the last entry of its tank, direction and method (R187). -/
theorem merge_method {l : List LogEntry} {e : LogEntry} {r : List LogEntry} (hlog : k.log = l ++ e :: r)
    (he : e.same c = true) (hm : e.method = c.method) (hr : ∀ x ∈ r, ¬ (x.same c = true ∧ x.method = c.method)) :
    k.merge c = { k with log := l ++ LogEntry.mergeIn false c e :: r, full := true }.addTotal c := by
  have hlast : changeLast (fun e => e.same c && e.method == c.method) (LogEntry.mergeIn false c) k.log =
      some (l ++ LogEntry.mergeIn false c e :: r) := by
    rw [hlog]
    exact changeLast_at l (by simp [he, hm]) fun x hx => by simpa using hr x hx
  rw [Records.merge, hlast]

/-- With no entry of its method it goes into the last entry of its tank and direction (R187). -/
theorem merge_mixed {l : List LogEntry} {e : LogEntry} {r : List LogEntry} (hlog : k.log = l ++ e :: r)
    (he : e.same c = true) (hm : ∀ x ∈ k.log, x.same c = true → x.method ≠ c.method) (hr : ∀ x ∈ r, x.same c = false) :
    k.merge c = { k with log := l ++ LogEntry.mergeIn true c e :: r, full := true }.addTotal c := by
  have hnone : changeLast (fun e => e.same c && e.method == c.method) (LogEntry.mergeIn false c) k.log = none :=
    changeLast_none fun x hx => by simpa using hm x hx
  have hlast : changeLast (fun e => e.same c) (LogEntry.mergeIn true c) k.log =
      some (l ++ LogEntry.mergeIn true c e :: r) := by
    rw [hlog]
    exact changeLast_at l he hr
  rw [Records.merge, hnone]
  simp only [hlast]

/-- With no entry of its tank and direction it is appended after a compaction (R187, R188). -/
theorem merge_compacts (h : ∀ x ∈ k.log, x.same c = false) :
    k.merge c = { k with log := compact k.log, full := true }.append c := by
  have hnone : changeLast (fun e => e.same c && e.method == c.method) (LogEntry.mergeIn false c) k.log = none :=
    changeLast_none fun x hx => by simp [h x hx]
  have hnone' : changeLast (fun e => e.same c) (LogEntry.mergeIn true c) k.log = none := changeLast_none h
  rw [Records.merge, hnone]
  simp only [hnone']

theorem append_keeps (k : Records) (c : LogEntry) :
    (k.append c).log = k.log ++ [{ c with number := k.nextNumber }] ∧
      (k.append c).nextNumber = countTo entryNumberMax k.nextNumber ∧ (k.append c).full = k.full := by
  simp [Records.append]

/-- Each entering of the full log sets the log-full flag (R187). -/
theorem merge_full (k : Records) (c : LogEntry) : (k.merge c).full = true := by
  rw [Records.merge]
  split
  · simp
  · split
    · simp
    · exact (append_keeps _ c).2.2

/-- An entered candidate keeps the built report and joins its tank's total (R186). -/
theorem enter_totals (hv : c.volume ≠ 0) : (k.enter c).report = k.report ∧
    ∀ tank < 48, ∀ out, (total k tank out).toNat + share c tank out < 2 ^ 48 →
      (total (k.enter c) tank out).toNat = (total k tank out).toNat + share c tank out := by
  rcases enter_cases k c with ⟨h, -⟩ | ⟨log, n, full, henter, -⟩
  · exact absurd h hv
  · rw [henter]
    exact ⟨(addTotal_keeps ..).2.2.2,
      fun tank ht out => toNat_total_addTotal { k with log := log, nextNumber := n, full := full } c out ht⟩

end

theorem share_eq (c : LogEntry) (tank : Nat) (out : Bool) :
    share c tank out = if tank = c.tank ∧ out = c.out then c.volume else 0 := by
  simp only [share, eq_comm]

/-- Settles O55: an entered candidate is appended, merged or appended after a compaction (`enter_room`, `merge_method`,
`merge_mixed`, `merge_compacts`), and a transfer that closes returns to IDLE by `tryIdle_returns`. -/
theorem theLogEntersItsCandidates : Obligations.TheLogEntersItsCandidates := by
  refine ⟨fun k c => ?_, fun d s => ⟨fun h1 h2 => tryIdle_returns h1 h2, tryIdle_not⟩⟩
  intro same t merged appended
  have happended (r : Records) (hn : r.nextNumber = k.nextNumber) (ht : t = r.append c) : appended r.log := by
    obtain ⟨hlog, hnumber, -⟩ := append_keeps r c
    rw [hn] at hlog hnumber
    exact ⟨ht ▸ hlog, ht ▸ hnumber⟩
  refine ⟨fun hv => if_pos hv, fun hv => ?_, fun hv hroom => ?_, fun hv hfull => ?_⟩
  · obtain ⟨hreport, htotals⟩ := enter_totals (k := k) hv
    simp only [share_eq] at htotals
    exact ⟨hreport, htotals⟩
  · have ht : t = k.append c := enter_room hv hroom
    exact ⟨happended k rfl ht, ht ▸ (append_keeps k c).2.2⟩
  · have ht : t = k.merge c := enter_full hv hfull
    have hmerged {r : Records} (hr : k.merge c = r.addTotal c) : t.log = r.log ∧ t.nextNumber = r.nextNumber := by
      rw [ht, hr]
      exact ⟨(addTotal_keeps r c).1, (addTotal_keeps r c).2.1⟩
    refine ⟨ht ▸ merge_full k c, fun l e r hlog he hm hr => ?_, fun l e r hlog he hm hr => ?_, fun hnone => ?_⟩
    · exact hmerged (merge_method hlog (same_iff.2 he) hm fun x hx hsame => hr x hx ⟨same_iff.1 hsame.1, hsame.2⟩)
    · exact hmerged (merge_mixed hlog (same_iff.2 he) (fun x hx hsame => hm x hx (same_iff.1 hsame))
        fun x hx => same_eq_false_iff.2 (hr x hx))
    · intro l e m f r hlog htank hout hm hfirst
      have hcompact : compact k.log = l ++ m ++ e.absorb f :: r := by
        rw [hlog] at hfirst ⊢
        have hbetween (x : LogEntry) (hx : x ∈ m) : e.same x = false :=
          same_eq_false_iff.2 fun ⟨ht, ho⟩ => hm x hx ⟨ht.symm, ho.symm⟩
        refine compact_at (same_iff.2 ⟨htank, hout⟩) hbetween fun i j a b hij ha hb hab => ?_
        obtain ⟨hsametank, hsameout⟩ := same_iff.1 hab
        exact hfirst i j a b hij ha hb hsametank hsameout
      rw [merge_compacts fun x hx => same_eq_false_iff.2 (hnone x hx), hcompact] at ht
      exact happended { k with log := l ++ m ++ e.absorb f :: r, full := true } rfl ht

/-! ## The bytes and the pages of a report (R190) -/

/-- The most bytes an item takes: as laid out where its layout is given, and within 12 else (R190; log entry 7). -/
def itemRoom : Item → Nat
  | .raw bs => bs.length
  | _ => itemMax

@[simp] theorem itemRoom_num (v : Int) : itemRoom (.num v) = 12 := rfl

@[simp] theorem itemRoom_flag (b : Bool) : itemRoom (.flag b) = 12 := rfl

@[simp] theorem itemRoom_opState (x : OpState) : itemRoom (.opState x) = 12 := rfl

@[simp] theorem itemRoom_natOr (n : Option Nat) : itemRoom (natOr n) = 12 := by cases n <;> rfl

theorem itemBytes_length_le (message place : Nat) (i : Item) : (i.bytes message place).length ≤ itemRoom i := by
  cases i with
  | raw bs => exact le_rfl
  | _ => exact List.length_take_le ..

theorem itemsBytes_length_le (message : Nat) (l : List Item) (place : Nat) :
    (itemsBytes message place l).length ≤ (l.map itemRoom).sum := by
  induction l generalizing place with
  | nil => exact le_rfl
  | cons i is ih =>
    have hi := itemBytes_length_le message place i
    have his := ih (place + 1)
    simp only [itemsBytes, List.length_append, List.map_cons, List.sum_cons]
    omega

theorem reportBytes_length_le (r : Report) : r.bytes.length ≤ (r.contents.map itemRoom).sum :=
  itemsBytes_length_le ..

/-- 16 pages of 200 bytes hold 3,200. -/
theorem pages_le {r : Report} (h : (r.contents.map itemRoom).sum ≤ 3200) : r.pages ≤ 16 := by
  have := reportBytes_length_le r
  simp only [Report.pages, pageSize]
  omega

section
variable {r : Report} {n : Nat}

theorem page_eq (r : Report) (n : Nat) : r.page n = (r.bytes.drop (200 * (n - 1))).take 200 := rfl

/-- Every page but the last is full (R190). -/
theorem page_full (h1 : 1 ≤ n) (h : n < r.pages) : (r.page n).length = 200 := by
  simp only [Report.pages, pageSize] at h
  simp only [page_eq, List.length_take, List.length_drop]
  omega

/-- The last page holds at least one byte (R190). -/
theorem page_nonempty (h1 : 1 ≤ n) (h : n ≤ r.pages) : 1 ≤ (r.page n).length := by
  simp only [Report.pages, pageSize] at h
  simp only [page_eq, List.length_take, List.length_drop]
  omega

end

/-! ## The contents of the reports (R191) -/

@[simp] theorem toBEInt_length (v : Int) (n : Nat) : (toBEInt v n).length = n := toBE_length ..

@[simp] theorem pourBytes_length (r : PourRec) : r.bytes.length = 67 := by
  have horigin : r.origin.bytes.length = 2 := by cases r.origin <;> rfl
  have hcond : (condBytes r.cond).length = 31 := by
    cases r.cond <;> simp [condBytes, sequenceField]
  have hcorrection : (correctionBytes r.correction).length = 5 := by
    cases r.correction <;> simp [correctionBytes]
  simp [PourRec.bytes, horigin, hcond, hcorrection]

@[simp] theorem cpBytes_length (f : CpFig) : f.bytes.length = 11 := by simp [CpFig.bytes]

/-- A published record takes 48 bytes and eleven for each checkpoint (Condition record). -/
theorem publishedBytes_length (p : Published) : p.bytes.length = 48 + 11 * p.cond.cps.length := by
  have hcps : (p.cond.cps.flatMap CpFig.bytes).length = 11 * p.cond.cps.length := by
    simp [List.length_flatMap, Nat.mul_comm]
  simp only [Published.bytes, sequenceField, List.length_append, toBE_length, toBEInt_length, field4_length, hcps]

/-- A DISCHARGE report has at most 252 items, none of a layout of its own. -/
theorem dischargeRoom_le (s : State) : ((dischargeContents s).map itemRoom).sum ≤ 3200 := by
  have hblock (c : Nat) : ((tankBlock s c).map itemRoom).sum = 60 := rfl
  have hcount : (compartments.filter (hasBlock s)).length ≤ 48 := List.length_filter_le ..
  have hblocks : (((compartments.filter (hasBlock s)).flatMap (tankBlock s)).map itemRoom).sum =
      60 * (compartments.filter (hasBlock s)).length := by
    simp [List.flatMap_def, List.sum_flatten, Function.comp_def, hblock, Nat.mul_comm]
  simp only [dischargeContents, List.map_append, List.sum_append, hblocks]
  simp only [natItem, pumps, List.map_cons, List.map_nil, List.sum_cons, List.sum_nil, itemRoom_num, itemRoom_flag,
    itemRoom_opState, itemRoom_natOr]
  omega

/-- A FINAL report has thirteen items beside the published record, whose checkpoints are at most 16. -/
theorem finalRoom_le (s : State) (h : ∀ p, s.engine.published = some p → p.cond.cps.length ≤ 16) :
    ((finalContents s).map itemRoom).sum ≤ 3200 := by
  have hpublished : itemRoom (publishedItem s) ≤ 224 := by
    unfold publishedItem
    split
    · next p hp =>
      have := h p hp
      rw [itemRoom, publishedBytes_length]
      omega
    · decide
  simp only [finalContents, natItem, List.map_cons, List.map_nil, List.sum_cons, List.sum_nil, itemRoom_num, itemRoom_natOr,
    itemRoom_flag]
  omega

theorem flatMap_filter_eq {α β : Type} (p : α → Bool) (f : α → List β) (l : List α) :
    (l.filter p).flatMap f = l.flatMap fun a => if p a = true then f a else [] := by
  induction l with
  | nil => rfl
  | cons a l ih => by_cases ha : p a = true <;> simp [ha, ih]

theorem hasBlock_iff {s : State} {c : Nat} : hasBlock s c = true ↔ 0 < (s.records.discharged.get c).toNat ∨
    0 < (s.records.takenUp.get c).toNat ∨ Machine.unexplainedOf s c ≠ 0 ∨ changedOf s c = true := by
  have hpos (b : BitVec 48) : (b != 0#48) = true ↔ 0 < b.toNat := by
    rw [bne_iff_ne, ne_eq, ← BitVec.toNat_inj]
    simp [Nat.pos_iff_ne_zero]
  simp only [hasBlock, Bool.or_eq_true, hpos, bne_iff_ne, or_assoc]

/-! ## RPTB (R190, R191) -/

theorem rule_rptb : RuleOf .rptb rptbMsg := ⟨rfl, fun _ _ => rfl⟩
theorem rule_rptg : RuleOf .rptg rptgMsg := ⟨rfl, fun _ _ => rfl⟩

/-- The part with a report built into the buffer (R190). -/
def withReport (r : Report) (s : State) : State := { s with records := { s.records with report := some r } }

theorem buildReport_eq (kind : ReportKind) (place : Option Nat) (contents : List Item) (s : State) :
    buildReport kind place contents s =
      done (withReport ⟨kind, place, s.time.port, contents⟩ s)
        [.reportKind kind, .num (Report.mk kind place s.time.port contents).pages] := rfl

section
variable (u : State) {args : List Byte} {b : Byte}

theorem readReport_other (h : ¬ ((∃ k : Byte, k ≠ 0#8 ∧ args = [k]) ∨ ∃ place, args = [0#8, place])) :
    readReport args = none := by
  match args with
  | [] => rfl
  | [k] =>
    obtain rfl : k = 0#8 := by_contra fun hk => h (.inl ⟨k, hk, rfl⟩)
    rfl
  | [k, place] =>
    have hk : k.toNat ≠ 0 := fun hk => h (.inr ⟨place, by rw [BitVec.eq_of_toNat_eq (y := 0#8) hk]⟩)
    exact if_neg hk
  | _ :: _ :: _ :: _ => rfl

theorem readReport_unknown (h : 2 < b.toNat) : readReport [b] = some .unknownKind := by
  simp only [readReport]
  split
  · omega
  · omega
  · omega
  · rfl

theorem readReport_place (place : Byte) : readReport [0#8, place] = some (.pour place.toNat) := rfl

theorem rptbMsg_length (h : ¬ ((∃ k : Byte, k ≠ 0#8 ∧ args = [k]) ∨ ∃ place, args = [0#8, place])) :
    rptbMsg args u = refuse .length u := by
  simp only [rptbMsg, readReport_other h]

theorem rptbMsg_unknown (h : 2 < b.toNat) : rptbMsg [b] u = refuse .range u := by
  simp only [rptbMsg, readReport_unknown h]

theorem rptbMsg_range (h : b.toNat = 0 ∨ 128 < b.toNat) : rptbMsg [0#8, b] u = refuse .range u := by
  have : inRange 1 historyMax b.toNat = false := inRange_eq_false_iff.2 (by rw [historyMax]; omega)
  simp only [rptbMsg, readReport_place, if_pos this]

theorem place_inRange (h1 : 1 ≤ b.toNat) (h2 : b.toNat ≤ 128) : ¬ inRange 1 historyMax b.toNat = false := by
  rw [inRange_eq_false_iff, historyMax]
  omega

theorem rptbMsg_state (h1 : 1 ≤ b.toNat) (h2 : b.toNat ≤ 128) (h : u.tracker.history[b.toNat - 1]? = none) :
    rptbMsg [0#8, b] u = refuse .state u := by
  simp only [rptbMsg, readReport_place, if_neg (place_inRange h1 h2), h]

theorem rptbMsg_pour {r : PourRec} (h1 : 1 ≤ b.toNat) (h2 : b.toNat ≤ 128)
    (h : u.tracker.history[b.toNat - 1]? = some r) :
    rptbMsg [0#8, b] u = buildReport .pour (some b.toNat) (pourContents u r) u := by
  simp only [rptbMsg, readReport_place, if_neg (place_inRange h1 h2), h]

theorem rptbMsg_discharge : rptbMsg [1#8] u =
    if u.tracker.op = .idle then refuse .state u else buildReport .discharge none (dischargeContents u) u := rfl

theorem rptbMsg_final : rptbMsg [2#8] u =
    if u.tracker.op ≠ .complete then refuse .state u else buildReport .final none (finalContents u) u := rfl

end

/-- A tank block is given exactly where R191 asks for one. -/
theorem dischargeContents_eq (s : State) : dischargeContents s =
    [.num s.time.port, .opState s.tracker.op, natOr s.tracker.opbgStamp, .num s.records.log.length, .flag s.records.full,
        .num (s.records.nextNumber - 1 : Nat), .num (sumTotals s.records.discharged), .num (sumTotals s.records.takenUp)] ++
      ((List.range 48).flatMap fun c =>
        if 0 < (s.records.discharged.get c).toNat ∨ 0 < (s.records.takenUp.get c).toNat ∨
            Machine.unexplainedOf s c ≠ 0 ∨ changedOf s c = true then tankBlock s c
        else []) ++
      [.num (unattributedVolume s .p0), .num (unattributedVolume s .p1), .num (unattributedVolume s .p2),
        .num (unattributedVolume s .p3)] := by
  simp only [dischargeContents, flatMap_filter_eq, hasBlock_iff]
  rfl

/-! ## RPTG (R192) -/

section
variable (u : State) {b : Byte} {r : Report}

theorem rptgMsg_length {args : List Byte} (h : args.length ≠ 1) : rptgMsg args u = refuse .length u := by
  simp only [rptgMsg, readOne_none 1 args h]

theorem rptgMsg_none (h : u.records.report = none) : rptgMsg [b] u = refuse .range u := by
  simp only [rptgMsg, readOne_byte, h]

theorem rptgMsg_range (hr : u.records.report = some r) (h : b.toNat = 0 ∨ r.pages < b.toNat) :
    rptgMsg [b] u = refuse .range u := by
  have : inRange 1 r.pages b.toNat = false := inRange_eq_false_iff.2 (by omega)
  simp only [rptgMsg, readOne_byte, hr, if_pos this]

theorem rptgMsg_gives (hr : u.records.report = some r) (h1 : 1 ≤ b.toNat) (h2 : b.toNat ≤ r.pages) :
    rptgMsg [b] u =
      done u [.reportKind r.kind, .num r.stamp, .num b.toNat, .num r.pages, .raw (r.page b.toNat)] := by
  have : ¬ inRange 1 r.pages b.toNat = false := by rw [inRange_eq_false_iff]; omega
  simp only [rptgMsg, readOne_byte, hr, if_neg this]
  rfl

end

/-- Settles O54: RPTB by its kinds, with the contents of `dischargeContents_eq` and `finalContents`, RPTG by the page it names, and
every report within 3,200 bytes (`pages_le`). -/
theorem reportsAreBuiltAndFetchedByPage : Obligations.ReportsAreBuiltAndFetchedByPage := by
  refine ⟨fun s hr => ?_, rule_rptb.otherForms fun args u h => rptbMsg_length u h, unknownOnShore _ rfl, fun s n hr => ?_,
    rule_rptg.otherForms fun args u h => rptgMsg_length u h, unknownOnShore _ rfl, fun s => ⟨?_, ?_, ?_⟩⟩
  · intro u no builds now k outs ins moved changed block loose discharge final
    have hbuilds {args : List Byte} (r : Report) (hlen : args.length ≤ maxArgs) (hstamp : r.stamp = now)
        (h : rptbMsg args (u args) = buildReport r.kind r.place r.contents (u args)) : builds args r := by
      obtain ⟨kind, place, stamp, contents⟩ := r
      obtain rfl : stamp = now := hstamp
      exact rule_rptb.answers hr hlen (h.trans (buildReport_eq ..))
    have hfits (a b : Byte) : [a, b].length ≤ maxArgs := by simp [maxArgs]
    refine ⟨fun place => ⟨fun h => rule_rptb.refuses hr (hfits _ _) (rptbMsg_range _ h),
        fun h1 h2 => ⟨fun h => ?_, fun r h => ?_⟩⟩,
      fun h => ?_, fun h => ?_, fun h => ?_, fun h => ?_,
      fun b h => rule_rptb.refuses hr (byte_fits b) (rptbMsg_unknown _ h)⟩
    · have hnone : s.tracker.history[place.toNat - 1]? = none := List.getElem?_eq_none (by omega)
      exact rule_rptb.refuses hr (hfits _ _) (rptbMsg_state _ h1 h2 hnone)
    · exact hbuilds _ (hfits _ _) rfl (rptbMsg_pour _ h1 h2 h)
    · exact rule_rptb.refuses hr (byte_fits _) ((rptbMsg_discharge _).trans (if_pos h))
    · refine hbuilds ⟨.discharge, none, now, discharge⟩ (byte_fits _) rfl ((rptbMsg_discharge _).trans ((if_neg h).trans ?_))
      exact congrArg (buildReport .discharge none · (u [1#8])) (dischargeContents_eq (u [1#8]))
    · exact rule_rptb.refuses hr (byte_fits _) ((rptbMsg_final _).trans (if_pos h))
    · exact hbuilds ⟨.final, none, now, final⟩ (byte_fits _) rfl ((rptbMsg_final _).trans (if_neg (not_not.2 h)))
  · refine ⟨fun h => ?_, fun r h h1 h2 => ?_⟩
    · rcases h with h | ⟨r, h, hn⟩
      · exact rule_rptg.refuses hr (byte_fits n) (rptgMsg_none _ h)
      · exact rule_rptg.refuses hr (byte_fits n) (rptgMsg_range _ h hn)
    · exact ⟨rule_rptg.replies hr (byte_fits n) (rptgMsg_gives _ h h1 h2), page_full h1, page_nonempty h1 h2⟩
  · intro place r _
    exact pages_le (by simp [itemRoom])
  · exact pages_le (dischargeRoom_le s)
  · exact fun h => pages_le (finalRoom_le s h)

/-! ## What every act keeps of the account and the sizes -/

/-- `t` keeps of `s` that the totals balance the log (R189) and that the history, the shore queue and the window are within their
sizes (R147, R203, R11). -/
def Keeps (s t : State) : Prop :=
  (Balanced s.records → Balanced t.records) ∧ (SizesBounded s → SizesBounded t)

theorem Keeps.refl (s : State) : Keeps s s := ⟨id, id⟩

theorem Keeps.trans {s u t : State} (h : Keeps s u) (k : Keeps u t) : Keeps s t := ⟨k.1 ∘ h.1, k.2 ∘ h.2⟩

/-- An act that leaves the records, the shore queue, the history and the window keeps both. -/
theorem keeps_of_same {s t : State} (h : t.records = s.records ∧ t.links.queue = s.links.queue ∧
    t.tracker.history = s.tracker.history ∧ t.store.window = s.store.window) : Keeps s t := by
  obtain ⟨hr, hq, hh, hw⟩ := h
  exact ⟨by rw [hr]; exact id, by rw [SizesBounded, SizesBounded, hq, hh, hw]; exact id⟩

theorem keeps_foldl {α : Type} {f : State → α → State} (h : ∀ s x, Keeps s (f s x)) (l : List α) (s : State) :
    Keeps s (l.foldl f s) := by
  induction l generalizing s with
  | nil => exact .refl s
  | cons x xs ih => exact (h s x).trans (ih _)

/-! ## Acts that leave the shore queue -/

section
variable (s : State)

@[simp] theorem raisePour_queue (e : PourEvent) (c : Option (Nat × Nat)) (set : Reasons) :
    (raisePour e c set s).links.queue = s.links.queue := by simp [raisePour]

@[simp] theorem suspendSeq_queue (why : SuspendReason) (detail : SuspendDetail) :
    (suspendSeq why detail s).links.queue = s.links.queue := by
  simp only [suspendSeq]; split <;> simp

@[simp] theorem deadlockCheck_queue : (deadlockCheck s).links.queue = s.links.queue := by
  simp only [deadlockCheck]; split <;> simp

@[simp] theorem raiseLimit_queue (old : LimitFlags) (c : Bool) : (raiseLimit old c s).links.queue = s.links.queue := by
  simp only [raiseLimit]; split <;> simp

@[simp] theorem limitsWithdraw_queue : (limitsWithdraw s).links.queue = s.links.queue := by
  simp only [limitsWithdraw]; split <;> simp

@[simp] theorem limitsBegin_queue (p : OpParams) : (limitsBegin p s).links.queue = s.links.queue := by
  simp only [limitsBegin]; split <;> simp

@[simp] theorem announcePlanDone_queue : (announcePlanDone s).links.queue = s.links.queue := by
  simp only [announcePlanDone]; split <;> simp

@[simp] theorem targetUnderConsole_queue (d : Driver) : (targetUnderConsole d s).links.queue = s.links.queue := by
  simp only [targetUnderConsole]; split <;> simp

@[simp] theorem completeSeq_queue : (completeSeq s).links.queue = s.links.queue := by simp [completeSeq]

@[simp] theorem nextStep_queue : (nextStep s).1.links.queue = s.links.queue := by
  simp only [nextStep, endPass]; (repeat' split) <;> simp

@[simp] theorem judgeLeaving_queue (await : Bool) (p : Progress) :
    (judgeLeaving await p s).1.links.queue = s.links.queue := by
  simp only [judgeLeaving]; (repeat' split) <;> simp

@[simp] theorem present_queue (r : StartReq) (await : Bool) : (present r await s).1.links.queue = s.links.queue := by
  simp only [present]; split <;> simp

@[simp] theorem finishSuspending_queue : (finishSuspending s).links.queue = s.links.queue := by
  simp only [finishSuspending]; (repeat' split) <;> simp

@[simp] theorem hostToFault_queue (before : State) : (hostToFault before s).links.queue = s.links.queue := by
  simp only [hostToFault]; (repeat' split) <;> simp

@[simp] theorem takeBackValve_queue (ch : Nat) : (takeBackValve s ch).links.queue = s.links.queue := by
  simp only [takeBackValve]; (repeat' split) <;> simp

@[simp] theorem raiseGauge_queue (before : State) : (raiseGauge before s).links.queue = s.links.queue := by
  simp only [raiseGauge]; (repeat' split) <;> simp

@[simp] theorem examineTanks_queue : (examineTanks s).links.queue = s.links.queue := by
  unfold examineTanks
  refine foldl_keep (fun u => u.links.queue) _ (fun u c => ?_) _ _
  simp only [examineTank]; (repeat' split) <;> simp

/-! ## Acts that enter a candidate -/

theorem keeps_enterLog (c : LogEntry) : Keeps s (enterLog c s) :=
  ⟨balanced_enter c, by simp [SizesBounded]⟩

theorem keeps_logTransfer (d : Driver) : Keeps s (logTransfer d s) := by
  simp only [logTransfer]
  split
  · exact keeps_enterLog s _
  · exact .refl s

theorem keeps_returnToIdle (d : Driver) : Keeps s (returnToIdle d s) := by
  have hclosed : Keeps s (blendFill d (closeRecord d s)) := keeps_of_same (by simp)
  exact (hclosed.trans (keeps_logTransfer _ d)).trans (keeps_of_same (by simp [returnToIdle]))

theorem keeps_tryIdle (d : Driver) : Keeps s (tryIdle d s) := by
  unfold tryIdle
  split
  · exact keeps_returnToIdle s d
  · exact .refl s

theorem keeps_endTransfer (d : Driver) (r : EndReason) : Keeps s (endTransfer d r s) :=
  (keeps_of_same (by simp)).trans (keeps_tryIdle _ d)

theorem keeps_endEvent (d : Driver) (r : EndReason) : Keeps s (endEvent d r s) := by
  unfold endEvent
  split
  · exact keeps_endTransfer s d r
  · exact .refl s

theorem keeps_endEvents (ds : List Driver) (r : EndReason) : Keeps s (endEvents ds r s) :=
  keeps_foldl (fun u d => keeps_endEvent u d r) ds s

theorem keeps_valveArrives (ch : Nat) : Keeps s (valveArrives ch s) := by
  simp only [valveArrives]
  split
  · exact (keeps_of_same (by simp)).trans (keeps_tryIdle _ _)
  · exact keeps_of_same (by simp)

theorem keeps_valveFails (ch : Nat) (cause : ValveFault) : Keeps s (valveFails ch cause s) := by
  have hfail : Keeps s (raise (.valve ch cause (feedback s ch) (holderOf s ch)) (s.setValve ch ((s.valve ch).fail cause))) :=
    keeps_of_same (by simp)
  simp only [valveFails]
  split
  · split
    · exact hfail.trans (keeps_tryIdle _ _)
    · exact hfail.trans (keeps_endEvent _ _ _)
  · exact hfail

theorem keeps_settleAssignments (before : State) : Keeps s (settleAssignments before s) := by
  refine (keeps_of_same (by simp)).trans (keeps_foldl (fun u ch => ?_) channels (dropAssignments before s))
  unfold gainAssignment
  split
  · exact keeps_valveFails u ch _
  · exact .refl u

theorem keeps_judgeLimits (before : State) (ch : Nat) : Keeps s (judgeLimits before s ch) := by
  have hfails (cause : ValveFault) := keeps_valveFails s ch cause
  have harrives := keeps_valveArrives s ch
  simp only [judgeLimits]; (repeat' split)
  exacts [.refl s, hfails _, harrives, .refl s, hfails _, harrives, .refl s, hfails _, hfails _, .refl s, hfails _, hfails _,
    .refl s]

theorem keeps_headChecks : Keeps s (headChecks s) := by
  refine keeps_foldl (fun u d => ?_) _ s
  simp only [headCheck]
  split
  · exact keeps_endEvent u d _
  · exact .refl u

theorem keeps_sweepChecks : Keeps s (sweepChecks s) := by
  refine keeps_foldl (fun u d => ?_) _ s
  have hactive : Keeps u (match endCheck u d with | some reason => endTransfer d reason u | none => u) := by
    split
    · exact keeps_endTransfer u d _
    · exact .refl u
  unfold sweepCheck
  split
  · exact hactive
  · exact hactive
  · exact hactive
  · exact keeps_of_same (by simp)
  · exact .refl u
  · exact .refl u

theorem keeps_stopStep (code : Nat) : Keeps s (stopStep code s) := by
  unfold stopStep
  split
  · exact keeps_endEvent s _ _
  · exact .refl s

theorem keeps_accountHand : Keeps s (accountHand s) := by
  have hentries (snap : Tab 48 (Option TankSnap)) : Keeps s (compartments.foldl (handEntry snap) s) := by
    refine keeps_foldl (fun u c => ?_) _ s
    simp only [handEntry]; (repeat' split)
    exacts [keeps_enterLog u _, .refl u, .refl u]
  unfold accountHand
  split
  · next snap _ => exact (hentries snap).trans (keeps_of_same (by simp))
  · exact keeps_of_same (by simp)

/-! ## Acts that send a shore notice -/

/-- A queue of 16 loses its oldest before it takes a notice (R203). -/
theorem keeps_issueShore (n : ShoreNotice) : Keeps s (issueShore n s) := by
  refine ⟨by simp, fun ⟨hh, hq, hw⟩ => ⟨by simpa, ?_, by simpa using hw⟩⟩
  simp only [issueShore]
  split
  · next hroom => simpa using hroom
  · split
    · exact hq
    · next oldest rest hfull =>
      rw [hfull] at hq
      simpa using hq

theorem keeps_issueShore_of {u : State} (n : ShoreNotice) (h : Keeps s u) : Keeps s (issueShore n u) :=
  h.trans (keeps_issueShore u n)

theorem keeps_actOn (c : Concerned) (set : Reasons) : Keeps s (actOn c set s) := by
  have hpermit (p : CurrentPour) : Keeps s (sendPermit p s) := keeps_issueShore_of s _ (keeps_of_same (by simp))
  have hhold (p : CurrentPour) : Keeps s (sendHold p set s) := keeps_issueShore_of s _ (keeps_of_same (by simp))
  have hresume (p : CurrentPour) : Keeps s (sendResume p s) := keeps_issueShore_of s _ (keeps_of_same (by simp))
  have hfollow (p : CurrentPour) : Keeps s (followReasons p set s) := keeps_of_same (by simp [followReasons])
  unfold actOn
  split
  · split
    · exact hpermit _
    · exact .refl s
  · split
    · exact .refl s
    · exact hhold _
  · split
    · exact .refl s
    · exact hhold _
  · exact hfollow _
  · split
    · exact hresume _
    · split
      · exact hpermit _
      · exact hfollow _
  · exact .refl s

theorem keeps_evaluate : Keeps s (evaluate s) := by
  simp only [evaluate]
  split
  · exact .refl s
  · next c _ =>
    have hact : Keeps s (actOn c (reasonSet s c) (s.setTracker { s.tracker with lastReasons := reasonSet s c })) :=
      (keeps_of_same (by simp)).trans (keeps_actOn _ _ _)
    split
    · exact hact.trans (keeps_of_same (by simp))
    · exact hact

/-- An evaluation of a part that has kept both. -/
theorem keeps_evaluate_of {u : State} (h : Keeps s u) : Keeps s (evaluate u) := h.trans (keeps_evaluate u)

theorem keeps_trackerPublish (rob : Nat) : Keeps s (trackerPublish rob s) := by
  have hlag : Keeps s (evaluate (s.setTracker (withLag rob s.tracker))) :=
    keeps_evaluate_of s (keeps_of_same (by simp [withLag_eq]))
  simp only [trackerPublish]
  split
  · exact hlag.trans (keeps_of_same (by simp))
  · exact hlag

theorem keeps_setLatch (cause : LatchCause) (n : Nat) : Keeps s (setLatch cause n s) :=
  keeps_evaluate_of s (keeps_of_same (by simp))

theorem keeps_judgePublish (p : Published) : Keeps s (judgePublish p s) := by
  have henter (w : Watch) (u : State) : Keeps u (enterBreach w u) := by
    simp only [enterBreach]
    split
    · exact (keeps_of_same (by simp)).trans (keeps_setLatch _ _ _)
    · exact .refl u
  have hjudged : Keeps s (judgeFigures p s) := keeps_of_same (by simp)
  exact (hjudged.trans (henter s.limits.watch _)).trans (keeps_of_same (by simp [judgePublish]))

theorem keeps_applyTide (height : Int) : Keeps s (applyTide height s) := by
  simp only [applyTide]
  split
  · exact keeps_evaluate_of s (keeps_of_same (by simp [judgeAir]))
  · exact keeps_of_same (by simp)

theorem keeps_releaseLatch : Keeps s (releaseLatch s) := by
  unfold releaseLatch
  split
  · exact keeps_evaluate_of s (keeps_of_same (by simp))
  · exact .refl s

/-! ## The walk (R126) -/

theorem keeps_nextStep : Keeps s (nextStep s).1 := keeps_of_same (by simp)

theorem keeps_takeStep : Keeps s (takeStep s).1 := by
  simp only [takeStep]
  split
  · split <;> exact keeps_of_same (by simp)
  · exact (keeps_stopStep s _).trans (keeps_nextStep _)
  · split <;> exact keeps_of_same (by simp)
  · split <;> exact keeps_of_same (by simp)
  · exact keeps_of_same (by simp)
  · exact (keeps_evaluate_of s (keeps_of_same (by simp))).trans (keeps_nextStep _)
  · exact keeps_of_same (by simp [endStep])
  · exact .refl s

theorem keeps_walkSteps (n : Nat) : Keeps s (walkSteps n s) := by
  induction n generalizing s with
  | zero => exact .refl s
  | succ n ih =>
    have hstep := keeps_takeStep s
    rw [walkSteps]
    split
    · next u hu =>
      rw [hu] at hstep
      exact hstep.trans (ih u)
    · next u hu =>
      rw [hu] at hstep
      exact hstep

theorem keeps_walk : Keeps s (walk s) := (keeps_of_same (by simp)).trans (keeps_walkSteps _ _)

theorem keeps_moveOn : Keeps s (moveOn s) := by
  have hnext : Keeps s (nextStep (waitFor .nothing s)).1 := keeps_of_same (by simp)
  rw [moveOn, Walked.goOn]
  split
  · exact hnext.trans (keeps_walk _)
  · exact hnext

theorem keeps_resumeStep : Keeps s (resumeStep s) := by
  simp only [resumeStep]
  split
  · split
    · exact keeps_moveOn s
    · exact keeps_of_same (by simp)
  · exact keeps_walk s

/-! ## What an act hands on (R125, R172, R176) -/

theorem keeps_sequencerHears (before : State) : Keeps s (sequencerHears before s) := by
  simp only [sequencerHears]
  have hwalk (b : Bool) : Keeps s (if b = true then walk s else s) := by
    split
    · exact keeps_walk s
    · exact .refl s
  split
  · split
    · exact hwalk _
    · exact hwalk _
    · exact keeps_walk s
    · exact keeps_walk s
    · exact keeps_walk s
    all_goals exact .refl s
  · exact keeps_of_same (by simp)
  · split <;> exact keeps_of_same (by simp)
  all_goals exact .refl s

theorem keeps_hearRecord : Keeps s (hearRecord s) := by
  simp only [hearRecord]
  split
  · split
    · exact keeps_walk s
    · exact .refl s
  · exact .refl s

theorem keeps_endReconciling : Keeps s (endReconciling s) := by
  have hreturn (u : State) : Keeps u (returnSeq u) := by
    simp only [returnSeq]
    split
    · split
      · exact (keeps_of_same (by simp)).trans (keeps_resumeStep _)
      · exact keeps_of_same (by simp)
    · exact .refl u
  simp only [endReconciling]
  split
  · have hback (c : Console) : Keeps s (returnSeq (s.setConsole c)) :=
      .trans (u := s.setConsole c) (keeps_of_same (by simp)) (hreturn _)
    have hrise (u : State) : Keeps u (requestRises u) := keeps_of_same (by simp)
    split
    · exact (hback _).trans (hrise _)
    · exact hback _
  · exact .refl s

theorem keeps_settle (before : State) : Keeps s (settle before s) :=
  ((keeps_sequencerHears s before).trans (keeps_endReconciling _)).trans (keeps_of_same (by simp [settle]))

/-- What a part that has kept both hands on at the end of its act. -/
theorem keeps_settle_of {u : State} (before : State) (h : Keeps s u) : Keeps s (settle before u) :=
  h.trans (keeps_settle u before)

theorem keeps_releaseConsole : Keeps s (releaseConsole s) := by
  have hcarry (u : State) (j : Driver × Option EndReason) : Keeps u (carryOut u j) := by
    unfold carryOut
    split
    · next r _ =>
      have hend := keeps_endTransfer u j.1 r
      simp only [endHanded]
      split
      · exact hend.trans (keeps_of_same (by simp))
      · exact hend
    · exact keeps_of_same (by simp)
  have hvalves (u : State) : Keeps u (channels.foldl takeBackValve u) :=
    keeps_foldl (fun v ch => keeps_of_same (by simp)) _ u
  simp only [releaseConsole]
  refine ((((keeps_of_same (by simp)).trans (hvalves _)).trans (keeps_foldl hcarry _ _)).trans (keeps_accountHand _)).trans
    (keeps_endReconciling _)

end

/-! ## The loading operation (R148 to R166) -/

section
variable (s : State)

theorem keeps_applyExchange : Keeps s (applyExchange s) := by
  have hswap : Keeps s (swapPlans s) := keeps_of_same (by simp [swapPlans])
  have hvoid (before u : State) : Keeps u (voidPermit before u) := by
    unfold voidPermit
    split
    · exact keeps_issueShore_of u _ (keeps_of_same (by simp))
    · exact .refl u
  exact keeps_evaluate_of s ((hswap.trans (hvoid s _)).trans (keeps_of_same (by simp)))

/-- OPBG empties the log, the totals and the history (R148, R194). -/
theorem keeps_beginOperation (p : OpParams) : Keeps s (beginOperation p s) := by
  have hbegun (u : State) (hw : u.store = s.store) (hq : u.links.queue = s.links.queue) (hh : u.tracker.history = []) :
      Keeps s (beginRecords u) := by
    refine ⟨fun _ => balanced_empty rfl rfl rfl, fun ⟨_, hqueue, hwindow⟩ => ⟨?_, ?_, ?_⟩⟩
    · simp [hh]
    · simpa [hq] using hqueue
    · simpa [hw] using hwindow
  have hannounce (u : State) : Keeps u (announcePlanDone u) := keeps_of_same (by simp)
  exact keeps_evaluate_of s (.trans (hbegun _ (by simp) (by simp) (by simp [beginTracker])) (hannounce _))

theorem keeps_setHold (h m : Nat) : Keeps s (setHold h m s) := by
  have hhold (t : Tracker) (c : Int) : (addCorrection h c t).history = t.history := by
    unfold addCorrection; split <;> rfl
  exact keeps_evaluate_of s (keeps_of_same (by simp [hhold]))

theorem keeps_openUnexpected (pour hold : Nat) : Keeps s (openUnexpected pour hold s) := by
  have hsend (p : CurrentPour) (set : Reasons) (u : State) : Keeps u (sendHold p set u) :=
    keeps_issueShore_of u _ (keeps_of_same (by simp))
  exact .trans (keeps_of_same (by simp)) (hsend _ _ _)

theorem keeps_changePour (f : CurrentPour → CurrentPour) : Keeps s (changePour f s) := keeps_of_same (by simp [changePour])

theorem keeps_takeTally (p : CurrentPour) (tally : Nat) : Keeps s (takeTally p tally s) := by
  have hrise (u : State) : Keeps u (latchRise p tally u) := by
    unfold latchRise
    split
    · exact keeps_setLatch u _ _
    · exact .refl u
  have hstore (u : State) : Keeps u (storeTally p tally u) := keeps_of_same (by simp [storeTally, changePour])
  exact ((keeps_changePour s _).trans (hrise _)).trans (hstore _)

theorem keeps_applyTally (p : CurrentPour) (tally : Nat) : Keeps s (applyTally p tally s) :=
  keeps_evaluate_of s ((keeps_takeTally s p tally).trans (keeps_of_same (by simp)))

/-- A record is written where the history has room for it (R147, R166). -/
theorem keeps_writeRecord (p : CurrentPour) : Keeps s (writeRecord p s) := by
  simp only [writeRecord]
  split
  · next hroom =>
    refine ⟨id, fun ⟨_, hq, hw⟩ => ⟨?_, hq, hw⟩⟩
    have hlt : s.tracker.history.length < historyMax := of_decide_eq_true hroom
    rw [State.setTracker_tracker, List.length_append]
    exact hlt
  · exact keeps_of_same (by simp)

theorem keeps_recordPour (p : CurrentPour) : Keeps s (recordPour p s) := by
  have hcancel : Keeps s (s.setTracker { s.tracker with ack := none }) := keeps_of_same (by simp)
  exact (hcancel.trans (keeps_writeRecord _ p)).trans (keeps_hearRecord _)

theorem keeps_endPour (p : CurrentPour) (tally : Nat) : Keeps s (endPour p tally s) := by
  have hclose (q : CurrentPour) (u : State) : Keeps u (nextState (closePour q u)) :=
    keeps_of_same (by cases h : q.origin <;> simp [nextState, closePour, h])
  have happly (u : State) : Keeps u (applyPending u) := by
    unfold applyPending
    split
    · exact keeps_applyExchange u
    · exact .refl u
  have hannounce (u : State) : Keeps u (setRefreshMark (announcePlanDone (nextState u))) :=
    keeps_of_same (by simp [nextState])
  have hnotice (e : PourEvent) (c : Option (Nat × Nat)) (set : Reasons) (u : State) : Keeps u (raisePour e c set u) :=
    keeps_of_same (by simp)
  have htally := (keeps_takeTally s p tally).trans (keeps_changePour _ addOverpour)
  have hended (q : CurrentPour) := (htally.trans (keeps_recordPour _ q)).trans (hclose q _)
  exact keeps_evaluate_of s ((((hended _).trans (hnotice _ _ _ _)).trans (happly _)).trans (hannounce _))

theorem keeps_acknowledge (pour : Nat) : Keeps s (acknowledge pour s) := by
  unfold acknowledge
  split
  · split
    · exact keeps_evaluate_of s (keeps_of_same (by simp [becomeHeld]))
    · exact .refl s
  · exact .refl s

theorem keeps_ackExpires (p : CurrentPour) : Keeps s (ackExpires p s) := by
  have hset : Keeps s (setLatch .ackTimeout p.entry.pour (s.setTracker { s.tracker with ack := none })) :=
    .trans (keeps_of_same (by simp)) (keeps_setLatch _ _ _)
  exact keeps_evaluate_of s (hset.trans (keeps_of_same (by simp [becomeHeld])))

/-! ## The table window and the tables (R11 to R21) -/

/-- A window within its table, and its position within the window (R11). -/
def WindowFits (w : Window) : Prop := w.first ≤ w.pos ∧ w.pos ≤ w.finish ∧ w.finish ≤ w.table.rows

variable {s} in
/-- An act that leaves the records, the shore queue and the history, and opens or moves a window within its size. -/
theorem keeps_of_window {t : State} (h : t.records = s.records ∧ t.links.queue = s.links.queue ∧
    t.tracker.history = s.tracker.history)
    (hw : ∀ w, t.store.window = some w → (∀ v, s.store.window = some v → WindowFits v) → WindowFits w) : Keeps s t := by
  obtain ⟨hr, hq, hh⟩ := h
  exact ⟨by rw [hr]; exact id, fun ⟨hhistory, hqueue, hwindow⟩ =>
    ⟨by rwa [hh], by rwa [hq], fun w ht => hw w ht hwindow⟩⟩

/-- A window moves on by rows that it still holds (R13, R14). -/
theorem windowFits_advance {w : Window} {k : Nat} (h : WindowFits w) (hk : w.pos + k ≤ w.finish) :
    WindowFits { w with pos := w.pos + k } := by
  obtain ⟨hfirst, -, hrows⟩ := h
  exact ⟨by simp only; omega, hk, hrows⟩

theorem keeps_wselMsg (args : List Byte) : Keeps s (wselMsg args s).state := by
  simp only [wselMsg]
  split
  · split
    · split
      · next hspan =>
        refine keeps_of_window (by simp) fun w hw _ => ?_
        obtain rfl := Option.some.inj hw
        exact ⟨le_rfl, Nat.le_add_right .., hspan.2⟩
      · exact .refl s
    · exact .refl s
  · exact .refl s

theorem keeps_withdrawData (before : State) : Keeps s (withdrawData before s) :=
  (keeps_of_same (by simp)).trans (keeps_settleAssignments _ before)

theorem keeps_uncommit (before : State) : Keeps s (uncommit before s) := by
  unfold uncommit
  split
  · exact .trans (keeps_of_same (by simp)) (keeps_withdrawData _ before)
  · exact keeps_of_same (by simp)
  · exact .refl s
  · exact .refl s

theorem keeps_storeRows {w : Window} {k : Nat} (args : List Byte) (hw : s.store.window = some w)
    (hk : w.pos + k ≤ w.finish) : Keeps s (storeRows w k args s) := by
  have hmoved : Keeps s ((writeRows w.table k w.pos args s).setStore
      { (writeRows w.table k w.pos args s).store with window := some { w with pos := w.pos + k } }) := by
    rw [writeRows_only]
    refine keeps_of_window (by simp [withRows]) fun v hv hbefore => ?_
    obtain rfl := Option.some.inj hv
    exact windowFits_advance (hbefore w hw) hk
  simp only [storeRows]
  split
  · exact hmoved.trans (keeps_uncommit _ s)
  · exact hmoved

theorem keeps_wputMsg (args : List Byte) : Keeps s (wputMsg args s).state := by
  simp only [wputMsg]
  split
  · exact .refl s
  · next w hw =>
    split
    · exact .refl s
    · split
      · exact .refl s
      · next hend =>
        split
        · exact .refl s
        · exact keeps_storeRows s args hw (Nat.not_lt.1 hend)

theorem keeps_wgetMsg (args : List Byte) : Keeps s (wgetMsg args s).state := by
  simp only [wgetMsg]
  split
  · exact .refl s
  · split
    · exact .refl s
    · next w hw =>
      split
      · exact .refl s
      · next hend =>
        refine keeps_of_window (by simp) fun v hv hbefore => ?_
        obtain rfl := Option.some.inj hv
        exact windowFits_advance (hbefore w hw) (Nat.not_lt.1 fun h => hend (.inr h))

theorem keeps_enforceTables (before : State) : Keeps s (enforceTables before s) := by
  have hbegin (u : State) : Keeps u (setRefreshMark (beginSweep u)) := keeps_of_same (by simp)
  have hforce (g : Gauging) (e : Engine) : Keeps s { s with gauge := g, engine := e } := keeps_of_same ⟨rfl, rfl, rfl, rfl⟩
  exact ((hforce _ _).trans (keeps_settleAssignments _ before)).trans (hbegin _)

end

/-! ## Requests -/

section
variable (args : List Byte) (s : State)

theorem keeps_answer {l : Link} {m : Mnem} {a : Answer} (h : Keeps s a.state) : Keeps s (answer l m a) :=
  h.trans (keeps_of_same (by simp [answer_eq_replied]))

/-! The requests that touch neither the records nor the sizes. -/

theorem keeps_smskMsg : Keeps s (smskMsg args s).state := by
  simp only [smskMsg]; (repeat' split) <;> exact keeps_of_same (by simp)

theorem keeps_tdenMsg : Keeps s (tdenMsg args s).state := by
  simp only [tdenMsg]; (repeat' split) <;> exact keeps_of_same (by simp [setDensity, resnapTank_eq])

theorem keeps_fixmMsg : Keeps s (fixmMsg args s).state := by
  simp only [fixmMsg]; (repeat' split) <;> exact keeps_of_same (by simp [setFixed])

theorem keeps_xstaMsg : Keeps s (xstaMsg args s).state := by
  simp only [xstaMsg]; (repeat' split) <;> exact keeps_of_same (by simp)

theorem keeps_valvMsg : Keeps s (valvMsg args s).state := by
  simp only [valvMsg, closeValve, queryValve]; (repeat' split) <;> exact keeps_of_same (by simp)

theorem keeps_vclrMsg : Keeps s (vclrMsg args s).state := by
  simp only [vclrMsg, clearValve]; (repeat' split) <;> exact keeps_of_same (by simp)

theorem keeps_sqxcMsg : Keeps s (sqxcMsg args s).state := by
  simp only [sqxcMsg]; (repeat' split) <;> exact keeps_of_same (by simp [swapPrograms])

theorem keeps_sqpsMsg : Keeps s (sqpsMsg args s).state := by
  simp only [sqpsMsg, suspendHost]; (repeat' split) <;> exact keeps_of_same (by simp)

theorem keeps_opndMsg : Keeps s (opndMsg args s).state := by
  simp only [opndMsg]; (repeat' split) <;> exact keeps_of_same (by simp [endOperation])

theorem keeps_clksMsg : Keeps s (clksMsg args s).state := by
  simp only [clksMsg]; (repeat' split) <;> exact keeps_of_same (by simp [setClock])

theorem keeps_ntenMsg : Keeps s (ntenMsg args s).state := by
  have hclear (u : State) (k : NoticeKind) : Keeps u (clearNotice u k) := keeps_of_same (by simp)
  have hstore (e : BitVec 8) : Keeps s (storeEnables e s) :=
    .trans (u := { s with links := { s.links with enables := e } }) (keeps_of_same ⟨rfl, rfl, rfl, rfl⟩)
      (keeps_foldl hclear _ _)
  simp only [ntenMsg]; (repeat' split)
  exacts [.refl s, .refl s, hstore _]

/-! The requests that hand on what they do. -/

theorem keeps_tideMsg : Keeps s (tideMsg args s).state := by
  simp only [tideMsg]; (repeat' split)
  exacts [.refl s, .refl s, keeps_applyTide s _]

theorem keeps_stprMsg : Keeps s (stprMsg args s).state := by
  simp only [stprMsg]; (repeat' split)
  exacts [.refl s, .refl s, keeps_releaseLatch s]

theorem keeps_xstpMsg : Keeps s (xstpMsg args s).state := by
  simp only [xstpMsg]; (repeat' split)
  exacts [.refl s, .refl s, .refl s, keeps_settle_of s _ (keeps_endEvent s _ _), .refl s]

theorem keeps_judgeGrant : Keeps s (judgeGrant s) := keeps_of_same (by simp)

theorem keeps_sqgoMsg : Keeps s (sqgoMsg args s).state := by
  have hrun : Keeps s (runFromStart s) := .trans (keeps_of_same (by simp)) (keeps_walk (s.setCore (SeqCore.fresh .running)))
  simp only [sqgoMsg]; (repeat' split)
  exacts [.refl s, .refl s, .refl s, hrun.trans (keeps_judgeGrant _)]

theorem keeps_resumeBy (why : SuspendReason) : Keeps s (resumeBy why s) := by
  have hhost : Keeps s (resumeHost s) := by
    unfold resumeHost
    split
    · exact .trans (keeps_of_same (by simp)) (keeps_walk _)
    · exact keeps_resumeStep s
  cases why with
  | host | nothing => exact hhost
  | stepRefused | deadlock => exact keeps_walk s
  | transferFault => exact keeps_moveOn s

theorem keeps_sqrsMsg : Keeps s (sqrsMsg args s).state := by
  have hrun (w : WaitReason) : Keeps s (unsuspend w s) := keeps_of_same (by simp [unsuspend])
  simp only [sqrsMsg]
  split
  · exact .refl s
  · split
    · exact hrun .opening
    · exact ((hrun .nothing).trans (keeps_resumeBy _ _)).trans (keeps_judgeGrant _)
    all_goals exact .refl s

theorem keeps_sqabMsg : Keeps s (sqabMsg args s).state := by
  have hready : Keeps s (readySeq s) := keeps_of_same (by simp [readySeq])
  simp only [sqabMsg]; (repeat' split)
  exacts [.refl s, .refl s, .refl s, keeps_settle_of s s (hready.trans (keeps_endEvents _ _ _))]

theorem keeps_opbgMsg : Keeps s (opbgMsg args s).state := by
  simp only [opbgMsg]; (repeat' split)
  exacts [.refl s, .refl s, .refl s, .refl s, keeps_beginOperation s _]

theorem keeps_plxcMsg : Keeps s (plxcMsg args s).state := by
  simp only [plxcMsg]; (repeat' split)
  exacts [.refl s, .refl s, .refl s, keeps_of_same (by simp), keeps_applyExchange s]

theorem keeps_hsetMsg : Keeps s (hsetMsg args s).state := by
  simp only [hsetMsg]; (repeat' split)
  exacts [.refl s, .refl s, keeps_setHold s _ _, .refl s]

theorem keeps_refuseLoader (m : Mnem) : Keeps s (refuseLoader m s).state := keeps_of_same (by simp [refuseLoader])

theorem keeps_lpstMsg : Keeps s (lpstMsg args s).state := by
  have hstart (p : CurrentPour) : Keeps s (startPour p s) := keeps_of_same (by simp [startPour])
  have hreported (pour hold : Nat) : Keeps s (startReported pour hold s).state := by
    simp only [startReported]; (repeat' split)
    exacts [keeps_of_same (by simp), keeps_refuseLoader s .lpst, hstart _, keeps_openUnexpected s pour hold,
      keeps_openUnexpected s pour hold]
  simp only [lpstMsg]; (repeat' split)
  exacts [.refl s, keeps_refuseLoader s .lpst, hreported _ _, .refl s]

theorem keeps_ltalMsg : Keeps s (ltalMsg args s).state := by
  simp only [ltalMsg]; (repeat' split)
  exacts [.refl s, keeps_applyTally s _ _, keeps_refuseLoader s .ltal, .refl s]

theorem keeps_lpndMsg : Keeps s (lpndMsg args s).state := by
  simp only [lpndMsg]
  split
  · split
    · exact .refl s
    · split
      · rw [done_state]
        exact (keeps_endPour s _ _).trans (keeps_judgeGrant _)
      · exact keeps_refuseLoader s .lpnd
  · exact .refl s

theorem keeps_lhakMsg : Keeps s (lhakMsg args s).state := by
  simp only [lhakMsg]; (repeat' split)
  exacts [.refl s, .refl s, keeps_acknowledge s _]

/-- A report built leaves the log and the totals (R190). -/
theorem keeps_rptbMsg : Keeps s (rptbMsg args s).state := by
  have hbuild (k : ReportKind) (n : Option Nat) (c : List Item) : Keeps s (buildReport k n c s).state := ⟨id, id⟩
  simp only [rptbMsg]; (repeat' split)
  exacts [.refl s, .refl s, .refl s, hbuild _ _ _, .refl s, .refl s, hbuild _ _ _, .refl s, hbuild _ _ _]

theorem keeps_restart : Keeps s (restart s) := by
  have hlinks : Keeps s (emptyNotices (restartLink .shore (restartLink .ship s))) :=
    keeps_of_same (by simp [emptyNotices, restartLink])
  have hengine (u : State) : Keeps u (restartEngine u) := keeps_of_same (by simp [restartEngine])
  have hsweep (u : State) : Keeps u (restartSweep u) :=
    keeps_of_window (by simp [restartSweep]) fun w hw _ => by simp [restartSweep] at hw
  have hseq (u : State) : Keeps u (restartSeq u) := keeps_of_same (by simp only [restartSeq]; split <;> simp)
  exact keeps_settle_of s s ((((hlinks.trans (hengine _)).trans (hsweep _)).trans (hseq _)).trans (keeps_endEvents _ _ _))

theorem keeps_rstrAct (l : Link) : Keeps s (rstrAct l args s) := by
  simp only [rstrAct]
  split
  · exact keeps_answer s (.refl s)
  · exact (keeps_answer s (a := done s []) (.refl s)).trans (keeps_restart _)

theorem keeps_sdcmAct (l : Link) : Keeps s (sdcmAct l args s) := by
  simp only [sdcmAct]
  split
  · exact keeps_answer s (.refl s)
  · exact keeps_of_same ⟨by simp, by simp, by simp, rfl⟩

/-- A request carried out keeps both (R198). -/
theorem keeps_perform (m : Mnem) (l : Link) : Keeps s (perform m l args s) := by
  have hquery {a : Answer} (ha : a.state = s) : Keeps s (answer l m a) := keeps_answer s (by rw [ha]; exact .refl s)
  cases m with
  | tank | metr | cond | proj | lims | xfer | seqq | pour | phis | rptg | dlog | stat => exact hquery (by simp [queries_state])
  | sdcm => exact keeps_sdcmAct args s l
  | rstr => exact keeps_rstrAct args s l
  | wsel => exact keeps_answer s (keeps_wselMsg s args)
  | wput => exact keeps_answer s (keeps_wputMsg s args)
  | wget => exact keeps_answer s (keeps_wgetMsg s args)
  | smsk => exact keeps_answer s (keeps_smskMsg args s)
  | tden => exact keeps_answer s (keeps_tdenMsg args s)
  | fixm => exact keeps_answer s (keeps_fixmMsg args s)
  | tide => exact keeps_answer s (keeps_tideMsg args s)
  | stpr => exact keeps_answer s (keeps_stprMsg args s)
  | xsta => exact keeps_answer s (keeps_xstaMsg args s)
  | xstp => exact keeps_answer s (keeps_xstpMsg args s)
  | valv => exact keeps_answer s (keeps_valvMsg args s)
  | vclr => exact keeps_answer s (keeps_vclrMsg args s)
  | sqxc => exact keeps_answer s (keeps_sqxcMsg args s)
  | sqgo => exact keeps_answer s (keeps_sqgoMsg args s)
  | sqps => exact keeps_answer s (keeps_sqpsMsg args s)
  | sqrs => exact keeps_answer s (keeps_sqrsMsg args s)
  | sqab => exact keeps_answer s (keeps_sqabMsg args s)
  | opbg => exact keeps_answer s (keeps_opbgMsg args s)
  | opnd => exact keeps_answer s (keeps_opndMsg args s)
  | plxc => exact keeps_answer s (keeps_plxcMsg args s)
  | hset => exact keeps_answer s (keeps_hsetMsg args s)
  | lpst => exact keeps_answer s (keeps_lpstMsg args s)
  | ltal => exact keeps_answer s (keeps_ltalMsg args s)
  | lpnd => exact keeps_answer s (keeps_lpndMsg args s)
  | lhak => exact keeps_answer s (keeps_lhakMsg args s)
  | rptb => exact keeps_answer s (keeps_rptbMsg args s)
  | nten => exact keeps_answer s (keeps_ntenMsg args s)
  | clks => exact keeps_answer s (keeps_clksMsg args s)

end

/-! ## The links -/

section
variable (s : State) (l : Link)

theorem keeps_setLink (x : LinkState) : Keeps s (s.setLink l x) := keeps_of_same (by simp)

theorem keeps_serve : Keeps s (serve l s) := by
  have hjudge (payload : List Byte) (u : State) : Keeps u (judgeRequest l payload u) := by
    simp only [judgeRequest]
    split
    · exact keeps_setLink u l _
    · split
      · exact keeps_perform _ u _ l
      · exact keeps_setLink u l _
  simp only [serve]
  split
  · split
    · exact (keeps_setLink s l _).trans (hjudge _ _)
    · exact .refl s
  · exact .refl s

theorem keeps_requestArrives (payload : List Byte) : Keeps s (requestArrives l payload s) := by
  simp only [requestArrives]
  split
  · exact (keeps_setLink s l _).trans (keeps_serve _ l)
  · exact keeps_setLink s l _

theorem keeps_unlessHeld {f : State → State} (h : Keeps s (f s)) : Keeps s (unlessHeld f s) := by
  simp only [unlessHeld]
  split
  · exact .refl s
  · exact h

theorem keeps_presentRequest (m : Mnem) (args : List Byte) : Keeps s (presentRequest l m args s) := by
  simp only [presentRequest]
  split
  · exact keeps_unlessHeld s (keeps_requestArrives s l _)
  · exact .refl s

theorem keeps_takeByte (b : Byte) : Keeps s (takeByte l b s) := by
  have hset (r : Receiver) : Keeps s (s.setReceiver l r) := keeps_setLink s l _
  have hframe (got : List Byte) : Keeps s (frameByte l got s) := by
    simp only [frameByte]; (repeat' split)
    exacts [hset _, (hset _).trans (keeps_requestArrives _ l _), hset _, hset _]
  simp only [takeByte]; (repeat' split)
  exacts [hset _, hset _, hframe _]

theorem keeps_abandonFrame : Keeps s (abandonFrame l s) := by
  simp only [abandonFrame]
  split
  · exact keeps_setLink s l _
  · exact .refl s

theorem keeps_frameSent : Keeps s (frameSent l s) := by
  simp only [frameSent]
  split
  · exact (keeps_setLink s l _).trans (keeps_serve _ l)
  · exact .refl s

theorem keeps_sendShipNotice : Keeps s (sendShipNotice s) := by
  simp only [sendShipNotice]; (repeat' split) <;> exact keeps_of_same (by simp)

/-- The front notice leaves the queue (R203). -/
theorem keeps_sendShoreNotice : Keeps s (sendShoreNotice s) := by
  simp only [sendShoreNotice]
  split
  · next n rest hqueue =>
    split
    · refine .trans (u := { s with links := { s.links with queue := rest } }) ⟨id, fun ⟨hh, hq, hw⟩ => ⟨hh, ?_, hw⟩⟩
        (keeps_setLink _ .shore _)
      rw [hqueue, List.length_cons] at hq
      exact Nat.le_of_succ_le hq
    · exact .refl s
  · exact .refl s

end

/-! ## The events of the part -/

section
variable (s : State)

/-- A hardware reset empties the log, the history and the shore queue, and no table is selected (R207). -/
theorem keeps_resetPart (held strapA strapB : Bool) : Keeps s (resetPart held strapA strapB s) := by
  have hblocks (u : State) : Keeps s (resetBlocks u) :=
    ⟨fun _ => balanced_empty rfl rfl rfl, fun _ => ⟨Nat.zero_le _, Nat.zero_le _, nofun⟩⟩
  simp only [resetPart]
  split
  · exact hblocks _
  · refine (hblocks (setResetInputs held strapA strapB s)).trans ?_
    simp only [endReset]; (repeat' split) <;> exact keeps_of_same (by simp)

theorem keeps_endVerification : Keeps s (endVerification s) := by
  have hvalid (c : BitVec 32) : Keeps s (validate c s) := keeps_of_same ⟨by simp, by simp, by simp, rfl⟩
  simp only [endVerification]
  split
  · exact keeps_of_same ⟨by simp, by simp, by simp, rfl⟩
  · exact keeps_settle_of s s ((hvalid _).trans (keeps_enforceTables _ s))

theorem keeps_commitEnds : Keeps s (commitEnds s) := by
  have hended : Keeps s (endCommit s) := keeps_of_same ⟨by simp, by simp, by simp, rfl⟩
  have hpasses (u : State) : Keeps u (commitPasses u) := by
    have hreset : Keeps u (resetForCommit u) := by
      simp only [resetForCommit]; split <;> exact keeps_of_same (by simp)
    have hvalid (c : BitVec 32) (v : State) : Keeps v (validate c v) := keeps_of_same ⟨by simp, by simp, by simp, rfl⟩
    exact keeps_settle_of u u ((hreset.trans (hvalid _ _)).trans (keeps_enforceTables _ u))
  have hfails (f : FaultRecord) (u : State) : Keeps u (commitFails f u) := by
    have hinvalid : Keeps u (invalidate f u) := keeps_of_same ⟨by simp, by simp, by simp, rfl⟩
    simp only [commitFails]
    split
    · exact keeps_settle_of u u (hinvalid.trans (keeps_withdrawData _ u))
    · exact hinvalid
  simp only [commitEnds]
  split
  · refine .trans ?_ (keeps_serve _ .shore)
    simp only [completeCommit]
    split
    · exact hended.trans (keeps_answer _ (hpasses _))
    · exact hended.trans (keeps_answer _ (hfails _ _))
  · exact .refl s

theorem keeps_finishSweep : Keeps s (finishSweep s) := by
  have hread : Keeps s (setRefreshMark (updateLines (raiseGauge s (examineTanks (updateGauges s))))) :=
    keeps_of_same (by simp)
  have hend : Keeps s (sweepEnd s) := keeps_settle_of s s (hread.trans (keeps_sweepChecks _))
  exact hend.trans (keeps_of_same (by simp [finishSweep]))

theorem keeps_takeReading (r : Reading) : Keeps s (takeReading r s) := by
  simp only [takeReading]
  split
  · exact keeps_of_same (by simp)
  · exact .trans (keeps_of_same (by simp)) (keeps_finishSweep _)

theorem keeps_acceptAnswer (a : SensorAnswer) : Keeps s (acceptAnswer a s) := by
  simp only [acceptAnswer]; (repeat' split)
  exacts [keeps_takeReading s _, .refl s, .refl s]

theorem keeps_expiry (p : Pump) (r : EndReason) : Keeps s (settle s (endEvent p.driver r (phaseOff p.driver s))) :=
  keeps_settle_of s s (.trans (keeps_of_same (by simp)) (keeps_endEvent _ _ _))

theorem keeps_primingExpires (p : Pump) : Keeps s (primingExpires p s) := by
  simp only [primingExpires]
  split
  · exact keeps_expiry s p _
  · exact .refl s

theorem keeps_flowExpires (p : Pump) : Keeps s (flowExpires p s) := by
  simp only [flowExpires]
  split
  · exact keeps_expiry s p _
  · exact .refl s

theorem keeps_feedbackFalls (p : Pump) : Keeps s (feedbackFalls p s) := by
  have hset : Keeps s (setFeedback p false s) := keeps_of_same ⟨rfl, rfl, rfl, rfl⟩
  simp only [feedbackFalls]
  split
  · exact keeps_settle_of s s (hset.trans (keeps_endEvent _ _ _))
  · exact hset

theorem keeps_limitsChange (ch : Nat) (openMade closedMade : Bool) : Keeps s (limitsChange ch openMade closedMade s) := by
  have hset : Keeps s (s.setLimitInputs ch openMade closedMade) := keeps_of_same (by simp)
  simp only [limitsChange]
  split
  · exact keeps_settle_of s s (hset.trans (keeps_judgeLimits _ s ch))
  · exact hset

theorem keeps_travelExpires (ch : Nat) : Keeps s (travelExpires ch s) := by
  simp only [travelExpires]
  split
  · exact keeps_settle_of s s (keeps_valveFails s ch _)
  · exact .refl s

theorem keeps_intervalExpires : Keeps s (intervalExpires s) := by
  have hzero : Keeps s (s.setCore { s.seq.core with interval := 0 }) := keeps_of_same (by simp)
  simp only [intervalExpires]
  split
  · exact (hzero.trans (keeps_walk _)).trans (keeps_judgeGrant _)
  · exact hzero
  · exact .refl s

theorem keeps_dwellExpires : Keeps s (dwellExpires s) := by
  have hzero : Keeps s (s.setCore { s.seq.core with dwell := 0 }) := keeps_of_same (by simp)
  simp only [dwellExpires]
  split
  · exact (hzero.trans (keeps_moveOn _)).trans (keeps_judgeGrant _)
  · exact .refl s

theorem keeps_ackRunsOut : Keeps s (ackRunsOut s) := by
  simp only [ackRunsOut]
  split
  · exact keeps_ackExpires s _
  · exact .refl s

theorem keeps_completeRefresh (c : Condition) : Keeps s (completeRefresh c s) := by
  have hpublish (p : Published) : Keeps s (publish p s) := keeps_of_same ⟨rfl, rfl, rfl, rfl⟩
  have htransfer (p : Published) (u : State) : Keeps u (transferPublish p u) :=
    .trans (.trans (keeps_of_same (by simp)) (keeps_headChecks (takeLag u.tracker.lag u)))
      (keeps_of_same (by simp [transferPublish]))
  have hhand (p : Published) (u : State) : Keeps u (handPublish p u) :=
    ((keeps_judgePublish u p).trans (keeps_trackerPublish _ _)).trans (htransfer p _)
  have hfree (u : State) : Keeps u (freeEngine u) := keeps_of_same (by simp [freeEngine])
  exact (keeps_settle_of s s ((hpublish _).trans (hhand _ _))).trans (hfree _)

theorem keeps_refreshEnds : Keeps s (refreshEnds s) := by
  simp only [refreshEnds]; (repeat' split)
  exacts [keeps_completeRefresh s _, .refl s, .refl s]

theorem keeps_projectionEnds : Keeps s (projectionEnds s) := by
  have haccept (r : ProjResult) (u : State) : Keeps u (acceptResult r u) := by
    simp only [acceptResult]; (repeat' split)
    exacts [keeps_evaluate_of u (keeps_of_same (by simp)), .refl u, .refl u]
  have hset (e : Engine) : Keeps s (s.setEngine e) := keeps_of_same (by simp)
  have hfree (u : State) : Keeps u (freeEngine u) := keeps_of_same (by simp [freeEngine])
  simp only [projectionEnds, completeProjection]; (repeat' split)
  exacts [(hset _).trans (hfree _), ((hset _).trans (haccept _ _)).trans (hfree _), .refl s]

theorem keeps_consoleRises : Keeps s (consoleRises s) := by
  have hset : Keeps s (setRequest true s) := keeps_of_same ⟨rfl, rfl, rfl, rfl⟩
  have hrise (u : State) : Keeps u (requestRises u) := keeps_of_same (by simp)
  simp only [consoleRises]
  split
  · exact hset.trans (keeps_unlessHeld _ (hrise _))
  all_goals exact hset

theorem keeps_consoleDrops : Keeps s (consoleDrops s) := by
  have hset : Keeps s (setRequest false s) := keeps_of_same ⟨rfl, rfl, rfl, rfl⟩
  simp only [consoleDrops]
  split
  · exact keeps_of_same ⟨rfl, rfl, rfl, rfl⟩
  · exact hset.trans (keeps_releaseConsole _)
  all_goals exact hset

theorem keeps_passMillisecond : Keeps s (passMillisecond s) := by
  have htick (u : State) : Keeps u (tick u) := keeps_of_same (by simp [tick, pumps])
  have hwindows : Keeps s (passWindows (countMs s)) := keeps_of_same (by simp [passWindows, countMs])
  have hsecond (u : State) : Keeps u (secondBoundary u) := keeps_of_same (by simp)
  refine keeps_unlessHeld s ?_
  simp only [countTime]; (repeat' split)
  exacts [(hwindows.trans (htick _)).trans (hsecond _), hwindows.trans (hsecond _), hwindows.trans (htick _), hwindows]

end

/-! ## Every command and every step -/

/-- Every command keeps both. -/
theorem keeps_exec (i : Instr) (s : State) : ∃ t, exec i s = .next t ∧ Keeps s t := by
  cases hq : i.request? with
  | some r =>
    obtain ⟨m, l, args⟩ := r
    rw [eq_command_of_request? hq, exec_command]
    exact ⟨_, rfl, keeps_presentRequest s l m args⟩
  | none =>
    cases i
    case hardwareReset held straps => exact ⟨_, rfl, keeps_resetPart s held straps.a straps.b⟩
    case verificationEnd =>
      refine ⟨_, rfl, keeps_unlessHeld s ?_⟩
      split
      · exact keeps_endVerification s
      · exact .refl s
    case frameByteReceived l b => exact ⟨_, rfl, keeps_unlessHeld s (keeps_takeByte s l b)⟩
    case byteGapExpiry l => exact ⟨_, rfl, keeps_abandonFrame s l⟩
    case transmitFrameEnd l => exact ⟨_, rfl, keeps_frameSent s l⟩
    case shipNoticeSend => exact ⟨_, rfl, keeps_sendShipNotice s⟩
    case shoreNoticeSend => exact ⟨_, rfl, keeps_sendShoreNotice s⟩
    case commitComplete => exact ⟨_, rfl, keeps_commitEnds s⟩
    case sensorAnswer a => exact ⟨_, rfl, keeps_acceptAnswer s a⟩
    case replyWindowExpiry =>
      refine ⟨_, rfl, ?_⟩
      split
      · exact keeps_takeReading s _
      · exact .refl s
    case sweepCountdownExpiry =>
      refine ⟨_, rfl, ?_⟩
      split
      · exact keeps_finishSweep s
      · exact .refl s
    case meterPulse p => exact ⟨_, rfl, keeps_unlessHeld s (keeps_settle_of s s (keeps_of_same (by simp)))⟩
    case secondBoundary => exact ⟨_, rfl, keeps_unlessHeld s (keeps_of_same (by simp))⟩
    case primingExpiry p => exact ⟨_, rfl, keeps_primingExpires s p⟩
    case noFlowExpiry p => exact ⟨_, rfl, keeps_flowExpires s p⟩
    case runningFeedbackFall p => exact ⟨_, rfl, keeps_feedbackFalls s p⟩
    case limitInputChange ch a b => exact ⟨_, rfl, keeps_limitsChange s ch a b⟩
    case valveTravelExpiry ch => exact ⟨_, rfl, keeps_travelExpires s ch⟩
    case intervalExpiry => exact ⟨_, rfl, keeps_intervalExpires s⟩
    case dwellExpiry => exact ⟨_, rfl, keeps_dwellExpires s⟩
    case ackExpiry => exact ⟨_, rfl, keeps_ackRunsOut s⟩
    case refreshComplete => exact ⟨_, rfl, keeps_refreshEnds s⟩
    case projectionComplete => exact ⟨_, rfl, keeps_projectionEnds s⟩
    case consoleRequestRise => exact ⟨_, rfl, keeps_consoleRises s⟩
    case consoleRequestDrop => exact ⟨_, rfl, keeps_consoleDrops s⟩
    case runningFeedbackRise p => exact ⟨_, rfl, keeps_of_same ⟨rfl, rfl, rfl, rfl⟩⟩
    -- every other command is a request
    all_goals cases hq

theorem keeps_step (s : State) : ∃ t, step s = .next t ∧ Keeps s t := by
  unfold step
  split
  · next c rest _ => exact keeps_exec c { s with pending := rest }
  · unfold idle
    split
    · exact keeps_exec _ s
    · exact ⟨_, rfl, keeps_passMillisecond s⟩

/-- Settles O59: every command is made of acts that leave the account and the sizes, enter a candidate, send a shore notice within
the queue's 16, write a record within the history's 128 or move the window within its rows (`keeps_exec`). -/
theorem everyStepKeepsTheAccountAndTheSizes : Obligations.EveryStepKeepsTheAccountAndTheSizes := by
  intro s t hstep
  obtain ⟨t', ht, haccount, hsizes⟩ := keeps_step s
  obtain rfl : t' = t := by simpa using ht.symm.trans hstep
  exact ⟨fun h => accountBalances_iff.2 (haccount (accountBalances_iff.1 h)), hsizes⟩

end Sys2Proof.PortRecords
end

section
/-! PROOF. The statements about the Link Unit and the time base (spec/11_links_messages_and_time.md): the arrival and the taking
of requests, the bytes of a frame, the notices, the messages that concern the links, the resets, and the passing of time. -/

namespace Sys2Proof.LinksAndTime

open Sys2Proof.Machine Sys2Proof.ShipData Sys2Proof.Survey Sys2Proof.FlowMetering Sys2Proof.ConditionEngine
open Sys2Proof.TransferUnit Sys2Proof.SequenceProgram Sys2Proof.LoadingOperation Sys2Proof.ConsoleHandover

/-! ## CLKS (R205) -/

theorem rule_clks : RuleOf .clks clksMsg := ⟨rfl, fun _ _ => rfl⟩

theorem clksMsg_sets {v : Nat} (hv : v < 4294967296) (u : State) :
    clksMsg (toBE v 4) u = done (setClock v u) [.num u.time.port, .num v] := by
  simp only [clksMsg, readOne_toBE 4 v hv]
  rfl

theorem clksMsg_length {args : List Byte} (u : State) (h : args.length ≠ 4) : clksMsg args u = refuse .length u := by
  simp only [clksMsg, readOne_none 4 args h]

/-- The next second boundary raises the port clock by 1 (R204). -/
theorem exec_secondBoundary_port {t : State} (h : t.inputs.reset = false) :
    ∃ t', exec .secondBoundary t = .next t' ∧ t'.time.port = (t.time.port + 1) % 4294967296 :=
  ⟨secondBoundary t, by rw [exec_secondBoundary, unlessHeld_free _ _ h], by rw [secondBoundary_only]⟩

/-- Settles O8: CLKS is taken by the rule of R205, and the boundary after it counts from the new value. -/
theorem clksSetsThePortClock : Obligations.ClksSetsThePortClock := by
  refine ⟨fun s v hr hv => ?_, rule_clks.otherForms fun args u h => clksMsg_length u h, unknownOnShore _ rfl⟩
  intro u
  have hz : (replied .ship .clks .done [.num s.time.port, .num v] (setClock v u)).inputs.reset = false := by
    have ⟨_, _, _, _, _, hz⟩ := hr
    rw [replied_inputs, setClock, taken_inputs, hz]
  obtain ⟨t', hx, hp⟩ := exec_secondBoundary_port hz
  exact ⟨_, rule_clks.answers hr (by simp [maxArgs]) (clksMsg_sets hv u), rfl, t', hx, hp⟩

/-! ## NTEN (R202) -/

theorem rule_nten : RuleOf .nten ntenMsg := ⟨rfl, fun _ _ => rfl⟩

/-- Taking kinds from the pending set one after another changes the set alone, and takes the kinds of the list. -/
theorem clearNotices_eq : ∀ (ks : List NoticeKind) (u : State), ∃ n : Tab 10 (Option Detail),
    ks.foldl clearNotice u = { u with links := { u.links with notices := n } } ∧
    ∀ i < 10, n.get i = if ∃ k ∈ ks, k.place = i then none else u.links.notices.get i
  | [], u => ⟨u.links.notices, rfl, by simp⟩
  | k :: ks, u => by
    obtain ⟨n, hn, hg⟩ := clearNotices_eq ks (clearNotice u k)
    refine ⟨n, hn, fun i hi => ?_⟩
    rw [hg i hi, clearNotice, Tab.get_set]
    by_cases hk : k.place = i <;> by_cases hks : ∃ k ∈ ks, k.place = i <;> simp [hk, hks, hi]

/-- Each place of the pending set is that of a kind (R200). -/
theorem place_noticeKinds {i : Nat} (hi : i < noticeKinds.length) : noticeKinds[i].place = i := by
  revert i; decide

theorem mem_maskable_iff (k : NoticeKind) : k ∈ maskable ↔ 2 ≤ k.place := by cases k <;> decide

/-- A maskable kind's flag is the enables' bit of its place, counted from VALVE (R200, R202). -/
theorem enabled_of_maskable {k : NoticeKind} (h : 2 ≤ k.place) (e : BitVec 8) : k.enabled e = e.getLsbD (k.place - 2) := by
  cases k with
  | breach | stop => exact absurd h (by decide)
  | _ => rfl

theorem disabled_iff (e : BitVec 8) {i : Nat} (hi : i < 10) :
    (∃ k ∈ maskable.filter fun k => !k.enabled e, k.place = i) ↔ 2 ≤ i ∧ e.getLsbD (i - 2) = false := by
  simp only [List.mem_filter, mem_maskable_iff, Bool.not_eq_true']
  constructor
  · rintro ⟨k, ⟨hk, he⟩, rfl⟩
    exact ⟨hk, by rw [← enabled_of_maskable hk, he]⟩
  · rintro ⟨h2, he⟩
    have hlen : i < noticeKinds.length := hi
    have hp := place_noticeKinds hlen
    have hk : 2 ≤ noticeKinds[i].place := by rw [hp]; exact h2
    exact ⟨noticeKinds[i], ⟨hk, by rw [enabled_of_maskable hk, hp, he]⟩, hp⟩

theorem storeEnables_eq (e : BitVec 8) (u : State) : ∃ n : Tab 10 (Option Detail),
    storeEnables e u = { u with links := { u.links with enables := e, notices := n } } ∧
    ∀ i < 10, n.get i = if 2 ≤ i ∧ e.getLsbD (i - 2) = false then none else u.links.notices.get i := by
  obtain ⟨n, hn, hg⟩ := clearNotices_eq (maskable.filter fun k => !k.enabled e)
    { u with links := { u.links with enables := e } }
  exact ⟨n, hn, fun i hi => by rw [hg i hi, if_congr (disabled_iff e hi) rfl rfl]⟩

theorem ntenMsg_stores (e : Byte) (u : State) :
    ntenMsg [e] u = done (storeEnables e u) (noticeItems (storeEnables e u)) := by
  have : readOptional 1 [e] = some (some e.toNat) := by simp [readOptional, readOne_byte]
  simp only [ntenMsg, this, BitVec.ofNat_toNat, BitVec.setWidth_eq]

theorem toBE_byte (e : Byte) : toBE e.toNat 1 = [e] := by simp [toBE]

theorem ntenMsg_length {args : List Byte} (u : State) (h : ¬ args.length ≤ 1) : ntenMsg args u = refuse .length u := by
  have : readOptional 1 args = none := readOptional_none 1 args (by rintro rfl; simp at h) (by omega)
  simp only [ntenMsg, this]

/-- Settles O9: NTEN is taken by the rule of R202. -/
theorem ntenStoresTheEnables : Obligations.NtenStoresTheEnables := by
  refine ⟨fun s e hr => ?_, fun s hr => ?_, rule_nten.otherForms fun args u h => ntenMsg_length u h,
    unknownOnShore _ rfl⟩
  · obtain ⟨n, hn, hg⟩ := storeEnables_eq e (taken .ship .nten [e] s)
    refine ⟨n, by simpa only [taken_notices] using hg, ?_⟩
    have hx := rule_nten.answers hr (byte_fits e) (ntenMsg_stores e _)
    simp only [done, noticeItems, pendingItems, hn, toBE_byte] at hx
    exact hx
  · have hx := rule_nten.replies hr empty_fits (show ntenMsg [] _ = done _ (noticeItems _) from rfl)
    simp only [noticeItems, pendingItems, taken_notices, taken_enables, toBE_byte] at hx
    exact hx

/-! ## STAT (R206) -/

theorem causeItem_eq (c : Option DataCause) : causeItem c = (c.map Item.dataCause).getD .absent := by cases c <;> rfl

/-- What STAT gives does not depend on the taking of the request: no link but the other one is among its items (R206). -/
theorem statItems_taken (l : Link) (s : State) : statItems l (taken l .stat [] s) =
    [.dataState s.store.dataState, (s.store.cause.map Item.dataCause).getD .absent] ++ faultItems s ++
      [.num s.store.checksum.toNat, .opState s.tracker.op, .trackerState s.tracker.state, .seqState s.seq.core.state,
        .consoleState s.console.state, .flag s.console.grantLine, .flag s.limits.pourEnable, .watch s.limits.watch,
        .flag s.limits.latch, .num ((s.engine.published.map Published.seq).getD 0), jobItem s, .num s.time.port,
        .linkRate s.links.rate, .raw (toBE s.links.enables.toNat 1)] ++
      (s.links.notices.cells.map fun d => .flag d.isSome) ++
      [.num s.links.queue.length, .flag (s.link l.other).overrun] := by
  have hlink : (taken l .stat [] s).link l.other = s.link l.other := by cases l <;> rfl
  have hfault : faultItems (taken l .stat [] s) = faultItems s := by simp only [faultItems, taken_store]
  have hjob : jobItem (taken l .stat [] s) = jobItem s := by simp only [jobItem, taken_engine]
  simp only [statItems, noticeItems, pendingItems, natItem, causeItem_eq, publishedSeq_eq, hlink, hfault, hjob,
    taken_store, taken_tracker, taken_seq, taken_console, taken_limits, taken_engine, taken_time, taken_notices,
    taken_enables, taken_queue, taken_rate, List.append_assoc, List.cons_append, List.nil_append]

/-- Settles O13: STAT is a request of either link, and its rule is `statMsg`. -/
theorem statGivesTheWholePart : Obligations.StatGivesTheWholePart := by
  refine ⟨fun l s hr => ?_, fun l args s hr ha hne => ?_⟩
  · refine (exec_ready .stat l [] s hr empty_fits rfl).trans ?_
    rw [← statItems_taken]
    rfl
  · refine (exec_ready .stat l args s hr ha rfl).trans ?_
    have : statMsg l args (taken l .stat args s) = refuse .length (taken l .stat args s) := if_pos hne
    simp only [perform, this]
    rfl

/-! ## The sending of notices (R201, R203) -/

theorem exec_shipNoticeSend (s : State) : exec .shipNoticeSend s = .next (sendShipNotice s) := rfl

theorem exec_shoreNoticeSend (s : State) : exec .shoreNoticeSend s = .next (sendShoreNotice s) := rfl

/-- The notice taken is that of the first pending place (R200, R201). -/
theorem nextNotice_first {s : State} {i : Nat} {d : Detail} (hi : i < 10) (hd : s.links.notices.get i = some d)
    (hfirst : ∀ j < i, s.links.notices.get j = none) :
    ∃ k : NoticeKind, k.place = i ∧ nextNotice s = some (k, d) := by
  have hlen : i < noticeKinds.length := hi
  have hplace : noticeKinds[i].place = i := place_noticeKinds hlen
  refine ⟨noticeKinds[i], hplace, ?_⟩
  rw [nextNotice, List.findSome?_eq_some_iff]
  refine ⟨noticeKinds.take i, noticeKinds[i], noticeKinds.drop (i + 1), ?_, ?_, fun k hk => ?_⟩
  · rw [List.getElem_cons_drop, List.take_append_drop]
  · rw [hplace, hd]
    rfl
  · obtain ⟨j, hj, rfl⟩ := List.mem_iff_getElem.1 hk
    rw [List.length_take] at hj
    rw [List.getElem_take, place_noticeKinds (by omega), hfirst j (by omega)]
    rfl

theorem nextNotice_none {s : State} (h : ∀ i < 10, s.links.notices.get i = none) : nextNotice s = none := by
  rw [nextNotice, List.findSome?_eq_none_iff]
  intro k _
  rw [h k.place (by cases k <;> decide)]
  rfl

theorem sendShipNotice_sends {s : State} {k : NoticeKind} {d : Detail} (h : nextNotice s = some (k, d))
    (hm : MaySend .ship s) :
    sendShipNotice s = { s with
      links := { s.links with
        notices := s.links.notices.set k.place none, ship := { s.links.ship with tx := some (.notice d) } } } := by
  simp only [sendShipNotice, h, (noticeMay_iff .ship s).2 hm]
  rfl

theorem sendShipNotice_keeps {s : State} (h : ¬ MaySend .ship s ∨ nextNotice s = none) : sendShipNotice s = s := by
  rcases h with h | h
  · rw [← noticeMay_iff, Bool.not_eq_true] at h
    simp only [sendShipNotice, h]
    cases nextNotice s <;> rfl
  · simp only [sendShipNotice, h]

theorem sendShoreNotice_sends {s : State} {n : ShoreNotice} {rest : List ShoreNotice} (h : s.links.queue = n :: rest)
    (hm : MaySend .shore s) :
    sendShoreNotice s = { s with
      links := { s.links with queue := rest, shore := { s.links.shore with tx := some (.shore n) } } } := by
  simp only [sendShoreNotice, h, (noticeMay_iff .shore s).2 hm]
  rfl

theorem sendShoreNotice_keeps {s : State} (h : ¬ MaySend .shore s ∨ s.links.queue = []) : sendShoreNotice s = s := by
  rcases h with h | h
  · rw [← noticeMay_iff, Bool.not_eq_true] at h
    simp only [sendShoreNotice, h]
    cases s.links.queue <;> rfl
  · simp only [sendShoreNotice, h]

/-- Settles O7: a link that may send sends the first of its notices, and any other sends none. -/
theorem noticesAreSentInTheirOrder : Obligations.NoticesAreSentInTheirOrder := by
  refine ⟨fun s i d hi hd hfirst hm => ?_, fun s n rest hq hm => ?_, fun s h => ?_, fun s h => ?_⟩
  · obtain ⟨k, rfl, hk⟩ := nextNotice_first hi hd hfirst
    rw [exec_shipNoticeSend, sendShipNotice_sends hk hm]
  · rw [exec_shoreNoticeSend, sendShoreNotice_sends hq hm]
  · rw [exec_shipNoticeSend, sendShipNotice_keeps (h.imp_right nextNotice_none)]
  · rw [exec_shoreNoticeSend, sendShoreNotice_keeps h]

/-! ## The arrival of a request (R197, R198) -/

section
variable {l : Link} {payload : List Byte} {s : State}

theorem requestArrives_overrun (h : (s.link l).waiting.isSome) :
    requestArrives l payload s = s.setLink l { s.link l with overrun := true } := by
  obtain ⟨w, hw⟩ := Option.isSome_iff_exists.1 h
  simp only [requestArrives, hw]

theorem requestArrives_waits (hw : (s.link l).waiting = none)
    (hb : (s.link l).current.isSome ∨ (s.link l).tx.isSome ∨ s.store.committing = true) :
    requestArrives l payload s = s.setLink l { s.link l with waiting := some payload } := by
  simp only [requestArrives, hw]
  exact serve_busy (p := payload) (by simp) (by simpa using hb)

theorem requestArrives_taken (hw : (s.link l).waiting = none) (hc : (s.link l).current = none)
    (ht : (s.link l).tx = none) (hk : s.store.committing = false) :
    requestArrives l payload s =
      judgeRequest l payload (s.setLink l { s.link l with waiting := none, current := some payload }) := by
  simp only [requestArrives, hw]
  rw [serve_takes (p := payload) (by simp) (by simpa using hc) (by simpa using ht) (by simpa using hk)]
  simp

end

/-- A request that cannot arrive, or that arrives while the reset input is held, changes nothing (R195, R207). -/
theorem presentRequest_lost {l : Link} {m : Mnem} {args : List Byte} {s : State}
    (h : maxArgs < args.length ∨ s.inputs.reset = true) : presentRequest l m args s = s := by
  by_cases ha : args.length ≤ maxArgs
  · rw [presentRequest, if_pos ha, unlessHeld_held _ s (h.resolve_left (by omega))]
  · rw [presentRequest, if_neg ha]

theorem presentRequest_arrives {l : Link} {m : Mnem} {args : List Byte} {s : State} (ha : args.length ≤ maxArgs)
    (hz : s.inputs.reset = false) : presentRequest l m args s = requestArrives l (payloadOf m args) s := by
  rw [presentRequest, if_pos ha, unlessHeld_free _ s hz]
  rfl

theorem replyMnemonic_payloadOf (m : Mnem) (args : List Byte) : replyMnemonic (payloadOf m args) = m.letters := by
  simp [replyMnemonic, payloadOf]

/-- In CHECKING a taken request is answered BUSY (R198, check 1). -/
theorem judgeRequest_busy {l : Link} {m : Mnem} {args : List Byte} {s : State} (h : s.store.dataState = .checking) :
    judgeRequest l (payloadOf m args) (taken l m args s) = refused l m .busy args s := by
  rw [judgeRequest, if_pos (by rw [taken_store, h]), replyMnemonic_payloadOf]
  rfl

/-- Otherwise one that is no request of the link is answered UNKNOWN (R198, checks 2 and 3). -/
theorem judgeRequest_unknown {l : Link} {m : Mnem} {args : List Byte} {s : State} (h : s.store.dataState ≠ .checking)
    (hl : m.ofLink l = false) : judgeRequest l (payloadOf m args) (taken l m args s) = refused l m .unknown args s := by
  rw [judgeRequest, if_neg (by rw [taken_store]; exact h), replyMnemonic_payloadOf, payloadOf,
    requestOf_foreign l m args hl]
  rfl

/-- And one that is is carried out by the rule of its message (R198). -/
theorem judgeRequest_performs {l : Link} {m : Mnem} {args : List Byte} {s : State} (h : s.store.dataState ≠ .checking)
    (hl : m.ofLink l = true) :
    judgeRequest l (payloadOf m args) (taken l m args s) = perform m l args (taken l m args s) := by
  rw [judgeRequest, if_neg (by rw [taken_store]; exact h), payloadOf, requestOf_own l m args hl]
  simp

/-- Settles O4: a command is the arrival of its request, which is lost, waits, or is taken and judged. -/
theorem aRequestIsTakenWaitsOrIsLost : Obligations.ARequestIsTakenWaitsOrIsLost := by
  intro l m args s
  rw [exec_command]
  refine ⟨fun h => by rw [presentRequest_lost h], fun ha hz => ?_⟩
  rw [presentRequest_arrives ha hz]
  refine ⟨fun hw => by rw [requestArrives_overrun hw], fun hw hb => by rw [requestArrives_waits hw hb],
    fun hw hc ht hk => ?_⟩
  have htaken : requestArrives l (payloadOf m args) s = judgeRequest l (payloadOf m args) (taken l m args s) :=
    requestArrives_taken hw hc ht hk
  rw [htaken]
  exact ⟨fun h => by rw [judgeRequest_busy h], fun h hl => by rw [judgeRequest_unknown h hl],
    fun h hl => by rw [judgeRequest_performs h hl]⟩

/-! ## The check sum of a frame (R195) -/

/-- One shift of the CRC-16 register (R195). -/
def crc16Step (c : BitVec 16) : BitVec 16 := if c.msb = true then (c <<< 1) ^^^ 0x1021#16 else c <<< 1

theorem crc16Shift_eq_iterate : ∀ (n : Nat) (c : BitVec 16), crc16Shift n c = crc16Step^[n] c
  | 0, _ => rfl
  | n + 1, c => (crc16Shift_eq_iterate n (crc16Step c)).trans (Function.iterate_succ_apply crc16Step n c).symm

theorem crc16_eq (bs : List Byte) : crc16 bs =
    bs.foldl (fun c b => (List.range 8).foldl (fun c _ => crc16Step c) (c ^^^ (b.setWidth 16).shiftLeft 8)) 0xFFFF#16 := by
  simp only [crc16, List.foldl_const, List.length_range, crc16Shift_eq_iterate]

/-! ## The receiver (R195) -/

section
variable {l : Link} {b : Byte} {s : State} {got : List Byte} {gap : Nat}

theorem exec_frameByteReceived_held (l : Link) (b : Byte) (h : s.inputs.reset = true) :
    exec (.frameByteReceived l b) s = .next s :=
  congrArg Host.Outcome.next (unlessHeld_held _ s h)

theorem exec_frameByteReceived_free (l : Link) (b : Byte) (h : s.inputs.reset = false) :
    exec (.frameByteReceived l b) s = .next (takeByte l b s) :=
  congrArg Host.Outcome.next (unlessHeld_free _ s h)

theorem takeByte_hunting (h : (s.link l).rx = .hunting) : takeByte l b s = huntByte l b s := by
  simp only [takeByte, h]

theorem takeByte_late (h : (s.link l).rx = .inFrame got gap) (hg : 50 < gap) : takeByte l b s = huntByte l b s := by
  simp only [takeByte, h]
  exact if_pos hg

theorem takeByte_inFrame (h : (s.link l).rx = .inFrame got gap) (hg : gap ≤ 50) :
    takeByte l b s = frameByte l (got ++ [b]) s := by
  simp only [takeByte, h]
  exact if_neg (Nat.not_lt.2 hg)

theorem frameByte_abandons (h : 240 < frameLength got) : frameByte l got s = s.setReceiver l .hunting :=
  if_pos h

theorem frameByte_collects (hn : frameLength got ≤ 240) (h : got.length ≠ frameLength got + 4) :
    frameByte l got s = s.setReceiver l (.inFrame got 0) :=
  (if_neg (Nat.not_lt.2 hn)).trans (if_neg h)

theorem frameByte_whole (hn : frameLength got ≤ 240) (h : got.length = frameLength got + 4) :
    frameByte l got s =
      if frameIsRequest got then requestArrives l (framePayload got) (s.setReceiver l .hunting)
      else s.setReceiver l .hunting :=
  (if_neg (Nat.not_lt.2 hn)).trans (if_pos h)

theorem frameIsRequest_iff : frameIsRequest got = true ↔
    fieldU got (frameLength got + 2) 2 = (crc16 (got.take (frameLength got + 2))).toNat ∧ got.getD 1 0#8 = 1#8 := by
  simp only [frameIsRequest, Bool.and_eq_true, beq_iff_eq, requestType]

theorem exec_byteGapExpiry_hunting (h : (s.link l).rx = .hunting) : exec (.byteGapExpiry l) s = .next s :=
  congrArg Host.Outcome.next (by simp only [abandonFrame, h])

theorem exec_byteGapExpiry_inFrame (h : (s.link l).rx = .inFrame got gap) :
    exec (.byteGapExpiry l) s = .next (s.setReceiver l .hunting) :=
  congrArg Host.Outcome.next (by simp only [abandonFrame, h])

end

/-! ## The end of a frame sent (R196, R197) -/

/-- The link with the frame of `f` sent: the transmitter is FREE, and a reply ends the current request (R196, R197). -/
def freed (l : Link) (f : Frame) (s : State) : State :=
  s.setLink l { s.link l with tx := none, current := if f.isReply then none else (s.link l).current }

theorem exec_transmitFrameEnd_free {l : Link} {s : State} (h : (s.link l).tx = none) :
    exec (.transmitFrameEnd l) s = .next s :=
  congrArg Host.Outcome.next (by simp only [frameSent, h])

theorem exec_transmitFrameEnd_sent {l : Link} {f : Frame} {s : State} (h : (s.link l).tx = some f) :
    exec (.transmitFrameEnd l) s = .next (serve l (freed l f s)) :=
  congrArg Host.Outcome.next (by simp only [frameSent, h, freed])

@[simp] theorem link_freed (l : Link) (f : Frame) (s : State) : (freed l f s).link l =
    { s.link l with tx := none, current := if f.isReply then none else (s.link l).current } := by simp [freed]

@[simp] theorem freed_store (l : Link) (f : Frame) (s : State) : (freed l f s).store = s.store := by simp [freed]

theorem serve_freed_none {l : Link} {f : Frame} {s : State} (h : (s.link l).waiting = none) :
    serve l (freed l f s) = freed l f s :=
  serve_none (by simpa using h)

/-- A link that is still taken, or that a commit holds, leaves its waiting request waiting (R197). -/
theorem serve_freed_busy {l : Link} {f : Frame} {s : State}
    (h : (if f.isReply then none else (s.link l).current).isSome ∨ s.store.committing = true) :
    serve l (freed l f s) = freed l f s := by
  rcases hw : (s.link l).waiting with _ | p
  · exact serve_freed_none hw
  · refine serve_busy (p := p) (by simpa using hw) ?_
    rw [link_freed, freed_store]
    exact h.imp_right Or.inr

theorem serve_freed_takes {l : Link} {f : Frame} {s : State} {p : List Byte} (hw : (s.link l).waiting = some p)
    (hc : (if f.isReply then none else (s.link l).current) = none) (hk : s.store.committing = false) :
    serve l (freed l f s) =
      judgeRequest l p (s.setLink l { s.link l with tx := none, waiting := none, current := some p }) := by
  rw [serve_takes (p := p) (by simpa using hw) (by rw [link_freed]; exact hc) (by simp) (by simpa using hk), link_freed,
    freed, State.setLink_setLink]

/-- Settles O6: the receiver by `takeByte` and `frameByte`, the transmitter by `serve` on the freed link. -/
theorem receivedBytesAndSentFramesMoveTheLinks : Obligations.ReceivedBytesAndSentFramesMoveTheLinks := by
  refine ⟨crc16_eq, fun l b s => ⟨exec_frameByteReceived_held l b, fun hrx => ⟨fun hz => ?_, exec_byteGapExpiry_hunting hrx⟩,
    fun got gap hrx => ⟨fun hz hg => ?_, fun hz hg => ⟨fun hn => ?_, fun hn hlen => ?_, fun hn hlen hbad => ?_⟩,
      exec_byteGapExpiry_inFrame hrx⟩⟩,
    fun l s => exec_transmitFrameEnd_free, fun l f s hf => ⟨fun hw => ?_, fun hb => ?_, fun p hw hc hk => ?_⟩⟩
  · rw [exec_frameByteReceived_free l b hz, takeByte_hunting hrx]
    rfl
  · rw [exec_frameByteReceived_free l b hz, takeByte_late hrx hg]
    rfl
  · rw [exec_frameByteReceived_free l b hz, takeByte_inFrame hrx hg, frameByte_abandons hn]
  · rw [exec_frameByteReceived_free l b hz, takeByte_inFrame hrx hg, frameByte_collects hn hlen]
  · rw [exec_frameByteReceived_free l b hz, takeByte_inFrame hrx hg, frameByte_whole hn hlen, if_neg]
    rw [frameIsRequest_iff, not_and_or]
    exact hbad
  · rw [exec_transmitFrameEnd_sent hf, serve_freed_none hw]
    rfl
  · rw [exec_transmitFrameEnd_sent hf, serve_freed_busy hb]
    rfl
  · rw [exec_transmitFrameEnd_sent hf, serve_freed_takes hw hc hk]

/-! ## A frame received byte by byte (R195) -/

/-- The bytes of a request's frame after 0xA5: its length, its type and its payload, and their CRC (Frame). -/
def frameBody (payload : List Byte) : List Byte := toBE payload.length 1 ++ toBE 1 1 ++ payload

theorem frameAround_eq (payload : List Byte) :
    frameAround 1 payload = 0xA5#8 :: (frameBody payload ++ crcBytes (frameBody payload)) := rfl

theorem frameBody_length (payload : List Byte) : (frameBody payload).length = payload.length + 2 := by
  simp [frameBody]; omega

theorem crcBytes_length (bs : List Byte) : (crcBytes bs).length = 2 := by simp [crcBytes]

/-- The length byte of a frame's bytes, once the first of them is in. -/
theorem frameLength_cons (n : Nat) (h : n < 256) (rest : List Byte) : frameLength (toBE n 1 ++ rest) = n := by
  simp [frameLength, fieldU, toBE, beNat_cons]; omega

section
variable {payload : List Byte}

theorem frameLength_frame (h : payload.length ≤ 240) (crc : List Byte) :
    frameLength (frameBody payload ++ crc) = payload.length := by
  rw [frameBody, List.append_assoc, List.append_assoc, frameLength_cons _ (by omega)]

theorem frameIsRequest_frame (h : payload.length ≤ 240) :
    frameIsRequest (frameBody payload ++ crcBytes (frameBody payload)) = true := by
  have hlen : payload.length + 2 = (frameBody payload).length := (frameBody_length payload).symm
  rw [frameIsRequest_iff, frameLength_frame h, hlen, fieldU, List.drop_left, List.take_left,
    List.take_of_length_le (crcBytes_length _).le, crcBytes, beNat_toBE _ 2 (crc16 _).isLt]
  exact ⟨rfl, by simp [frameBody, toBE]⟩

theorem framePayload_frame (h : payload.length ≤ 240) :
    framePayload (frameBody payload ++ crcBytes (frameBody payload)) = payload := by
  rw [framePayload, frameLength_frame h]
  simp [frameBody, toBE]

end

/-- While the reset input is held every byte is discarded (R207). -/
theorem runCommands_bytes_held {l : Link} {s : State} (h : s.inputs.reset = true) :
    ∀ bs : List Byte, runCommands (bytesArrive l bs) s = .next s
  | [] => rfl
  | b :: bs => by
    have hb : runCommands (bytesArrive l (b :: bs)) s = runCommands (bytesArrive l bs) s := by
      simp only [bytesArrive, List.map_cons, runCommands, exec_frameByteReceived_held l b h]
    rw [hb, runCommands_bytes_held h bs]

theorem runCommands_byte {l : Link} {b : Byte} {bs : List Byte} {s : State} (h : s.inputs.reset = false) :
    runCommands (bytesArrive l (b :: bs)) s = runCommands (bytesArrive l bs) (takeByte l b s) := by
  simp only [bytesArrive, List.map_cons, runCommands, exec_frameByteReceived_free l b h]

/-- The bytes of a frame are collected up to the last, and the whole frame is then judged (R195). -/
theorem runCommands_collects {l : Link} {s : State} (hz : s.inputs.reset = false) {n : Nat} (hn : n ≤ 240) :
    ∀ (rest pre : List Byte), rest ≠ [] → (pre ++ rest).length = n + 4 →
      (∀ k, 0 < k → frameLength ((pre ++ rest).take k) = n) →
      runCommands (bytesArrive l rest) (s.setReceiver l (.inFrame pre 0)) = .next (frameByte l (pre ++ rest) s)
  | [], _, h, _, _ => absurd rfl h
  | b :: rest, pre, _, hlen, hfl => by
    have hz' : (s.setReceiver l (.inFrame pre 0)).inputs.reset = false := by rw [State.setReceiver_inputs, hz]
    have hrx : ((s.setReceiver l (.inFrame pre 0)).link l).rx = .inFrame pre 0 := by simp
    have happ : pre ++ b :: rest = (pre ++ [b]) ++ rest := by simp
    rw [happ] at hlen hfl ⊢
    have hnow : frameLength (pre ++ [b]) = n := by
      have := hfl (pre ++ [b]).length (by simp)
      rwa [List.take_left] at this
    rw [runCommands_byte hz', takeByte_inFrame hrx (by omega)]
    rcases eq_or_ne rest [] with rfl | hne
    · rw [List.append_nil] at hlen ⊢
      rw [frameByte_whole (by omega) (by omega), frameByte_whole (by omega) (by omega), State.setReceiver_setReceiver]
      rfl
    · have hpos : 0 < rest.length := List.length_pos_iff.2 hne
      rw [List.length_append] at hlen
      rw [frameByte_collects (by omega) (by omega), State.setReceiver_setReceiver]
      exact runCommands_collects hz hn rest (pre ++ [b]) hne (by rw [List.length_append]; exact hlen) hfl

theorem setReceiver_same {l : Link} {r : Receiver} {s : State} (h : (s.link l).rx = r) : s.setReceiver l r = s := by
  subst h
  cases l <;> rfl

/-- A whole request frame is the arrival of its payload (R195; log entry 5). -/
theorem runCommands_frame {l : Link} {s : State} {payload : List Byte} (hrx : (s.link l).rx = .hunting)
    (hz : s.inputs.reset = false) (hp : payload.length ≤ 240) :
    runCommands (bytesArrive l (frameAround 1 payload)) s = .next (requestArrives l payload s) := by
  have hstart : takeByte l 0xA5#8 s = s.setReceiver l (.inFrame [] 0) := by
    rw [takeByte_hunting hrx]
    rfl
  have hlen : (frameBody payload ++ crcBytes (frameBody payload)).length = payload.length + 4 := by
    rw [List.length_append, frameBody_length, crcBytes_length]
  have hfl : ∀ k, 0 < k →
      frameLength ((frameBody payload ++ crcBytes (frameBody payload)).take k) = payload.length := by
    intro k hk
    obtain ⟨k, rfl⟩ := Nat.exists_eq_add_of_lt hk
    have := frameLength_frame (payload := payload) hp (crcBytes (frameBody payload))
    simpa [frameLength, fieldU, List.take_take, Nat.min_eq_left] using this
  rw [frameAround_eq, runCommands_byte hz, hstart,
    runCommands_collects hz hp _ [] (by intro h; rw [h] at hlen; simp at hlen) (by simpa using hlen) (by simpa using hfl),
    List.nil_append, frameByte_whole (by rw [frameLength_frame hp]; exact hp) (by rw [frameLength_frame hp]; exact hlen),
    if_pos (frameIsRequest_frame hp), framePayload_frame hp, setReceiver_same hrx]

/-- A payload shorter than a mnemonic is answered UNKNOWN with four zero bytes (R198). -/
theorem judgeRequest_short {l : Link} {payload : List Byte} {u : State} (h : payload.length < 4)
    (hd : u.store.dataState ≠ .checking) :
    judgeRequest l payload u = u.setLink l
      { u.link l with overrun := false, tx := some (.reply [0#8, 0#8, 0#8, 0#8] .unknown (statusByte u l) []) } := by
  have hr : requestOf l payload = none := if_pos h
  have hm : replyMnemonic payload = [0#8, 0#8, 0#8, 0#8] := if_pos h
  simp only [judgeRequest, if_neg hd, hr, hm, sendReply]

/-- Settles O5: a whole frame is the arrival of its payload, which is what the command of its request is. -/
theorem aRequestFrameIsItsCommand : Obligations.ARequestFrameIsItsCommand := by
  refine fun l s hrx => ⟨fun m args ha => ?_, fun payload hp hr => ?_⟩
  · rw [exec_command]
    rcases Bool.eq_false_or_eq_true s.inputs.reset with hz | hz
    · rw [runCommands_bytes_held hz, presentRequest_lost (.inr hz)]
    · rw [presentRequest_arrives ha hz, runCommands_frame hrx hz (by simp [payloadOf]; omega)]
  · obtain ⟨hw, hc, ht, hk, hd, hz⟩ := hr
    rw [runCommands_frame hrx hz (by omega), requestArrives_taken hw hc ht hk, judgeRequest_short hp (by simpa using hd)]

/-! ## The passing of time (R204; log entries 1 and 22) -/

theorem step_idle {s : State} (h : s.pending = []) : step s = idle s := by simp only [step, h]

theorem idle_due {s : State} {c : Instr} (h : due s = some c) : idle s = exec c s := by simp only [idle, h]

theorem idle_none {s : State} (h : due s = none) : idle s = .next (passMillisecond s) := by simp only [idle, h]

/-- A valve counts while it is in travel (R97). -/
theorem valve_tick_eq (v : Valve) :
    v.tick = if v.state = .opening ∨ v.state = .closing then { v with countdown := v.countdown - 1 } else v :=
  if_congr v.state.moving_iff rfl rfl

/-- The interval counts while RUNNING or SUSPENDING, the dwell while RUNNING (R128, R132). -/
theorem seqCore_tick_eq (c : SeqCore) : c.tick = { c with
    interval := if c.state = .running ∨ c.state = .suspending then c.interval - 1 else c.interval
    dwell := if c.state = .running then c.dwell - 1 else c.dwell } := by
  obtain ⟨state, _⟩ := c
  cases state <;> rfl

/-- The windows in milliseconds move, and nothing else (R195, R204). -/
theorem passWindows_eq (s : State) : passWindows s = { s with
    links := { s.links with
      ship := { s.links.ship with rx := s.links.ship.rx.wait }, shore := { s.links.shore with rx := s.links.shore.rx.wait } }
    gauge := { s.gauge with poll := s.gauge.poll.map Nat.pred } } := rfl

/-- The countdowns of 0.1 s move, and nothing else (R204). -/
theorem tick_eq (s : State) : tick s = { s with
    gauge := { s.gauge with countdown := s.gauge.countdown.map Nat.pred }
    xfer := { s.xfer with valves := s.xfer.valves.map Valve.tick }
    meter := { s.meter with p0 := s.meter.p0.tick, p1 := s.meter.p1.tick, p2 := s.meter.p2.tick, p3 := s.meter.p3.tick }
    seq := { s.seq with core := s.seq.core.tick }
    tracker := { s.tracker with ack := s.tracker.ack.map Nat.pred } } := rfl

/-- The part after the windows of a millisecond, whose tick and second boundary are still to come (R204). -/
def passed (s : State) : State := passWindows (countMs s)

theorem countTime_eq (s : State) : countTime s =
    if (s.time.ms + 1) % 1000 = 0 then secondBoundary (if (s.time.ms + 1) % 100 = 0 then tick (passed s) else passed s)
    else if (s.time.ms + 1) % 100 = 0 then tick (passed s) else passed s := rfl

section
variable {s : State}

theorem passMillisecond_window (hz : s.inputs.reset = false) (h : (s.time.ms + 1) % 100 ≠ 0) :
    passMillisecond s = passed s := by
  rw [passMillisecond, unlessHeld_free _ s hz, countTime_eq, if_neg (by omega), if_neg h]

theorem passMillisecond_tick (hz : s.inputs.reset = false) (h : (s.time.ms + 1) % 100 = 0)
    (h' : (s.time.ms + 1) % 1000 ≠ 0) : passMillisecond s = tick (passed s) := by
  rw [passMillisecond, unlessHeld_free _ s hz, countTime_eq, if_neg h', if_pos h]

theorem passMillisecond_second (hz : s.inputs.reset = false) (h : (s.time.ms + 1) % 1000 = 0) :
    passMillisecond s = secondBoundary (tick (passed s)) := by
  rw [passMillisecond, unlessHeld_free _ s hz, countTime_eq, if_pos h, if_pos (by omega)]

end

/-- Settles O2: what is taken is `due`, and a millisecond is the windows, the tick at its period and the second boundary at
its own. -/
theorem anEmptyQueueLetsTimePass : Obligations.AnEmptyQueueLetsTimePass := by
  refine ⟨fun s hq => ⟨fun c before after ho hc hb => ?_, fun hno => ?_⟩,
    fun s hz => unlessHeld_held _ s hz, fun s hz => ?_⟩
  · rw [step_idle hq, idle_due (due_some_iff.2 ⟨before, after, ho, hc, hb⟩)]
  · rw [step_idle hq, idle_none (due_none_iff.2 hno)]
  · intro link valve pump c passed' ticked
    have hpassed : passed s = passed' := rfl
    have hticked : tick (passed s) = ticked := by
      have hvalve : Valve.tick = valve := funext valve_tick_eq
      rw [tick_eq, seqCore_tick_eq, hvalve]
      rfl
    refine ⟨fun h => ?_, fun h h' => ?_, fun h => ?_⟩
    · rw [passMillisecond_window hz h, hpassed]
    · rw [passMillisecond_tick hz h h', hticked]
    · rw [passMillisecond_second hz h, hticked, exec_secondBoundary, unlessHeld_free _ ticked hz]

/-! ## The hardware reset (R207) -/

/-- A grant at which no transfer runs hands none over (R172, step 1). -/
theorem handOvers_allIdle {w : State} (h : AllIdle w) : drivers.foldl handOver w = w := by
  have hkeep (d : Driver) : handOver w d = w := by simp [handOver, h d]
  simp only [drivers, List.foldl_cons, List.foldl_nil, hkeep]

/-- Where no transfer runs and the data is not in force nothing moves: no valve is then assigned (R96, R172). -/
theorem nothingMoves_of_not_valid {w : State} (h : AllIdle w) (hv : w.store.dataState ≠ .valid) : NothingMoves w := by
  refine ⟨fun d => by simp [h d], fun ch _ ha => ?_⟩
  rw [assigned_of_not_valid hv] at ha
  exact absurd ha (by decide)

/-- A request taken where no transfer runs and the data is not in force is granted at once, and the grant changes the console
and the Sequencer alone (R171, R172). -/
theorem requestRises_allIdle {w : State} (h : AllIdle w) (hv : w.store.dataState ≠ .valid) :
    (requestRises w).console.state = .granted ∧ (requestRises w).console.grantLine = true ∧
      (requestRises w).seq.core.state = .yielded ∧ (requestRises w).seq.saved = some w.seq.core ∧
      requestRises w = { w with console := (requestRises w).console, seq := (requestRises w).seq } := by
  let r : State := w.setConsole { w.console with state := .requested }
  have hr : AllIdle r := fun d => (congrArg Transfer.state (State.transfer_congr rfl d)).trans (h d)
  have hg : requestRises w = grant r :=
    if_pos ⟨rfl, (grantCondition_iff r).2 (nothingMoves_of_not_valid hr hv)⟩
  rw [hg, grant, handOvers_allIdle hr]
  exact ⟨rfl, rfl, rfl, rfl, rfl⟩

/-- The part at its reset values, with the levels of the reset input and of the straps, and the link rate that the straps give
when the reset ends (R196, R207). -/
def resetState (held a b : Bool) (s : State) : State :=
  let r := resetBlocks (setResetInputs held a b s)
  { r with links := { r.links with rate := if held then s.links.rate else rateOf a b } }

theorem resetPart_eq (held a b : Bool) (s : State) : resetPart held a b s =
    if held = false ∧ s.inputs.consoleRequest = true then requestRises (resetState held a b s)
    else resetState held a b s := by
  cases held
  · cases h : s.inputs.consoleRequest <;>
      simp [resetPart, endReset, resetState, resetBlocks, setResetInputs, h]
  · rfl

theorem allIdle_resetState (held a b : Bool) (s : State) : AllIdle (resetState held a b s) := fun d => by cases d <;> rfl

theorem not_valid_resetState (held a b : Bool) (s : State) : (resetState held a b s).store.dataState ≠ .valid := nofun

/-- A request that stands when the reset ends is taken and granted, and changes the console and the Sequencer alone. -/
theorem resetPart_only (held a b : Bool) (s : State) : ∃ c q,
    resetPart held a b s = { resetState held a b s with console := c, seq := q } := by
  rw [resetPart_eq]
  split
  · obtain ⟨-, -, -, -, honly⟩ := requestRises_allIdle (allIdle_resetState held a b s) (not_valid_resetState held a b s)
    exact ⟨_, _, honly⟩
  · exact ⟨_, _, rfl⟩

theorem resetPart_keeps {held a b : Bool} {s : State} (h : held = true ∨ s.inputs.consoleRequest = false) :
    resetPart held a b s = resetState held a b s := by
  rw [resetPart_eq, if_neg]
  rcases h with h | h <;> simp [h]

theorem resetPart_grants {held a b : Bool} {s : State} (hh : held = false) (h : s.inputs.consoleRequest = true) :
    resetPart held a b s = requestRises (resetState held a b s) := by
  rw [resetPart_eq, if_pos ⟨hh, h⟩]

theorem valve_resetState (held a b : Bool) (s : State) {ch : Nat} (h : ch < 38) : (resetState held a b s).valve ch =
    Valve.shut.adopt (Feedback.ofLimits (s.inputs.openLimit.get ch) (s.inputs.closedLimit.get ch)) :=
  Tab.get_build _ ch h

theorem gaugeRec_resetState (held a b : Bool) (s : State) {c : Nat} (h : c < 48) : (resetState held a b s).gaugeRec c =
    if s.store.tables.isBallast c then some (GaugeRec.unread 0) else none :=
  Tab.get_build _ c h

/-- A request on a part whose reset input is held is lost, whatever its arguments (R207). -/
theorem exec_command_held {s : State} (h : s.inputs.reset = true) (m : Mnem) (l : Link) (args : List Byte) :
    exec (m.command l args) s = .next s := by
  rw [exec_command, presentRequest_lost (.inr h)]

/-- Settles O14: the part after the reset is `resetState`, beside what a grant at its release does. -/
theorem hardwareResetGivesEveryBlockItsValues : Obligations.HardwareResetGivesEveryBlockItsValues := by
  refine ⟨fun held a b s => ⟨resetPart held a b s, rfl, ?_⟩, fun s hz => ?_⟩
  · have hcons : held = true ∨ s.inputs.consoleRequest = false →
        (resetPart held a b s).console = State.reset.console ∧ (resetPart held a b s).seq = State.reset.seq := by
      intro h
      rw [resetPart_keeps h]
      exact ⟨rfl, rfl⟩
    have hgrant : held = false → s.inputs.consoleRequest = true →
        (resetPart held a b s).console.state = .granted ∧ (resetPart held a b s).console.grantLine = true ∧
          (resetPart held a b s).seq.core.state = .yielded ∧
          (resetPart held a b s).seq.saved = some (SeqCore.fresh .empty) := by
      intro hh h
      rw [resetPart_grants hh h]
      obtain ⟨hstate, hline, hyield, hsaved, -⟩ :=
        requestRises_allIdle (allIdle_resetState held a b s) (not_valid_resetState held a b s)
      exact ⟨hstate, hline, hyield, hsaved⟩
    obtain ⟨c, q, honly⟩ := resetPart_only held a b s
    rw [honly] at hcons hgrant ⊢
    refine ⟨rfl, rfl, rfl, rfl, rfl, rfl, rfl, rfl, fun ch hch => valve_resetState held a b s hch, rfl,
      fun c hc => gaugeRec_resetState held a b s hc, ?_, rfl, rfl, hcons, hgrant⟩
    cases a <;> cases b <;> rfl
  · refine ⟨fun p => ?_, ?_, exec_verificationEnd_quiet (.inl hz), fun l b => exec_frameByteReceived_held l b hz,
      fun m l args => exec_command_held hz m l args, unlessHeld_held _ s hz, fun _ => ?_⟩
    · rw [exec_meterPulse, unlessHeld_held _ s hz]
    · rw [exec_secondBoundary, unlessHeld_held _ s hz]
    · exact congrArg Host.Outcome.next (consoleRises_elsewhere (.inr hz))

/-! ## RSTR (R208) -/

/-- The sweep that begins is that of the tables and the gauges alone (R22). -/
theorem beginSweep_gauge_congr {a b : State} (hs : a.store = b.store) (hg : a.gauge = b.gauge) :
    (beginSweep a).gauge = (beginSweep b).gauge := by
  have hvalid : dataValid a = dataValid b := by rw [dataValid, dataValid, hs]
  have hnext (g : Gauging) : nextPolled (a.setGauging g) 0 = nextPolled (b.setGauging g) 0 := by
    have hpolled : polled (a.setGauging g) = polled (b.setGauging g) := by funext n; simp [polled, hs]
    simp only [nextPolled, State.setGauging_store, hs, hpolled]
  simp only [beginSweep, hvalid, hg, hnext]
  split
  · split <;> rfl
  · exact hg

/-- The sweep that ended leaves nothing to the one that begins (R22). -/
theorem beginSweep_stopSweep {s : State} (h : s.store.dataState = .valid) : beginSweep (stopSweep s) = beginSweep s := by
  have hvalid : dataValid s = true := dataValid_iff.2 h
  have hvalid' : dataValid (stopSweep s) = true := hvalid
  rw [beginSweep, beginSweep, hvalid, hvalid']
  rfl

theorem beginSweep_only (s : State) : beginSweep s = { s with gauge := (beginSweep s).gauge } := by
  by_cases h : s.store.dataState = .valid
  · obtain ⟨honly, -⟩ := beginSweep_begins s h
    generalize beginSweep s = t at *
    rw [honly]
  · rw [beginSweep_not_valid h]

theorem setRefreshMark_only (s : State) : setRefreshMark s = { s with engine := (setRefreshMark s).engine } := by
  unfold setRefreshMark engineRun
  rw [takeMark_eq (takeMark _), takeMark_eq]
  split <;> rfl

/-- The gauges once a sweep has ended without a sweep end and the next has begun (R208, step 4). -/
def resweptGauge (s : State) : Gauging := (beginSweep (stopSweep s)).gauge

theorem resweptGauge_congr {a b : State} (hs : a.store = b.store) (hg : a.gauge = b.gauge) :
    resweptGauge a = resweptGauge b :=
  beginSweep_gauge_congr hs (by simp only [stopSweep, hg]; rfl)

theorem resweptGauge_valid {s : State} (h : s.store.dataState = .valid) :
    BeginsSweep s { s with gauge := resweptGauge s } := by
  rw [resweptGauge, beginSweep_stopSweep h, ← beginSweep_only]
  exact beginSweep_begins s h

theorem resweptGauge_not_valid {s : State} (h : s.store.dataState ≠ .valid) : resweptGauge s = { s.gauge with
    sweeping := false, slot := 0, poll := none, countdown := none, readings := Tab.replicate 32 .notPolled } :=
  congrArg State.gauge (beginSweep_not_valid (s := stopSweep s) h)

theorem restartSweep_eq (s : State) : restartSweep s =
    { s with store := { s.store with window := none }, gauge := resweptGauge s } := by
  rw [restartSweep, beginSweep_only, resweptGauge]
  rfl

theorem restartEngine_eq (s : State) : restartEngine s =
    { s with engine := (setRefreshMark { s with engine := { s.engine with job := none, lastKind := none } }).engine } := by
  rw [restartEngine, setRefreshMark_only]
  rfl

/-- The Sequencer after step 5 (R146, R208). -/
def restartedSeq (q : Sequencer) : Sequencer :=
  if q.core.state = .yielded then
    { q with core := SeqCore.fresh .yielded, saved := some (SeqCore.fresh (restartSeqState q.active)) }
  else { q with core := SeqCore.fresh (restartSeqState q.active), saved := none }

theorem restartSeq_eq (s : State) : restartSeq s = { s with seq := restartedSeq s.seq } := by
  unfold restartSeq restartedSeq
  split <;> rfl

theorem restartSeqState_cases (b : ProgramBank) : restartSeqState b = .empty ∨ restartSeqState b = .ready := by
  unfold restartSeqState
  split
  · exact .inl rfl
  · exact .inr rfl

/-- A restarted Sequencer has nothing in hand (R146). -/
theorem restartedSeq_progress (q : Sequencer) : (restartedSeq q).core.progress = none := by
  unfold restartedSeq
  split <;> rfl

/-- A restarted Sequencer is EMPTY or READY, and one that is YIELDED stays so (R146; log entry 47). -/
theorem restartedSeq_state (q : Sequencer) : (restartedSeq q).core.state = .empty ∨
    (restartedSeq q).core.state = .ready ∨ (restartedSeq q).core.state = .yielded := by
  unfold restartedSeq
  split
  · exact .inr (.inr rfl)
  · exact (restartSeqState_cases q.active).imp_right .inl

/-- The links after steps 1 and 2, with RSTR the current request and its reply in the transmitter (R208). -/
def restartedLinks (s : State) : Links := { s.links with
  notices := Tab.replicate 10 none
  ship := ⟨.hunting, none, some (payloadOf .rstr []), false,
    some (.reply Mnem.rstr.letters .done (statusByte (taken .ship .rstr [] s) .ship) [])⟩
  shore := { s.links.shore with
    rx := .hunting, waiting := none, overrun := s.links.shore.overrun || s.links.shore.waiting.isSome } }

/-- The part after steps 1 to 5 of an RSTR, whose reply is formed (R208). -/
def restarted (s : State) : State := { s with
  store := { s.store with window := none }
  gauge := resweptGauge s
  engine := (setRefreshMark { s with engine := { s.engine with job := none, lastKind := none } }).engine
  seq := restartedSeq s.seq
  links := restartedLinks s }

/-- The part whose reply to RSTR is formed (R199, R208). -/
def rstrReplied (s : State) : State := answer .ship .rstr (done (taken .ship .rstr [] s) [])

theorem restartLinks_eq (s : State) : emptyNotices (restartLink .shore (restartLink .ship (rstrReplied s))) =
    { s with links := restartedLinks s } := rfl

/-- Each step of the restart changes the blocks of its own, and reads nothing that an earlier one has changed (R208). -/
theorem restart_steps (s : State) : restartSeq (restartSweep (restartEngine (emptyNotices
    (restartLink .shore (restartLink .ship (rstrReplied s)))))) = restarted s := by
  have hengine : (setRefreshMark { s with
      links := restartedLinks s, engine := { s.engine with job := none, lastKind := none } }).engine =
      (setRefreshMark { s with engine := { s.engine with job := none, lastKind := none } }).engine :=
    FeedsAlike.setRefreshMark ⟨rfl, rfl, rfl, rfl, rfl⟩
  rw [restartLinks_eq, restartEngine_eq, restartSweep_eq, restartSeq_eq, hengine, restarted]
  congr 1
  exact resweptGauge_congr rfl rfl

/-- A Sequencer that is EMPTY, READY or YIELDED hears nothing at the end of an act (R125; log entry 30). -/
theorem sequencerHears_quiet (before : State) {t : State}
    (h : t.seq.core.state = .empty ∨ t.seq.core.state = .ready ∨ t.seq.core.state = .yielded) :
    sequencerHears before t = t := by
  rcases h with h | h | h <;> simp only [sequencerHears, h]

/-- The restart ends the active transfers and hands on the end of RECONCILING and the grant condition (R120, R208). -/
theorem restart_eq (s : State) :
    restart (rstrReplied s) = judgeGrant (endReconciling (endEvents drivers .restart (restarted s))) := by
  have hcore : (endEvents drivers .restart (restarted s)).seq.core = (restartedSeq s.seq).core :=
    (endEvents_keeps .restart drivers (restarted s)).core (restartedSeq_progress s.seq)
  rw [restart, restart_steps, restartTransfers, settle, sequencerHears_quiet]
  rw [hcore]
  exact restartedSeq_state s.seq

theorem rstrAct_restarts (s : State) :
    rstrAct .ship [] (taken .ship .rstr [] s) =
      judgeGrant (endReconciling (endEvents drivers .restart (restarted s))) :=
  (if_neg (not_not.2 rfl)).trans (restart_eq s)

theorem rstrAct_length {args : List Byte} (s : State) (h : args ≠ []) :
    rstrAct .ship args s = answer .ship .rstr (refuse .length s) := if_pos h

/-- Where no transfer is active nothing ends (R116, R120). -/
theorem endEvents_allIdle {reason : EndReason} {s : State} (h : AllIdle s) :
    ∀ l : List Driver, endEvents l reason s = s
  | [] => rfl
  | d :: l => by
    have hd : endEvent d reason s = s := endEvent_inactive (by rw [h d]; rfl)
    exact (congrArg (endEvents l reason) hd).trans (endEvents_allIdle h l)

/-- A transfer that is not active is left as it is by every end event (R116). -/
theorem endEvents_inactive {reason : EndReason} {d : Driver} :
    ∀ (l : List Driver) {s : State}, (s.transfer d).state.active = false →
      (endEvents l reason s).transfer d = s.transfer d
  | [], _, _ => rfl
  | e :: l, s, h => by
    have he : (endEvent e reason s).transfer d = s.transfer d := by
      rcases eq_or_ne d e with rfl | hne
      · rw [endEvent_inactive h]
      · exact endEvent_other hne
    exact (endEvents_inactive l (s := endEvent e reason s) (by rw [he]; exact h)).trans he

/-- Settles O12: the part before the ends is `restarted`, and its transfers are ended one after another. -/
theorem rstrRestartsThePart : Obligations.RstrRestartsThePart := by
  refine ⟨fun s hr => ⟨resweptGauge s, resweptGauge_valid, resweptGauge_not_valid, ?_⟩,
    fun d r w => ⟨endEvent_closes r, endEvent_inactive⟩,
    otherFormsRefused _ _ rfl fun args s h => rstrAct_length s h, unknownOnShore _ rfl⟩
  intro fresh u v t
  have ht : t = endEvents drivers .restart (restarted s) := rfl
  have hexec : exec (.rstr .ship []) s = .next (judgeGrant (endReconciling t)) :=
    (exec_ready .rstr .ship [] s hr empty_fits rfl).trans (congrArg Host.Outcome.next (rstrAct_restarts s))
  have hconsole : t.console.state = s.console.state := by
    rw [ht]
    simp only [endEvents_fields]
    rfl
  have htransfer (d : Driver) : (restarted s).transfer d = s.transfer d := State.transfer_congr rfl d
  refine ⟨hexec, fun hc => ?_, fun d hd => ?_, fun d hd => ?_, fun hidle => ?_⟩
  · rw [hexec, endReconciling_quiet t, judgeGrant_quiet t]
    all_goals rcases hc with hc | hc <;> rw [hconsole, hc] <;> decide
  · exact endEvents_ended (s := restarted s) (by decide) (mem_drivers d) (by rw [htransfer]; exact hd)
  · exact (endEvents_inactive drivers (s := restarted s) (by rw [htransfer]; exact hd)).trans (htransfer d)
  · exact endEvents_allIdle (s := restarted s) (fun d => by rw [htransfer]; exact hidle d) drivers

end Sys2Proof.LinksAndTime
end

section
/-! PROOF. The statements about the queue of commands (log entries 1 and 32): a step carries out the command at its front, and no
command touches it. -/

namespace Sys2Proof.CommandQueue

open Sys2Proof.Machine Sys2Proof.ShipData Sys2Proof.Survey Sys2Proof.LimitsUnit Sys2Proof.LinksAndTime

/-- Settles O1: the front of the queue selects the first branch of `step`. -/
theorem stepTakesTheFrontCommand : Obligations.StepTakesTheFrontCommand := by
  intro s c rest h
  simp only [step, h]

/-! ## Requests -/

@[simp] theorem answer_pending (l : Link) (m : Mnem) (a : Answer) : (answer l m a).pending = a.state.pending := by
  simp [answer_eq_replied]

@[simp] theorem unlessHeld_pending {f : State → State} (hf : ∀ u, (f u).pending = u.pending) (s : State) :
    (unlessHeld f s).pending = s.pending := by
  simp only [unlessHeld]; split
  · rfl
  · exact hf s

section
variable (args : List Byte) (s : State)

/-! The requests of the ship data, gauging and the Condition Engine. -/

@[simp] theorem storeRows_pending (w : Window) (k : Nat) : (storeRows w k args s).pending = s.pending := by
  rw [storeRows, writeRows_only]
  simp only
  split <;> simp [withRows]

@[simp] theorem wselMsg_pending : (wselMsg args s).state.pending = s.pending := by
  simp only [wselMsg]; (repeat' split) <;> simp

@[simp] theorem wputMsg_pending : (wputMsg args s).state.pending = s.pending := by
  simp only [wputMsg]; (repeat' split) <;> simp

@[simp] theorem wgetMsg_pending : (wgetMsg args s).state.pending = s.pending := by
  simp only [wgetMsg]; (repeat' split) <;> simp

@[simp] theorem sdcmAct_pending (l : Link) : (sdcmAct l args s).pending = s.pending := by
  simp only [sdcmAct]; split <;> simp

@[simp] theorem smskMsg_pending : (smskMsg args s).state.pending = s.pending := by
  simp only [smskMsg]; (repeat' split) <;> simp

@[simp] theorem tdenMsg_pending : (tdenMsg args s).state.pending = s.pending := by
  simp only [tdenMsg]; (repeat' split) <;> simp [setDensity, resnapTank_eq]

@[simp] theorem fixmMsg_pending : (fixmMsg args s).state.pending = s.pending := by
  simp only [fixmMsg]; (repeat' split) <;> simp [setFixed]

@[simp] theorem tideMsg_pending : (tideMsg args s).state.pending = s.pending := by
  simp only [tideMsg]; (repeat' split) <;> simp

@[simp] theorem stprMsg_pending : (stprMsg args s).state.pending = s.pending := by
  simp only [stprMsg]; (repeat' split) <;> simp

/-! The requests of the Transfer Unit and the Sequencer. -/

@[simp] theorem xstaMsg_pending : (xstaMsg args s).state.pending = s.pending := by
  simp only [xstaMsg]; (repeat' split) <;> simp

@[simp] theorem xstpMsg_pending : (xstpMsg args s).state.pending = s.pending := by
  simp only [xstpMsg]; (repeat' split) <;> simp

@[simp] theorem valvMsg_pending : (valvMsg args s).state.pending = s.pending := by
  simp only [valvMsg, closeValve, queryValve]; (repeat' split) <;> simp

@[simp] theorem vclrMsg_pending : (vclrMsg args s).state.pending = s.pending := by
  simp only [vclrMsg, clearValve]; (repeat' split) <;> simp

@[simp] theorem sqxcMsg_pending : (sqxcMsg args s).state.pending = s.pending := by
  simp only [sqxcMsg]; (repeat' split) <;> simp [swapPrograms]

@[simp] theorem sqgoMsg_pending : (sqgoMsg args s).state.pending = s.pending := by
  simp only [sqgoMsg]; (repeat' split) <;> simp [runFromStart, afterWalk]

@[simp] theorem suspendHost_pending : (suspendHost s).pending = s.pending := by
  simp only [suspendHost]; split <;> simp

@[simp] theorem sqpsMsg_pending : (sqpsMsg args s).state.pending = s.pending := by
  simp only [sqpsMsg]; (repeat' split) <;> simp

@[simp] theorem resumeBy_pending (why : SuspendReason) : (resumeBy why s).pending = s.pending := by
  simp only [resumeBy, resumeHost]; (repeat' split) <;> simp

@[simp] theorem sqrsMsg_pending : (sqrsMsg args s).state.pending = s.pending := by
  simp only [sqrsMsg]; (repeat' split) <;> simp [unsuspend, afterWalk]

@[simp] theorem sqabMsg_pending : (sqabMsg args s).state.pending = s.pending := by
  simp only [sqabMsg]; (repeat' split) <;> simp [readySeq]

/-! The requests of the Pour Tracker, the loader, the Record Keeper and the links. -/

@[simp] theorem opbgMsg_pending : (opbgMsg args s).state.pending = s.pending := by
  simp only [opbgMsg]; (repeat' split) <;> simp

@[simp] theorem opndMsg_pending : (opndMsg args s).state.pending = s.pending := by
  simp only [opndMsg]; (repeat' split) <;> simp

@[simp] theorem plxcMsg_pending : (plxcMsg args s).state.pending = s.pending := by
  simp only [plxcMsg]; (repeat' split) <;> simp

@[simp] theorem hsetMsg_pending : (hsetMsg args s).state.pending = s.pending := by
  simp only [hsetMsg]; (repeat' split) <;> simp

@[simp] theorem refuseLoader_pending (m : Mnem) : (refuseLoader m s).state.pending = s.pending := by
  simp [refuseLoader]

@[simp] theorem startReported_pending (pour hold : Nat) : (startReported pour hold s).state.pending = s.pending := by
  simp only [startReported]; (repeat' split) <;> simp

@[simp] theorem lpstMsg_pending : (lpstMsg args s).state.pending = s.pending := by
  simp only [lpstMsg]; (repeat' split) <;> simp

@[simp] theorem ltalMsg_pending : (ltalMsg args s).state.pending = s.pending := by
  simp only [ltalMsg]; (repeat' split) <;> simp

@[simp] theorem lpndMsg_pending : (lpndMsg args s).state.pending = s.pending := by
  simp only [lpndMsg]; (repeat' split) <;> simp

@[simp] theorem lhakMsg_pending : (lhakMsg args s).state.pending = s.pending := by
  simp only [lhakMsg]; (repeat' split) <;> simp

@[simp] theorem rptbMsg_pending : (rptbMsg args s).state.pending = s.pending := by
  simp only [rptbMsg, buildReport]; (repeat' split) <;> simp

@[simp] theorem storeEnables_pending (e : BitVec 8) : (storeEnables e s).pending = s.pending := by
  obtain ⟨n, hn, _⟩ := storeEnables_eq e s
  rw [hn]

@[simp] theorem ntenMsg_pending : (ntenMsg args s).state.pending = s.pending := by
  simp only [ntenMsg]; (repeat' split) <;> simp

@[simp] theorem clksMsg_pending : (clksMsg args s).state.pending = s.pending := by
  simp only [clksMsg]; split <;> simp [setClock]

@[simp] theorem restart_pending : (restart s).pending = s.pending := by
  simp [restart, restartTransfers, restartSeq_eq, restartSweep_eq, restartEngine_eq, emptyNotices, restartLink]

@[simp] theorem rstrAct_pending (l : Link) : (rstrAct l args s).pending = s.pending := by
  simp only [rstrAct]; split <;> simp

/-- A request carried out leaves the queue (R198). -/
@[simp] theorem perform_pending (m : Mnem) (l : Link) : (perform m l args s).pending = s.pending := by
  cases m with
  | tank | metr | cond | proj | lims | xfer | seqq | pour | phis | rptg | dlog | stat => simp [perform, queries_state]
  | wsel | wput | wget | sdcm | smsk | tden | fixm | tide | stpr | xsta | xstp | valv | vclr | sqxc | sqgo | sqps | sqrs
  | sqab | opbg | opnd | plxc | hset | lpst | ltal | lpnd | lhak | rptb | nten | clks | rstr => simp [perform]

end

/-! ## The links -/

section
variable (l : Link) (s : State)

@[simp] theorem sendReply_pending (mnemonic : List Byte) (code : ReplyCode) (data : List Item) :
    (sendReply l mnemonic code data s).pending = s.pending := State.setLink_pending ..

@[simp] theorem judgeRequest_pending (payload : List Byte) : (judgeRequest l payload s).pending = s.pending := by
  simp only [judgeRequest]; (repeat' split) <;> simp

@[simp] theorem serve_pending : (serve l s).pending = s.pending := by
  simp only [serve]; (repeat' split) <;> simp

@[simp] theorem requestArrives_pending (payload : List Byte) : (requestArrives l payload s).pending = s.pending := by
  simp only [requestArrives]; split <;> simp

theorem presentRequest_pending (m : Mnem) (args : List Byte) : (presentRequest l m args s).pending = s.pending := by
  simp only [presentRequest]; split
  · exact unlessHeld_pending (requestArrives_pending l · _) s
  · rfl

@[simp] theorem frameByte_pending (got : List Byte) : (frameByte l got s).pending = s.pending := by
  simp only [frameByte]; (repeat' split) <;> simp

@[simp] theorem takeByte_pending (b : Byte) : (takeByte l b s).pending = s.pending := by
  simp only [takeByte, huntByte]; (repeat' split) <;> simp

theorem abandonFrame_pending : (abandonFrame l s).pending = s.pending := by
  simp only [abandonFrame]; split <;> simp

theorem frameSent_pending : (frameSent l s).pending = s.pending := by
  simp only [frameSent]; split <;> simp

theorem sendShipNotice_pending : (sendShipNotice s).pending = s.pending := by
  simp only [sendShipNotice]; (repeat' split) <;> simp

theorem sendShoreNotice_pending : (sendShoreNotice s).pending = s.pending := by
  simp only [sendShoreNotice]; (repeat' split) <;> simp

end

/-! ## The events of the part -/

section
variable (s : State)

/-- The hardware reset gives every block its values and leaves the queue, which is no block (log entry 1). -/
theorem resetPart_pending (held strapA strapB : Bool) : (resetPart held strapA strapB s).pending = s.pending := by
  have hblocks : (resetBlocks (setResetInputs held strapA strapB s)).pending = s.pending := rfl
  simp only [resetPart, endReset]; (repeat' split) <;> simp [hblocks]

theorem endVerification_pending : (endVerification s).pending = s.pending := by
  simp only [endVerification]; split <;> simp

@[simp] theorem commitPasses_pending : (commitPasses s).pending = s.pending := by
  simp only [commitPasses, resetForCommit]; split <;> simp

@[simp] theorem commitFails_pending (f : FaultRecord) : (commitFails f s).pending = s.pending := by
  simp only [commitFails]; split <;> simp

theorem commitEnds_pending : (commitEnds s).pending = s.pending := by
  simp only [commitEnds, completeCommit]; (repeat' split) <;> simp

theorem acceptAnswer_pending (a : SensorAnswer) : (acceptAnswer a s).pending = s.pending := by
  simp only [acceptAnswer]; (repeat' split) <;> simp

theorem primingExpires_pending (p : Pump) : (primingExpires p s).pending = s.pending := by
  simp only [primingExpires]; split <;> simp

theorem flowExpires_pending (p : Pump) : (flowExpires p s).pending = s.pending := by
  simp only [flowExpires]; split <;> simp

theorem setFeedback_pending (p : Pump) (b : Bool) : (setFeedback p b s).pending = s.pending := rfl

theorem feedbackFalls_pending (p : Pump) : (feedbackFalls p s).pending = s.pending := by
  simp only [feedbackFalls]; split <;> simp [setFeedback_pending]

theorem limitsChange_pending (ch : Nat) (openMade closedMade : Bool) :
    (limitsChange ch openMade closedMade s).pending = s.pending := by
  simp only [limitsChange]; split <;> simp

theorem travelExpires_pending (ch : Nat) : (travelExpires ch s).pending = s.pending := by
  simp only [travelExpires]; split <;> simp

theorem intervalExpires_pending : (intervalExpires s).pending = s.pending := by
  simp only [intervalExpires]; split <;> simp

theorem dwellExpires_pending : (dwellExpires s).pending = s.pending := by
  simp only [dwellExpires]; split <;> simp

theorem ackRunsOut_pending : (ackRunsOut s).pending = s.pending := by
  simp only [ackRunsOut]; split <;> simp

@[simp] theorem freeEngine_pending : (freeEngine s).pending = s.pending := by simp [freeEngine]

@[simp] theorem completeRefresh_pending (c : Condition) : (completeRefresh c s).pending = s.pending := by
  simp [completeRefresh, handPublish, transferPublish, publish]

theorem refreshEnds_pending : (refreshEnds s).pending = s.pending := by
  simp only [refreshEnds]; (repeat' split) <;> simp

@[simp] theorem acceptResult_pending (r : ProjResult) : (acceptResult r s).pending = s.pending := by
  simp only [acceptResult]; (repeat' split) <;> simp

@[simp] theorem completeProjection_pending (j : Job) (req : ProjReq) (void : Bool) (a b : Condition) :
    (completeProjection j req void a b s).pending = s.pending := by
  simp only [completeProjection]; split <;> simp

theorem projectionEnds_pending : (projectionEnds s).pending = s.pending := by
  simp only [projectionEnds]; split <;> simp

@[simp] theorem setRequest_pending (b : Bool) : (setRequest b s).pending = s.pending := rfl

theorem consoleRises_pending : (consoleRises s).pending = s.pending := by
  simp only [consoleRises]; split <;> simp

theorem consoleDrops_pending : (consoleDrops s).pending = s.pending := by
  simp only [consoleDrops]; split <;> simp

end

/-! ## Every command -/

/-- Settles O3: a request leaves the queue whatever its rule (`perform_pending`), and so does every event of the part. -/
theorem everyCommandCompletesAndKeepsTheQueue : Obligations.EveryCommandCompletesAndKeepsTheQueue := by
  intro c s
  cases hq : c.request? with
  | some r =>
    obtain ⟨m, l, args⟩ := r
    rw [eq_command_of_request? hq, exec_command]
    exact ⟨_, rfl, presentRequest_pending l s m args⟩
  | none =>
    cases c
    case hardwareReset held straps => exact ⟨_, rfl, resetPart_pending s held straps.a straps.b⟩
    case verificationEnd =>
      refine ⟨_, rfl, unlessHeld_pending (fun u => ?_) s⟩
      split
      · exact endVerification_pending u
      · rfl
    case frameByteReceived l b => exact ⟨_, rfl, unlessHeld_pending (takeByte_pending l · b) s⟩
    case byteGapExpiry l => exact ⟨_, rfl, abandonFrame_pending l s⟩
    case transmitFrameEnd l => exact ⟨_, rfl, frameSent_pending l s⟩
    case shipNoticeSend => exact ⟨_, rfl, sendShipNotice_pending s⟩
    case shoreNoticeSend => exact ⟨_, rfl, sendShoreNotice_pending s⟩
    case commitComplete => exact ⟨_, rfl, commitEnds_pending s⟩
    case sensorAnswer a => exact ⟨_, rfl, acceptAnswer_pending s a⟩
    case replyWindowExpiry => exact ⟨_, rfl, by split <;> simp⟩
    case sweepCountdownExpiry => exact ⟨_, rfl, by split <;> simp⟩
    case meterPulse p => exact ⟨_, rfl, unlessHeld_pending (by simp) s⟩
    case secondBoundary => exact ⟨_, rfl, unlessHeld_pending (by simp) s⟩
    case primingExpiry p => exact ⟨_, rfl, primingExpires_pending s p⟩
    case noFlowExpiry p => exact ⟨_, rfl, flowExpires_pending s p⟩
    case runningFeedbackFall p => exact ⟨_, rfl, feedbackFalls_pending s p⟩
    case limitInputChange ch a b => exact ⟨_, rfl, limitsChange_pending s ch a b⟩
    case valveTravelExpiry ch => exact ⟨_, rfl, travelExpires_pending s ch⟩
    case intervalExpiry => exact ⟨_, rfl, intervalExpires_pending s⟩
    case dwellExpiry => exact ⟨_, rfl, dwellExpires_pending s⟩
    case ackExpiry => exact ⟨_, rfl, ackRunsOut_pending s⟩
    case refreshComplete => exact ⟨_, rfl, refreshEnds_pending s⟩
    case projectionComplete => exact ⟨_, rfl, projectionEnds_pending s⟩
    case consoleRequestRise => exact ⟨_, rfl, consoleRises_pending s⟩
    case consoleRequestDrop => exact ⟨_, rfl, consoleDrops_pending s⟩
    case runningFeedbackRise p => exact ⟨_, rfl, setFeedback_pending s p true⟩
    -- every other command is a request
    all_goals cases hq

end Sys2Proof.CommandQueue
end
